-- ==== Sys2Proof/Word.lean ====
section
/-!
DEFINITION. Bytes, numbers as byte strings in the two byte orders of R8, two's complement, and time in the model's
unit of 2^-16 ns.
-/

namespace Sys2Proof

/-- One byte. -/
abbrev Byte := BitVec 8

/-- Bits `hi` down to `lo` of a number. -/
def bitField (x hi lo : Nat) : Nat := (x >>> lo) % 2 ^ (hi + 1 - lo)

/-- A number of `bits` bits read as two's complement. -/
def toSigned (bits x : Nat) : Int :=
  if x % 2 ^ bits < 2 ^ (bits - 1) then (x % 2 ^ bits : Nat) else (x % 2 ^ bits : Nat) - (2 ^ bits : Nat)

/-- A signed number as two's complement of `bits` bits. -/
def ofSigned (bits : Nat) (x : Int) : Nat := (x % (2 ^ bits : Nat)).toNat

/-- The low `n` bytes of a number, least significant first (object values and windows, R8). -/
def leBytes : Nat → Nat → List Byte
  | 0, _ => []
  | n + 1, x => BitVec.ofNat 8 x :: leBytes n (x / 256)

/-- The number that bytes spell, least significant first. -/
def leNat : List Byte → Nat
  | [] => 0
  | b :: bs => b.toNat + 256 * leNat bs

/-- The low `n` bytes of a number, most significant first (ring frames, R8). -/
def beBytes (n x : Nat) : List Byte := (leBytes n x).reverse

/-- The number that bytes spell, most significant first. -/
def beNat (bs : List Byte) : Nat := leNat bs.reverse

/-- The number in bytes `i` to `i + n - 1` of a payload, most significant first; bytes past the end read 0. -/
def beAt (bs : List Byte) (i n : Nat) : Nat := beNat ((List.range n).map fun k => bs.getD (i + k) 0#8)

/-- As `beAt`, least significant byte first. -/
def leAt (bs : List Byte) (i n : Nat) : Nat := leNat ((List.range n).map fun k => bs.getD (i + k) 0#8)

/-- The larger of a natural difference and 0, the other way round: the distance of two numbers. -/
def natDist (a b : Nat) : Nat := (a - b) + (b - a)

/-- Set or clear bit `i` of a number. -/
def putBit (x i : Nat) (v : Bool) : Nat :=
  if x.testBit i = v then x else if v then x + 2 ^ i else x - 2 ^ i

/-- Durations in the model's time unit, 2^-16 ns. -/
def nsec (n : Nat) : Nat := 65536 * n
def usec (n : Nat) : Nat := nsec (1000 * n)
def msec (n : Nat) : Nat := nsec (1000000 * n)
def secs (n : Nat) : Nat := nsec (1000000000 * n)

/-- Whole nanoseconds of a time in 2^-16 ns. -/
def inNs (t : Nat) : Nat := t / 65536

/-- A ring time as TIME80 (R34): seconds × 2^32 + nanoseconds. -/
def time80 (t : Nat) : Nat := 2 ^ 32 * (inNs t / 1000000000 % 2 ^ 48) + inNs t % 1000000000

/-- The ring time, in 2^-16 ns, that a TIME80 value names. -/
def ofTime80 (v : Nat) : Nat := nsec (1000000000 * (v / 2 ^ 32) + v % 2 ^ 32)

end Sys2Proof
end

