-- ==== Sys2Proof/Machine/Types.lean ====
section
/-!
DEFINITION. The types that commands and State share: ports, masters, requests and their results, ring frame headers and
frames in the hub.
-/

namespace Sys2Proof

/-- The two ring ports (R11). -/
inductive RingPort where
  | east | west
  deriving DecidableEq, Repr

/-- The other ring port. -/
def RingPort.other : RingPort → RingPort
  | .east => .west
  | .west => .east

/-- 0 EAST, 1 WEST, the order of every pair of objects and sources. -/
def RingPort.num : RingPort → Nat
  | .east => 0
  | .west => 1

/-- The line rates of a ring port (R62). -/
inductive LineRate where
  | fallback | full
  deriving DecidableEq, Repr

/-- 1 = 2.5 Gbit/s, 2 = 5.0 Gbit/s (R94, R90). -/
def LineRate.num : LineRate → Nat
  | .fallback => 1
  | .full => 2

/-- The rate a code names; anything but 1 is the full rate. -/
def LineRate.ofNum (n : Nat) : LineRate := if n = 1 then .fallback else .full

/-- An eye margin: mV at the pads and mUI (R71). -/
structure Margins where
  v : Nat
  h : Nat
  deriving DecidableEq, Repr

/-- A master: ring.node.master (R21). -/
structure MasterId where
  ring : Fin 16
  node : Fin 8192
  num : Fin 16
  deriving DecidableEq, Repr

/-- The layout of OWNER (R46): ring [31:28], node [27:15], master [14:11]. -/
def MasterId.word (m : MasterId) : Nat := 2 ^ 28 * m.ring.val + 2 ^ 15 * m.node.val + 2 ^ 11 * m.num.val

/-- The master that a word names. -/
def MasterId.ofWord (w : Nat) : MasterId := ⟨Fin.ofNat 16 (w / 2 ^ 28), Fin.ofNat 8192 (w / 2 ^ 15), Fin.ofNat 16 (w / 2 ^ 11)⟩

/-- How a dictionary or window request reaches the hub: a posted or acknowledged fabric write or a read through a
window, a transfer on the fabric (R50), a USB message (R54), the SDO server of a CAN port (R55), or the host through a
local page or BAR2 (R302), with the ORIGIN that a failure is logged with: 1 read, 2 BAR2 write, 3 local-page write (R305); `push` is the
keeper's own transfer of a settings image (R454). -/
inductive Via where
  | window | posted | transfer | usb | sdo (port : Fin 8) | host (origin : Fin 4) | push
  deriving DecidableEq, Repr

/-- Who asks, and how: the master, its tag (R22), the transport and the class of the request. -/
structure Requester where
  master : MasterId
  tag : Fin 65536
  via : Via
  cls : Fin 4
  /-- the LOCKED bit (R81, R297) -/
  locked : Bool := false
  deriving DecidableEq, Repr

/-- Result codes (R58), in the order of their numbers. -/
inductive Result where
  | ok | noObject | noSub | accessDenied | readOnly | typeLength | range | inUse | busyRetry | commitInconsistent
  | stagedPending | lockConflict | lockExpired | farTimeout | nodeUnreachable | versionRetiring | noTarget | imageRefused
  deriving DecidableEq, Repr

/-- What a master asks of the fabric (R273). -/
inductive FabricAsk where
  | read (len : Fin 65536)
  | fence
  | transfer (bytes : List Byte)
  | writePosted (bytes : List Byte)
  | writeAcked (bytes : List Byte)
  | atomic (swap : Bool) (bytes : List Byte)
  | lockAcquire (bus : Fin 16) (lease : BitVec 32)
  | lockRenew (bus : Fin 16)
  | lockRelease (bus : Fin 16)
  deriving DecidableEq, Repr

/-- A host access to a BAR: a read of some bytes, or a write. -/
inductive HostAccess where
  | read (len : Fin 4097)
  | write (bytes : List Byte)
  deriving DecidableEq, Repr

/-- What resets the host interface (R301): PERST_N asserted or deasserted, a hot reset, a function level reset. -/
inductive HostReset where
  | perst (asserted : Bool)
  | hot
  | flr
  deriving DecidableEq, Repr

/-- The result that a code names (R58). -/
def Result.ofCode (n : Nat) : Option Result :=
  ([Result.ok, .noObject, .noSub, .accessDenied, .readOnly, .typeLength, .range, .inUse, .busyRetry, .commitInconsistent,
    .stagedPending, .lockConflict, .lockExpired, .farTimeout, .nodeUnreachable, .versionRetiring, .noTarget, .imageRefused])[n]?

/-- The code of a result (R58). -/
def Result.code : Result → Nat
  | .ok => 0x00 | .noObject => 0x01 | .noSub => 0x02 | .accessDenied => 0x03 | .readOnly => 0x04
  | .typeLength => 0x05 | .range => 0x06 | .inUse => 0x07 | .busyRetry => 0x08 | .commitInconsistent => 0x09
  | .stagedPending => 0x0A | .lockConflict => 0x0B | .lockExpired => 0x0C | .farTimeout => 0x0D
  | .nodeUnreachable => 0x0E | .versionRetiring => 0x0F | .noTarget => 0x10 | .imageRefused => 0x11

/-- A ring frame header, field by field in the order of its bytes (R81). -/
structure Header where
  typ : BitVec 4
  cls : BitVec 2
  path : BitVec 1
  tsv : BitVec 1
  hops : BitVec 13
  locked : BitVec 1
  ctlRsv : BitVec 10
  dRing : BitVec 4
  dNode : BitVec 13
  dMaster : BitVec 4
  dRsv : BitVec 11
  sRing : BitVec 4
  sNode : BitVec 13
  sMaster : BitVec 4
  sRsv : BitVec 11
  flow : BitVec 16
  seq : BitVec 16
  len : BitVec 12
  ackreq : BitVec 1
  lossless : BitVec 1
  first : BitVec 1
  last : BitVec 1
  tag : BitVec 16
  stamp : BitVec 32
  corr : BitVec 32
  hcrc : BitVec 16
  rsv : BitVec 16
  deriving DecidableEq, Repr

/-- A frame taken by fixed logic or delivered to a sink: its header, its payload and the receive stamp at the pads
(R64), in ring time. -/
structure TakenFrame where
  hdr : Header
  payload : List Byte
  stamp : Nat
  deriving DecidableEq, Repr

/-- How a frame ends on the line (R89): GOOD or POISON at its end position, POISON early, or any other misplaced end. -/
inductive EndWord where
  | good | poison | poisonEarly | misplaced
  deriving DecidableEq, Repr

/-- The switch outputs, numbered as in R97. -/
inductive Output where
  | east | west | bl0 | bl1 | bl2 | field | mgmt | waggle
  deriving DecidableEq, Repr

/-- The output's place among the eight. -/
def Output.idx : Output → Fin 8
  | .east => 0 | .west => 1 | .bl0 => 2 | .bl1 => 3 | .bl2 => 4 | .field => 5 | .mgmt => 6 | .waggle => 7

def Output.num (o : Output) : Nat := o.idx.val

def Output.all : List Output := [.east, .west, .bl0, .bl1, .bl2, .field, .mgmt, .waggle]

def Output.ofPort : RingPort → Output
  | .east => .east
  | .west => .west

/-- A resequencer: of a DELIVER entry, or of the requests of one source node (R125, R107). -/
inductive ReseqId where
  | entry (e : Fin 16384)
  | request (ring : Fin 16) (node : Fin 8192)
  deriving DecidableEq, Repr

/-- Who originates a frame locally (R105): a queue of its own each. -/
inductive Originator where
  | can (n : Fin 8) | canHp (n : Fin 8) (b : Fin 2) | ser (n : Fin 8) | sdci (n : Fin 8) | dio | worker (n : Fin 32) | waggle | axis (n : Fin 4)
  | host (cls : Fin 4) | mgmt | collector | tunnel (n : Fin 32) | cluster (link : Fin 3)
  deriving DecidableEq, Repr

/-- Master number in the source word of an originated frame (R21, R83). -/
def Originator.master : Originator → Nat
  | .worker n => 4 + n.val / 8
  | .waggle => 8
  | .host _ => 1
  | _ => 0

/-- A position of the ring map (R457, R460): node number or 0, pass-through; the keeper also holds the serial and the
keeper priority last known there (R151, R452). -/
structure MapPos where
  node : Nat
  pass : Bool := false
  serial : Nat := 0
  prio : Nat := 128
  deriving DecidableEq, Repr

/-- A ring map (R457): positions eastward from node 1. Version 0: none held. -/
structure RingMap where
  version : Nat := 0
  ring : Nat := 0
  stride : Nat := 1
  positions : List MapPos := []
  /-- gateway node of each foreign ring that the map names one for: ring and node (R16) -/
  gateways : List (Nat × Nat) := []
  deriving DecidableEq, Repr

/-- Load figures of a transmitting port of a slow hop (R202): C1_PEAK and C23_PEAK. -/
structure HopLoad where
  node : Nat
  port : RingPort
  c1 : Nat
  c23 : Nat
  deriving DecidableEq, Repr

/-- A CAN frame (R287, R330): FLAGS bits 0 IDE, 1 RTR, 2 FDF, 3 BRS, 4 ESI. -/
structure CanFrame where
  id : Nat
  flags : Nat
  dlc : Nat
  data : List Byte
  deriving DecidableEq, Repr

/-- A device on an SDCI port, as start-up finds it (R362, R366): rate COM1–COM3, identity, serial, minimum cycle in ns,
process data lengths, data-storage checksum. -/
structure SdciDevice where
  com : Fin 4
  vendor : BitVec 16
  device : BitVec 24
  serial : List Byte
  minCycle : Nat
  pdIn : Fin 33
  pdOut : Fin 33
  checksum : BitVec 32
  deriving DecidableEq, Repr

/-- What an M-sequence brings beyond process data (R361, R366): the identity of the device at the end of start-up, entry
into OPERATE, a request for a data-storage upload, or the end of one. -/
inductive SdciStep where
  | identified (d : SdciDevice)
  | operate
  | uploadRequest
  | uploadDone (checksum : BitVec 32) (data : List Byte)
  deriving DecidableEq, Repr

/-- What the SAFE_N pad does (R425): it fell and has been low for 1 µs, it fell for less, or it rose. -/
inductive SafeNEdge where
  | held | short | rose
  deriving DecidableEq, Repr

/-- What a check of the collector's configuration finds (R429): copy and word. -/
inductive ScrubResult where
  | clean
  | fixed (copy : Fin 2) (word : Nat)
  | uncorrectable (copy : Fin 2) (word : Nat)
  | mismatch (word : Nat)
  deriving DecidableEq, Repr

/-- Data storage of a port (R366). -/
structure DsSet where
  vendor : Nat
  device : Nat
  checksum : Nat
  data : List Byte
  deriving DecidableEq, Repr

/-- A settings copy in NOR (R40): its sequence number, the persistent set, and a CRC-32C over them. The format versions of its
objects (R44) are those of the management firmware that wrote it, `release` (`Config.formatVersion`). -/
structure SavedSet where
  seq : Nat
  release : Nat
  objs : List (Nat × Nat)
  flow : List (Nat × List Nat)
  waggles : List (Nat × List Nat)
  banks : List (Nat × List Nat)
  node : Nat
  ringMap : RingMap
  storage : List (Nat × DsSet)
  crc : Nat
  deriving DecidableEq, Repr

/-- The instructions of the JTAG pads (R502). -/
inductive JtagInstr where
  | bypass | idcode | samplePreload | extest | clamp | highz | wake
  deriving DecidableEq, Repr

/-- What the crypto unit finds (R488): the signature is good, it is bad, or its key is revoked. -/
inductive SignatureResult where
  | good | bad | revoked
  deriving DecidableEq, Repr

/-- What the health monitors and the conditions of R472 measure: six temperatures in 0.1 °C, 48 slacks in ps, VIN and its
ripple in mV, board-link margins in mV and mUI, and the on-resistance of each DIO channel measured since the last of these, in mΩ, 0 for none
(R462, R479). -/
structure Monitors where
  temps : Vector Int 6
  slacks : Vector Int 48
  vin : Nat
  ripple : Nat
  blV : Vector Nat 3
  blH : Vector Nat 3
  ron : Vector Nat 32
  deriving DecidableEq, Repr

/-- What a margin plan measures (R462, R465): the worst slack predicted at each of the 37 core voltages from 0.72 V in steps of
5 mV; capacitance in µF, ESR in mΩ and hold-up from 24 V in ns; drive delays in ps, none for a channel that has made no edge; the delay of each
capture comparator, and transmit and receive latency of the ring PHYs, EAST first, in ps. -/
structure PlanMeasure where
  slackAt : Vector Int 37
  capacitance : Nat
  esr : Nat
  holdup : Nat
  onDelay : Vector (Option Nat) 32
  offDelay : Vector (Option Nat) 32
  capDelay : Vector Nat 64
  phyTx : Vector Int 2
  phyRx : Vector Int 2
  deriving DecidableEq, Repr

/-- A board link (R98, R158): up, and what its partner reports at training, its duplex role among it. -/
structure BoardLink where
  up : Bool := false
  ring : Nat := 0
  slot : Nat := 0
  mode : Nat := 0
  serial : Nat := 0
  variant : Nat := 0
  mirrorVersion : Nat := 0
  role : Nat := 0
  /-- node number that the partner holds (R17, R160) -/
  node : Nat := 0
  deriving DecidableEq, Repr

/-- A change that MIRROR carries (R167, R168): a dictionary write, a commit, a write of a window, a read that takes something out
of one, a lock granted, renewed or
released (R300), or a block of a resync. -/
inductive MirrorChange where
  | dict (offset : BitVec 32) (value : List Byte)
  | commit (index : BitVec 16) (mode : Fin 3)
  | write (offset : BitVec 32) (bytes : List Byte)
  | applyAt (time : BitVec 64) (offset : BitVec 32) (bytes : List Byte)
  | read (offset : BitVec 32) (len : Fin 4096)
  | lock (master : MasterId) (payload : List Byte)
  | block (offset : BitVec 32) (bytes : List Byte)
  deriving DecidableEq, Repr

/-- A dictionary transfer request (R51): the fields of its header but OP, its value bytes, and over USB the TARGET of R54. A USB
message of KIND 0x01 that is shorter than a header, or whose OP no row has, stands in `raw` as its bytes after the USB header. -/
structure TransferReq where
  flags : BitVec 8
  index : BitVec 16
  sub : BitVec 8
  session : BitVec 8
  len : BitVec 16
  pos : BitVec 32
  value : List Byte
  target : BitVec 64 := 0
  raw : Option (List Byte) := none
  deriving DecidableEq, Repr

end Sys2Proof
end

