-- ==== Sys2Proof/Syntax.lean ====
section
/-!
DEFINITION. The commands of the block: one constructor for each row of spec/opcode_table.json, with the row's
operands: the rows that have operands in the table's order, then those that have none. A register write carries its requester and the value bytes; an event carries what the event
brings; a taken frame carries its header, payload and receive stamp.
-/

namespace Sys2Proof

inductive Instr where
  /-- SELF_TEST_DONE (R445): Memory BIST and logic BIST complete; failures are recorded and the hub continues, or is held, as the self-test table gives. -/
  | selfTestDone (failed : BitVec 5)
  /-- SETTINGS_LOAD_DONE (R446): Settings load and recorder restore complete; FAULT_N is released and the field ports start from their settings. -/
  | settingsLoadDone (failed : BitVec 24)
  /-- PORT_ENABLE (R79): A write of PORT_ENABLE starts training, or on an UP port sends DISABLE and takes the port DOWN. -/
  | portEnable (rq : Requester) (p : RingPort) (value : List Byte)
  /-- PARTNER_DETECTED (R68): In DETECT, TRAIN words from the partner are found, and the port moves to ORIENT. -/
  | partnerDetected (p : RingPort)
  /-- DETECT_TIMEOUT (R68): 20 ms in DETECT without a partner end the attempt, which is retried after 1 s. -/
  | detectTimeout (p : RingPort)
  /-- TRAINING_RETRY (R68): The 1 s wait after a failed training or a refusal ends, and the port re-enters DETECT. -/
  | trainingRetry (p : RingPort)
  /-- ORIENT_IDENTITY (R69): The identity exchanged in ORIENT is checked, and the hop is accepted or refused with ORIENTATION, SELF_LOOP or RING_MISMATCH. -/
  | orientIdentity (p : RingPort) (partnerPort : RingPort) (serial : BitVec 64) (ring : Fin 16) (node : Fin 8192) (permits : LineRate)
  /-- EQUALISE_DONE (R70): Equaliser adaptation ends; the port goes UP at the full or fallback rate, or the training fails. -/
  | equaliseDone (p : RingPort) (ownFull partnerFull ownFallback : Margins)
  /-- MARGIN_UPDATE (R71): Every 100 ms the port updates MARGIN_V and MARGIN_H and sends its MARGIN frame to the partner. -/
  | marginUpdate (p : RingPort) (m : Margins) (blocks : Fin 65536)
  /-- MARGIN (R90): A MARGIN frame received updates PARTNER_MARGIN_V and PARTNER_MARGIN_H. -/
  | margin (p : RingPort) (f : TakenFrame)
  /-- FALLBACK_HOLD_EXPIRY (R72): A margin stays below its threshold for FALLBACK_HOLD, so the port sends RETRAIN_REQ at the fallback rate. -/
  | fallbackHoldExpiry (p : RingPort)
  /-- RETRAIN_REQ (R76): A received RETRAIN_REQ is answered with RETRAIN_ACK carrying a start time, merging crossed requests into one retrain. -/
  | retrainReq (p : RingPort) (f : TakenFrame)
  /-- RETRAIN_ACK (R90): A received RETRAIN_ACK sets the start time at which both ends enter FAST_RETRAIN. -/
  | retrainAck (p : RingPort) (f : TakenFrame)
  /-- FAST_RETRAIN_START (R72): At the agreed start time both ends enter FAST_RETRAIN and the reset shadow of the port opens. -/
  | fastRetrainStart (p : RingPort)
  /-- FAST_RETRAIN_DONE (R68): A fast retrain ends with the port UP at the chosen rate, or falls back to full training from DETECT. -/
  | fastRetrainDone (p : RingPort) (margins : Option (Margins × Margins))
  /-- RETRAIN_FAST (R94): A write of 1 to RETRAIN starts a planned fast retrain at the current rate. -/
  | retrainFast (rq : Requester) (p : RingPort)
  /-- RETRAIN_FULL (R94): A write of 2 to RETRAIN starts a planned full training. -/
  | retrainFull (rq : Requester) (p : RingPort)
  /-- MAX_RATE (R74): A write of MAX_RATE while UP starts a planned fast retrain. -/
  | maxRate (rq : Requester) (p : RingPort) (value : List Byte)
  /-- DEFERRED_RETRAIN (R74): A planned retrain deferred while a hop was down starts 1 s after the ring closes. -/
  | deferredRetrain (p : RingPort)
  /-- LINK_LOSS (R78): No valid word for 1 µs or loss of block lock takes the port back to DETECT and records LINK_LOSS. -/
  | linkLoss (p : RingPort)
  /-- DISABLE (R79): A received DISABLE frame makes the port record PARTNER_DISABLED and return to DETECT. -/
  | disable (p : RingPort) (f : TakenFrame)
  /-- NEIGHBOUR_SEND (R90): Every 1 s while UP the port sends a NEIGHBOUR frame. -/
  | neighbourSend (p : RingPort)
  /-- NEIGHBOUR (R90): A received NEIGHBOUR frame updates NEIGHBOUR_SERIAL and NEIGHBOUR_NODE. -/
  | neighbour (p : RingPort) (f : TakenFrame)
  /-- DELAY_REQ_SEND (R91): At 100 µs spacing during a fill, or at DELAY_INTERVAL after it, the port sends DELAY_REQ. -/
  | delayReqSend (p : RingPort)
  /-- DELAY_REQ (R90): A received DELAY_REQ is answered with DELAY_RESP within 10 µs. -/
  | delayReq (p : RingPort) (f : TakenFrame)
  /-- DELAY_RESP (R92): A received DELAY_RESP gives a link-delay measurement that is accepted into the filter or rejected. -/
  | delayResp (p : RingPort) (f : TakenFrame)
  /-- DELAY_RESP_TIMEOUT (R92): A DELAY_REQ without DELAY_RESP for 100 µs counts as a rejected measurement. -/
  | delayRespTimeout (p : RingPort)
  /-- RING_FRAME_RX (R84): A ring frame header arrives and is checked, HOPS is decremented, and the frame is taken, passed on or removed along its path. -/
  | ringFrameRx (p : RingPort) (raw : BitVec 256) (stamp : Nat)
  /-- END_OF_FRAME (R89): The end word of a frame arrives; the CRC is checked and the frame is accepted, dropped or its onward copy ended with POISON. -/
  | endOfFrame (p : RingPort) (payload : List Byte) (crc : BitVec 32) (word : EndWord)
  /-- FRAME_ORIGINATE (R105): A local originator presents a frame, which is looked up in the flow table once and written as chains to its outputs. -/
  | frameOriginate (org : Originator) (typ : Fin 16) (flow : Fin 65536) (payload : List Byte) (first last : Bool)
  /-- EGRESS_SELECT (R186): When the line becomes free, the egress chooses the next frame by class order, window and fit test. -/
  | egressSelect (o : Output)
  /-- LOCAL_OUTPUT_DEQUEUE (R186): A local output takes the next frame from its class queues and hands it to its sink. -/
  | localOutputDequeue (o : Output)
  /-- HOLD_DEADLINE (R127): A resequencer hold deadline expires, numbers are skipped and held frames are released. -/
  | holdDeadline (r : ReseqId)
  /-- RESYNC_IDLE (R129): A resequencer state without a copy for RESYNC_IDLE is cleared. -/
  | resyncIdle (r : ReseqId)
  /-- RESIDENCE_DISCARD (R116): A frame at the head of a local queue beyond MAX_RESIDENCE after its ARRIVAL is discarded. -/
  | residenceDiscard (o : Output) (c : Fin 4)
  /-- FLOW_TABLE_WRITE (R112): A window write of words 0–3 of a flow-table entry is checked and, if accepted, advances VERSION. -/
  | flowTableWrite (rq : Requester) (e : Fin 16384) (w0 w1 w2 w3 : BitVec 32)
  /-- RETIREMENT_END (R114): The last frame carrying the previous version leaves, and the entry becomes ACTIVE or FREE. -/
  | retirementEnd (e : Fin 16384)
  /-- CREDIT (R123): A received CREDIT frame applies its grants to the matching SEND entries and admits waiting lossless frames. -/
  | credit (p : RingPort) (f : TakenFrame)
  /-- CREDIT_INTERVAL_EXPIRY (R122): CREDIT_INTERVAL after growth of FREED_TOTAL began, the destination sends a grant. -/
  | creditIntervalExpiry (e : Fin 16384)
  /-- CREDIT_REFRESH (R122): Each grant is refreshed at least every 10 ms. -/
  | creditRefresh (e : Fin 16384)
  /-- CREDIT_STALL (R124): An entry that admits nothing for CREDIT_STALL_LIMIT raises CREDIT_STALL. -/
  | creditStall (e : Fin 16384)
  /-- HOP_REPORT_REPEAT (R143): Every 1 s while a port is enabled and not UP, the hub sends HOP_REPORT. -/
  | hopReportRepeat (p : RingPort)
  /-- HOP_REPORT (R143): A received HOP_REPORT updates the down-hop set and the ring state. -/
  | hopReport (p : RingPort) (f : TakenFrame)
  /-- ELECT (R148): A received ELECT is ranked, and starts the hub's election if it was not in one. -/
  | elect (p : RingPort) (f : TakenFrame)
  /-- KEEPER_ANNOUNCE (R156): A received KEEPER_ANNOUNCE sets keeper and backup, or resolves two keepers by TERM and rank. -/
  | keeperAnnounce (p : RingPort) (f : TakenFrame)
  /-- MIRROR_COPY_DONE (R151): The new backup has fetched every copy and sets MIRROR_STATE to 2. -/
  | mirrorCopyDone (map : RingMap) (copies : List (Nat × SavedSet)) (length : BitVec 32) (pct : BitVec 8)
  /-- KEEPER_PRIORITY (R150): A write of KEEPER_PRIORITY to the keeper applies at the next keeper loss, or at once if 0. -/
  | keeperPriority (rq : Requester) (value : List Byte)
  /-- BL_LINK_TRAINING (R158): A board link trains, the partner's slot and MODE are checked, and a duplex pair forms if its conditions hold. -/
  | blLinkTraining (k : Fin 3) (peer : BoardLink)
  /-- BL_LINK_LOSS (R173): A board link loses link; on BL0 of a pair the standby sends PAIR_PROBE. -/
  | blLinkLoss (k : Fin 3)
  /-- HEARTBEAT (R169): A received HEARTBEAT restarts the miss timing. -/
  | heartbeat (payload : List Byte)
  /-- FAIL (R169): A received FAIL makes the standby take over. -/
  | failFrame (payload : List Byte)
  /-- PAIR_PROBE (R173): A received PAIR_PROBE is answered with PROBE_ANSWER within 20 µs. -/
  | pairProbe (p : RingPort) (f : TakenFrame)
  /-- PROBE_ANSWER (R173): A PROBE_ANSWER within PROBE_TIMEOUT sets PAIR_STATE DETACHED without takeover. -/
  | probeAnswer (p : RingPort) (f : TakenFrame)
  /-- MIRROR (R167): A received MIRROR frame is applied by the standby, which answers MIRROR_ACK. -/
  | mirror (payload : List Byte)
  /-- MIRROR_ACK (R167): A received MIRROR_ACK lets the primary answer the mirrored write. -/
  | mirrorAck (payload : List Byte)
  /-- MIRROR_TIMEOUT (R167): No MIRROR_ACK within 100 µs: the write is answered, the pair goes UNPROTECTED and a resync starts. -/
  | mirrorTimeout (n : Fin 65536)
  /-- DIGEST (R175): A received DIGEST is compared with the member's own for the same cycle. -/
  | digest (payload : List Byte)
  /-- SWAP (R178): A write of 1 to SWAP requests a planned role swap at a time T. -/
  | swapWrite (rq : Requester) (value : List Byte)
  /-- SWAP_MESSAGE (R168): A received SWAP request, accept or cancel advances the swap handshake. -/
  | swapMessage (payload : List Byte)
  /-- SWAP_VERIFY_END (R178): SWAP_VERIFY after each port's changeover ends with SWAP_DONE, or a failed check reverts the swap. -/
  | swapVerifyEnd (failed : Option (Fin 24)) (carried : BitVec 24)
  /-- REJOIN (R175): A write of 1 to REJOIN ends DETACHED and starts a resync. -/
  | rejoin (rq : Requester) (value : List Byte)
  /-- SAFE (R172): A SAFE frame from the partner brings this member into the hardware safe state. -/
  | safeFrame (payload : List Byte)
  /-- TEST_OFF_END (R176): At the end of TEST_OFF_WIDTH the switch closes again and the test result is recorded. -/
  | testOffEnd (ok : Bool)
  /-- STUCK_CHANNEL_CUT (R174): Current on a channel commanded off opens its guard switch and marks the channel failed. -/
  | stuckChannelCut (n : Fin 32)
  /-- CYCLE_MARK (R191): The first copy of a CYCLE_MARK is checked against the own boundary and the plan is adopted or realigned. -/
  | cycleMark (p : RingPort) (f : TakenFrame)
  /-- PROMOTION (R196): A C3 head frame reaching AGE_LIMIT moves to the tail of the C2 queue. -/
  | promotion (o : Output) (transit : Bool)
  /-- WHEEL_SLOT (R199): A timing-wheel slot comes up and its shapers become eligible or are entered again. -/
  | wheelSlot (entry : Fin 256)
  /-- PLAN_DECISION (R203): With the load figures read, the keeper sets the shed level and increments PLAN_VERSION. -/
  | planDecision (loads : List HopLoad)
  /-- SYNC (R218): A received SYNC copy is checked and its offset combined into the slew of the following cycle. -/
  | sync (p : RingPort) (f : TakenFrame)
  /-- HOST_OFFSET (R227): A write of HOST_OFFSET on the keeper gives a measured offset that is stepped or slewed. -/
  | hostOffset (rq : Requester) (value : List Byte)
  /-- SET_TIME (R221): A write of SET_TIME on the keeper announces a step of ring time at STEP_CYCLE. -/
  | setTime (rq : Requester) (value : List Byte)
  /-- TOD_NEXT (R227): A write of TOD_NEXT names the seconds of the next PPS_IN edge. -/
  | todNext (rq : Requester) (value : List Byte)
  /-- PPS_IN_EDGE (R227): A PPS_IN edge is captured and used as a measured offset, or rejected. -/
  | ppsInEdge (rising : Bool) (stampNs : Nat)
  /-- CAPTURE_EDGE (R229): A selected pin edge accepted by the filter is stored as a capture record with its pad stamp. -/
  | captureEdge (pin : Fin 64) (rising : Bool) (ns : Nat)
  /-- WAGGLE_TABLE_WRITE (R240): A full write of words 0–11 of a waggle entry is checked and applied in one tick. -/
  | waggleTableWrite (rq : Requester) (e : Fin 4096) (words : Vector (BitVec 32) 12)
  /-- WAGGLE_CONTROL_WRITE (R239): A 4-byte control write arms or disarms an entry or changes its flags. -/
  | waggleControlWrite (rq : Requester) (e : Fin 4096) (word : BitVec 32)
  /-- WAGGLE_FREEZE (R244): WAG_FREEZE_LEAD before its due time an entry becomes FROZEN. -/
  | waggleFreeze (e : Fin 4096)
  /-- WAGGLE_DIO (R248): At its due time a DIO action sets or clears the masked latches, with an optional pulse. -/
  | waggleDio (e : Fin 4096)
  /-- WAGGLE_WORKER (R248): At its due time a WORKER action starts or clock-restarts the masked workers. -/
  | waggleWorker (e : Fin 4096)
  /-- WAGGLE_SEND (R248): At its due time a SEND action presents a report for origination on its flow entry. -/
  | waggleSend (e : Fin 4096)
  /-- WAGGLE_SNAPSHOT (R248): At its due time a SNAPSHOT action writes a report into the report queue. -/
  | waggleSnapshot (e : Fin 4096)
  /-- WAGGLE_ARM_OTHER (R248): At its due time an ARM_OTHER action arms or disarms the target entry. -/
  | waggleArmOther (e : Fin 4096)
  /-- WAGGLE_SUPPLY (R248): At its due time a SUPPLY action switches the masked sensor supplies. -/
  | waggleSupply (e : Fin 4096)
  /-- PULSE_END (R250): A pending pulse end clears its DIO latch. -/
  | pulseEnd (n : Fin 32)
  /-- REPORT_POP (R252): A write of n to the report queue POP removes the n oldest reports. -/
  | reportPop (rq : Requester) (value : List Byte)
  /-- AXIS (R262): A received AXIS frame for a followed axis updates the sample and re-evaluates AXIS triggers. -/
  | axis (p : RingPort) (f : TakenFrame)
  /-- AXIS_STALE (R263): No sample for TIMEOUT cycles puts the follow entry into STALE. -/
  | axisStale (axis : Fin 16)
  /-- PRESET (R260): A write of PRESET sets the position at the next sample. -/
  | preset (rq : Requester) (publisher : Fin 4) (value : List Byte)
  /-- READ_REQ (R278): A READ_REQ at its target is access-checked and answered with READ_RESP carrying the data. -/
  | readReq (f : TakenFrame)
  /-- WRITE_POSTED (R280): A WRITE_POSTED at its target is applied, or answered with an ERRNOTE on failure. -/
  | writePosted (f : TakenFrame)
  /-- WRITE_ACKED (R273): A WRITE_ACKED at its target is applied and answered with READ_RESP without data. -/
  | writeAcked (f : TakenFrame)
  /-- COMPARE_SWAP (R277): An ATOMIC compare-swap writes the swap value if the word equals the compare value and returns the old value. -/
  | compareSwap (f : TakenFrame)
  /-- FETCH_ADD (R277): An ATOMIC fetch-add adds the addend modulo the word size and returns the old value. -/
  | fetchAdd (f : TakenFrame)
  /-- FENCE (R283): A FENCE is answered once earlier posted writes of the master have completed, with their error count. -/
  | fence (f : TakenFrame)
  /-- READ_RESP (R279): A completion at the initiator is matched to its request and returned to the master, or discarded as late. -/
  | readResp (f : TakenFrame)
  /-- REQUEST_ISSUE (R279): A master issues a fabric request, which is resolved, tracked and sent both ways. -/
  | requestIssue (num : Fin 16) (tag : Fin 65536) (cls : Fin 4) (addr : BitVec 64) (a : FabricAsk)
  /-- REQ_TIMEOUT (R279): A non-posted request without completion after REQ_TIMEOUT ends with FAR_TIMEOUT. -/
  | reqTimeout (num : Fin 16) (tag : Fin 65536)
  /-- ERRNOTE (R281): A received ERRNOTE is entered in the far-error log and raises the initiator's interrupt. -/
  | errnote (f : TakenFrame)
  /-- FAR_LOG_POP (R281): A write of n to POP of the far-error log removes the n oldest entries. -/
  | farLogPop (rq : Requester) (value : List Byte)
  /-- LOCK_ACQUIRE (R296): An ACQUIRE is granted, queued or answered LOCK_CONFLICT by ticket age. -/
  | lockAcquire (rq : Requester) (b : Fin 16) (issue : Nat) (lease wait : BitVec 32)
  /-- LOCK_RENEW (R296): A RENEW restarts the lease of a held lock. -/
  | lockRenew (rq : Requester) (b : Fin 16)
  /-- LOCK_RELEASE (R296): A RELEASE frees the lock and grants the oldest waiter. -/
  | lockRelease (rq : Requester) (b : Fin 16)
  /-- LOCK_WAIT_EXPIRY (R296): A waiting ACQUIRE not granted within WAIT is answered LOCK_CONFLICT. -/
  | lockWaitExpiry (b : Fin 16) (m : MasterId)
  /-- LOCK_EXPIRED (R298): A lease runs out, the lock is released and the oldest waiter granted. -/
  | lockExpired (b : Fin 16)
  /-- BACKOFF_END (R299): The back-off ends and a waiting ACQUIRE of the master proceeds. -/
  | backoffEnd (n : Fin 16)
  /-- TUNNEL (R290): A TUNNEL frame delivered to an endpoint is access-checked and queued for replay or logged. -/
  | tunnel (n : Fin 32) (f : TakenFrame)
  /-- REPLAY_START (R291): A queued tunnel frame reaches its replay time and is offered to its port. -/
  | replayStart (n : Fin 32)
  /-- TAIL_WRITE (R303): A host write of TAIL_r hands descriptors of ring r to the hub. -/
  | tailWrite (r : Fin 8) (value : BitVec 32)
  /-- TX_DESCRIPTOR_FETCH (R307): A transmit descriptor and its payload are read from host memory and the frame originated or refused. -/
  | txDescriptorFetch (c : Fin 4) (flow : Fin 65536) (flags : BitVec 8) (payload : List Byte)
  /-- RX_DESCRIPTOR_WRITE (R307): A frame is written into a receive buffer and its descriptor completed with DONE last. -/
  | rxDescriptorWrite (c : Fin 4) (addr : BitVec 64)
  /-- COALESCE_EXPIRY (R308): COALESCE after the first descriptor raises the ring's MSI-X vector. -/
  | coalesceExpiry (r : Fin 8)
  /-- BAR2_READ (R302): A host read through BAR2 becomes fabric reads of master 1, returning all ones on failure. -/
  | bar2Read (offset : Fin 16777216) (len : Fin 4097) (tag : Fin 65536)
  /-- BAR2_WRITE (R304): A host write through BAR2 becomes a WRITE_POSTED or WRITE_ACKED by the aperture's mode. -/
  | bar2Write (offset : Fin 16777216) (bytes : List Byte) (tag : Fin 65536)
  /-- LOCAL_PAGE_ACCESS (R302): A host access through a local page is served locally as master 1 at node 0. -/
  | localPageAccess (page : Fin 4) (offset : Fin 4194304) (tag : Fin 65536) (acc : HostAccess)
  /-- HOST_RESET (R301): PERST_N, hot reset or FLR resets only the host interface. -/
  | hostReset (kind : HostReset)
  /-- DMA_FAULT (R309): A DMA access answered with UR or CA stops its ring and raises vector 31. -/
  | dmaFault (r : Fin 8) (addr : BitVec 64)
  /-- CAN_TX_REQUEST (R332): A write to TX_REQUEST checks each named buffer and makes a valid one PENDING. -/
  | canTxRequest (rq : Requester) (n : Fin 8) (mask : BitVec 32)
  /-- CAN_TX_CANCEL (R333): A write to TX_CANCEL cancels buffers by their state when the cancel arrives. -/
  | canTxCancel (rq : Requester) (n : Fin 8) (mask : BitVec 32)
  /-- CAN_TX_DONE_CLEAR (R330): A write of 1 bits to TX_DONE clears them. -/
  | canTxDoneClear (rq : Requester) (n : Fin 8) (mask : BitVec 32)
  /-- CAN_RX_POP (R330): A write to RX_POP frees the n oldest receive slots. -/
  | canRxPop (rq : Requester) (n : Fin 8) (value : BitVec 32)
  /-- HP_RELEASE (R328): A write to HP_RELEASE clears FULL and OVERRUN of a high-priority buffer. -/
  | hpRelease (rq : Requester) (n : Fin 8) (value : BitVec 32)
  /-- CAN_DELIVER (R335): A delivered flow frame replaces a transmit buffer or its shadow and requests it. -/
  | canDeliver (n : Fin 8) (b : Fin 32) (payload : List Byte)
  /-- CAN_INTEGRATED (R320): 11 consecutive recessive bits end INTEGRATING and the port is ERROR_ACTIVE. -/
  | canIntegrated (n : Fin 8)
  /-- CAN_BUS_IDLE (R334): At bus idle the port chooses among pending buffers, replays and SDO responses. -/
  | canBusIdle (n : Fin 8)
  /-- CAN_TX_START (R332): The port drives start of frame and the buffer becomes ACTIVE. -/
  | canTxStart (n : Fin 8) (loopDelay : Nat)
  /-- CAN_TX_SENT (R332): At the sixth end-of-frame bit the buffer becomes SENT and takes its stamp. -/
  | canTxSent (n : Fin 8)
  /-- CAN_ARB_LOST (R332): A buffer that loses arbitration returns to PENDING, or ends CANCELLED if cancelled. -/
  | canArbLost (n : Fin 8)
  /-- CAN_FRAME_RX (R326): A frame valid for a receiver is stamped and routed by the first applicable rule. -/
  | canFrameRx (n : Fin 8) (f : CanFrame) (ns : Nat)
  /-- CAN_BUS_ERROR (R336): A detected bus error updates the error counters and may change the error state. -/
  | canBusError (n : Fin 8) (kind : Fin 6) (dominant : Bool)
  /-- BUS_OFF_RECOVERY (R337): 128 occurrences of 11 recessive bits end BUS_OFF through INIT. -/
  | busOffRecovery (n : Fin 8)
  /-- PROTOCOL_EXCEPTION (R336): With PEX, a recessive res bit stops reception without an error flag and the port integrates again. -/
  | protocolException (n : Fin 8)
  /-- CAN_DOMINANT_TIMEOUT (R319): Dominant drive beyond 2.5 ms makes the transceiver release the bus. -/
  | canDominantTimeout (n : Fin 8)
  /-- CAN_RESTART (R338): A write of 1 to RESTART passes the port through INIT and ends FORCED_LISTEN. -/
  | canRestart (rq : Requester) (n : Fin 8) (value : List Byte) (receiving : Bool)
  /-- CAN_ENABLE (R339): A write of ENABLE takes the port to OFF after the frame on the bus, or through INIT. -/
  | canEnable (rq : Requester) (n : Fin 8) (value : List Byte) (receiving : Bool)
  /-- SDO_INITIATE_DOWNLOAD (R55): An SDO initiate download writes an expedited value or opens a segmented download. -/
  | sdoInitiateDownload (n : Fin 8) (data : List Byte)
  /-- SDO_DOWNLOAD_SEGMENT (R55): An SDO download segment is checked for toggle and stored. -/
  | sdoDownloadSegment (n : Fin 8) (data : List Byte)
  /-- SDO_INITIATE_UPLOAD (R55): An SDO initiate upload returns an expedited value or opens a segmented upload. -/
  | sdoInitiateUpload (n : Fin 8) (data : List Byte)
  /-- SDO_UPLOAD_SEGMENT (R55): An SDO upload segment request returns the next data with toggle checked. -/
  | sdoUploadSegment (n : Fin 8) (data : List Byte)
  /-- SDO_ABORT (R55): An SDO abort transfer closes the transfer. -/
  | sdoAbort (n : Fin 8)
  /-- SDO_TIMEOUT (R56): A pause longer than SESSION_TIMEOUT aborts the SDO transfer. -/
  | sdoTimeout (n : Fin 8)
  /-- SER_TX_REQUEST (R354): A write to TX_REQUEST checks each slot and makes a valid one PENDING. -/
  | serTxRequest (rq : Requester) (n : Fin 8) (mask : BitVec 32)
  /-- SER_TX_CANCEL (R355): A write to TX_CANCEL cancels slots by their state. -/
  | serTxCancel (rq : Requester) (n : Fin 8) (mask : BitVec 32)
  /-- SER_TX_DONE_CLEAR (R356): A write of 1 bits to TX_DONE clears them. -/
  | serTxDoneClear (rq : Requester) (n : Fin 8) (mask : BitVec 32)
  /-- SER_RX_POP (R356): A write to RX_POP frees the n oldest received frames. -/
  | serRxPop (rq : Requester) (n : Fin 8) (value : BitVec 32)
  /-- SER_DELIVER (R356): A delivered flow frame is written into a transmit slot and requested. -/
  | serDeliver (n : Fin 8) (b : Fin 4) (payload : List Byte)
  /-- SER_TX_START (R354): After GAP idle the port enables its driver and the slot becomes ACTIVE. -/
  | serTxStart (n : Fin 8)
  /-- SER_TX_SENT (R354): At the end of the last stop bit the slot becomes SENT. -/
  | serTxSent (n : Fin 8)
  /-- SER_COLLISION (R354): An echoed character differing from the one sent stops the frame as COLLIDED. -/
  | serCollision (n : Fin 8) (sent : Nat)
  /-- SER_DRIVER_RELEASE (R354): TX_TRAIL bit times after the frame the half-duplex driver is released. -/
  | serDriverRelease (n : Fin 8)
  /-- SER_FRAME_RX (R352): An idle gap ends a received frame, which is stamped and routed by RX_DEST. -/
  | serFrameRx (n : Fin 8) (chars : List (BitVec 9)) (parity framing ns : Nat)
  /-- SER_BREAK (R352): The line held at space beyond a character ends the frame as a break. -/
  | serBreak (n : Fin 8) (chars : List (BitVec 9)) (parity framing ns : Nat)
  /-- M_SEQUENCE_END (R363): An M-sequence ends; PD_IN, events and port state are updated. -/
  | mSequenceEnd (n : Fin 8) (ns : Nat) (pd : Option (List Byte × Bool)) (event : Option (BitVec 8 × BitVec 16)) (step : Option SdciStep)
  /-- PD_OUT_DELIVER (R363): A delivered frame writes PD_OUT of the SDCI port. -/
  | pdOutDeliver (n : Fin 8) (payload : List Byte)
  /-- ISDU_CMD (R364): A write to ISDU_CMD starts an ISDU read or write. -/
  | isduCmd (rq : Requester) (n : Fin 8) (word : BitVec 32)
  /-- ISDU_DONE (R364): The device's final ISDU response ends the ISDU as done or device error. -/
  | isduDone (n : Fin 8) (error : Option (BitVec 16)) (data : List Byte)
  /-- ISDU_TIMEOUT (R364): An ISDU without a final response after 5 s ends with timeout. -/
  | isduTimeout (n : Fin 8)
  /-- EV_POP (R363): A write to EV_POP frees the n oldest log entries. -/
  | evPop (rq : Requester) (n : Fin 8) (word : BitVec 32)
  /-- SDCI_COMM_LOST (R361): No valid response takes the port to COMM_LOST. -/
  | sdciCommLost (n : Fin 8)
  /-- SDCI_STARTUP_RETRY (R361): Every 1 s in COMM_LOST the port retries start-up. -/
  | sdciStartupRetry (n : Fin 8)
  /-- SDCI_L_TRIP (R367): 5 ms in current limit switches L+ off and trips it. -/
  | sdciLTrip (n : Fin 8)
  /-- L_RETRY (R367): After L_RETRY the tripped L+ switches on again and communication restarts. -/
  | lRetry (n : Fin 8)
  /-- DS_UPLOAD_DEFERRED (R366): A data storage upload held by the 60 s limit is carried out when the limit ends. -/
  | dsUploadDeferred (n : Fin 8)
  /-- DS_CLEAR (R383): A write of 1 to DS_CLEAR clears the port's data storage. -/
  | dsClear (rq : Requester) (n : Fin 8) (value : List Byte)
  /-- OUT_IMAGE (R371): A write of OUT_IMAGE sets all 32 output latches. -/
  | outImage (rq : Requester) (value : BitVec 32)
  /-- OUT_SET (R371): A write to OUT_SET sets the named latches to 1. -/
  | outSet (rq : Requester) (value : BitVec 32)
  /-- OUT_CLEAR (R371): A write to OUT_CLEAR sets the named latches to 0. -/
  | outClear (rq : Requester) (value : BitVec 32)
  /-- DIO_DELIVER (R371): A delivered MASK and VALUE frame changes the output latches. -/
  | dioDeliver (payload : List Byte)
  /-- DIAG_CLEAR (R371): A write of 1 bits to DIAG_n clears its latched diagnosis bits. -/
  | diagClear (rq : Requester) (n : Fin 32) (value : BitVec 32)
  /-- DIO_CAP_POP (R370): A write to CAP_POP frees capture records of a DIO pin. -/
  | dioCapPop (rq : Requester) (value : BitVec 32)
  /-- INPUT_FILTER_ACCEPT (R370): A new input level persisting for FILTER_i is accepted into IN_STATE. -/
  | inputFilterAccept (n : Fin 32) (level : Bool)
  /-- DIO_OVERCURRENT (R373): 2 ms in limit or 165 °C switches the output off and latches OVERCURRENT or OVERTEMP. -/
  | dioOvercurrent (n : Fin 32) (temperature : Bool)
  /-- OUT_RETRY (R373): After OUT_RETRY and cooling the protected output retries while its latch is 1. -/
  | outRetry (n : Fin 32)
  /-- DIO_DIAG (R374): A diagnosis bit that latches, such as OPEN_LOAD or STUCK_ON after 100 ms, raises DIO_DIAG. -/
  | dioDiag (n : Fin 32) (stuck : Bool)
  /-- PULSE_TEST_START (R375): Every TEST_PERIOD an eligible output is switched off for TEST_WIDTH. -/
  | pulseTestStart (n : Fin 32)
  /-- PULSE_TEST_END (R375): At the end of TEST_WIDTH the test passes or sets PULSE_FAIL. -/
  | pulseTestEnd (n : Fin 32) (passed : Bool)
  /-- BUDGET_CUT (R378): A budget exceeded for 2 ms, then every 100 µs, switches off one member in the given order. -/
  | budgetCut (k : Fin 8) (sum : Fin 65536)
  /-- SUPPLY_ON (R377): A write of SUPPLY_ON_i switches the sensor supply at once. -/
  | supplyOn (rq : Requester) (supply : Fin 4) (value : List Byte)
  /-- SUPPLY_TRIP (R377): 1 ms in limit trips the sensor supply fuse. -/
  | supplyTrip (supply : Fin 4)
  /-- SUPPLY_RETRY (R377): After RETRY a tripped supply commanded on switches on again. -/
  | supplyRetry (supply : Fin 4)
  /-- NOP (R393): A worker NOP does nothing but its delay. -/
  | workerNop (n : Fin 32)
  /-- OUT (R393): A worker OUT shifts N bits from SR to pins, directions, CR or nowhere, with optional reload. -/
  | workerOut (n : Fin 32)
  /-- IN (R393): A worker IN shifts N bits from pins, CR, zeros or ones into SR, with optional delivery. -/
  | workerIn (n : Fin 32) (levels : BitVec 32)
  /-- PULL (R393): A worker PULL takes the oldest TX word into SR or CR. -/
  | workerPull (n : Fin 32)
  /-- PUSH (R393): A worker PUSH writes SR to the RX FIFO and clears SR. -/
  | workerPush (n : Fin 32)
  /-- SET (R393): A worker SET writes VALUE to the levels or directions of SET_MASK pins. -/
  | workerSet (n : Fin 32)
  /-- WAIT (R393): A worker WAIT stalls until its KIND condition holds. -/
  | workerWait (n : Fin 32) (levels : BitVec 32)
  /-- CMP (R393): A worker CMP writes the result of MODE to F or a cluster flag. -/
  | workerCmp (n : Fin 32)
  /-- JMP (R393): A worker JMP moves PC to ADDRESS if its condition holds. -/
  | workerJmp (n : Fin 32) (levels : BitVec 32)
  /-- FLAG (R393): A worker FLAG sets, clears or pulses a cluster flag. -/
  | workerFlag (n : Fin 32)
  /-- STAMP (R393): A worker STAMP pushes the present time or the last edge stamp. -/
  | workerStamp (n : Fin 32)
  /-- STALL_END (R394): A stalled worker instruction's condition holds and the instruction completes. -/
  | stallEnd (n : Fin 32) (levels : BitVec 32) (edge : Option (Bool × Nat))
  /-- RING_TICK (R396): A cluster ring tick falls and ends WAITs of KIND 6 with a divider restart. -/
  | ringTick (c : Fin 4)
  /-- START_MASK (R397): A write to START_MASK starts the named workers in one tick. -/
  | startMask (rq : Requester) (mask : BitVec 32)
  /-- RESTART_MASK (R397): A write to RESTART_MASK restarts the clock divider of the named workers. -/
  | restartMask (rq : Requester) (mask : BitVec 32)
  /-- STOP_MASK (R397): A write to STOP_MASK stops the named workers. -/
  | stopMask (rq : Requester) (mask : BitVec 32)
  /-- WORKER_STALL (R398): A stall longer than STALL_LIMIT raises WORKER_STALL once. -/
  | workerStall (n : Fin 32)
  /-- BANK_WRITE (R399): A window write to a program bank is checked and stored. -/
  | bankWrite (rq : Requester) (n : Fin 32) (bank : Fin 2) (addr : Fin 32) (words : List (BitVec 32))
  /-- TX_FIFO_WRITE (R401): A window write pushes k words into the TX FIFO, or nothing with BUSY_RETRY. -/
  | txFifoWrite (rq : Requester) (n : Fin 32) (words : List (BitVec 32))
  /-- RX_FIFO_READ (R401): A window read pops k words from the RX FIFO, or nothing with BUSY_RETRY. -/
  | rxFifoRead (rq : Requester) (n : Fin 32) (k : Nat)
  /-- WORKER_DELIVER (R402): A delivered frame pushes its words into a worker's TX FIFO. -/
  | workerDeliver (n : Fin 32) (payload : List Byte)
  /-- WORKER_CAP_POP (R407): A write to CAP_POP frees capture records of a worker pin. -/
  | workerCapPop (rq : Requester) (value : BitVec 32)
  /-- HELPER_TRANSITION (R403): An accepted A or B transition counts, or is an encoder error. -/
  | helperTransition (h : Fin 16) (onA a b together : Bool) (ns : Nat)
  /-- HELPER_INDEX (R403): A rising Z edge latches COUNT and its stamp with Z_LATCH. -/
  | helperIndex (h : Fin 16) (ns : Nat)
  /-- SAFE_N_LOW (R425): SAFE_N held low for 1 µs enters the safe state and records SAFE_N_ASSERTED. -/
  | safeNLow (e : SafeNEdge)
  /-- SAFE_EXIT (R427): A write of the exit key ends the safe state if SAFE_N is high and no self-fault is held. -/
  | safeExit (rq : Requester) (value : List Byte)
  /-- FAULT_CLEAR (R428): A write of 1 releases latched FAULT_N reactions. -/
  | faultClear (rq : Requester) (value : List Byte)
  /-- CONFIG_SCRUB (R429): Every 1 ms the collector configuration is scrubbed and errors corrected or acted on. -/
  | configScrub (found : ScrubResult)
  /-- SHADOW_END (R422): A reset shadow ends at its reset-and-settle time or condition. -/
  | shadowEnd (id : Nat) (settled : Bool)
  /-- RELEASE (R433): A write of a block number releases an isolated block with one reset. -/
  | release (rq : Requester) (value : List Byte)
  /-- CRYSTAL_CLEAR (R435): A write of the clear key empties the CRYSTAL area while UNSTABLE. -/
  | crystalClear (rq : Requester) (value : List Byte)
  /-- LOCKSTEP_MISMATCH (R29): A lockstep mismatch of the management cores records and restarts them. -/
  | lockstepMismatch (pc : BitVec 32)
  /-- WATCHDOG (R29): Expiry of the management watchdog records and restarts the management processors. -/
  | watchdog (pc : BitVec 32)
  /-- MGMT_RESTART (R475): A write of the restart key requests a planned management restart. -/
  | mgmtRestart (rq : Requester) (value : List Byte)
  /-- READ (R52): A dictionary READ transfer returns the active, staged or default value. -/
  | dictRead (rq : Requester) (t : TransferReq)
  /-- WRITE (R52): A dictionary WRITE transfer writes or stages a value after the checks of R38. -/
  | dictWrite (rq : Requester) (t : TransferReq)
  /-- SEG_READ_INIT (R53): SEG_READ_INIT opens a session on a snapshot of a DOM. -/
  | segReadInit (rq : Requester) (t : TransferReq)
  /-- SEG_WRITE_INIT (R53): SEG_WRITE_INIT opens a write session for a DOM of a given total length. -/
  | segWriteInit (rq : Requester) (t : TransferReq)
  /-- SEG_READ (R53): SEG_READ returns the next bytes of the session's snapshot. -/
  | segRead (rq : Requester) (t : TransferReq)
  /-- SEG_WRITE (R53): SEG_WRITE stores a segment at its position and applies the DOM on LAST. -/
  | segWrite (rq : Requester) (t : TransferReq)
  /-- ABORT (R53): ABORT closes a segmented session and applies nothing. -/
  | dictAbort (rq : Requester) (t : TransferReq)
  /-- SESSION_TIMEOUT (R53): A session without a segment for SESSION_TIMEOUT closes. -/
  | sessionTimeout (n : Fin 256)
  /-- OBJECT_WRITE (R37): A write to an object with no row of its own is checked and applied as its access code states. -/
  | objectWrite (rq : Requester) (index : Fin 65536) (sub : Fin 256) (value : List Byte)
  /-- STAGED_WRITE (R45): A write to an RWS member stages the value and claims the commit group. -/
  | stagedWrite (rq : Requester) (index : Fin 65536) (sub : Fin 256) (value : List Byte)
  /-- CLAIM_TIMEOUT (R45): 10 s without a staged write from the owner end the claim and discard the staged set. -/
  | claimTimeout (g : Fin 65536)
  /-- COMMIT_DISCARD (R47): A write of 0 to COMMIT discards the staged set and ends the claim. -/
  | commitDiscard (rq : Requester) (g : Fin 65536)
  /-- COMMIT_AT_BOUNDARY (R47): A write of 1 to COMMIT checks the set and holds it PENDING for the block's safe boundary. -/
  | commitAtBoundary (rq : Requester) (g : Fin 65536)
  /-- COMMIT_NOW (R48): A write of 2 to COMMIT checks the set and makes the block apply it at once. -/
  | commitNow (rq : Requester) (g : Fin 65536)
  /-- SAVE_NOW (R60): A write of 1 to SAVE_NOW starts a save at once. -/
  | saveNow (rq : Requester) (value : List Byte)
  /-- SAVE_DONE (R40): A save completes and the persistent set is sent to the keeper's backup. -/
  | saveDone (ok : Bool) (other : Option (Fin 8192 × SavedSet))
  /-- RESTORE_DEFAULTS (R42): A write of the key restores persistent defaults, saves and requests a planned restart. -/
  | restoreDefaults (rq : Requester) (value : List Byte)
  /-- RELEASE_NUMBER (R43): A write of the key clears ring membership, saves and requests a planned restart. -/
  | releaseNumber (rq : Requester) (value : List Byte)
  /-- COUNTERS_CLEAR (R95): A write of 1 to a CLEAR object sets that record's counters to 0. -/
  | countersClear (rq : Requester) (index : Fin 65536) (value : List Byte)
  /-- KEEPER_QUERY (R448): The keeper answers a received KEEPER_QUERY with KEEPER_ANNOUNCE within 1 ms. -/
  | keeperQuery (p : RingPort) (f : TakenFrame)
  /-- JOIN_REQ (R452): The keeper places the joiner and decides the join by the join table. -/
  | joinReq (p : RingPort) (f : TakenFrame)
  /-- JOIN_GRANT (R453): A received JOIN_GRANT sets the join state for number, pass-through, wait or push. -/
  | joinGrant (p : RingPort) (f : TakenFrame)
  /-- SETTINGS_PUSH_DONE (R454): The LAST segment of SETTINGS_IMAGE is accepted; the image is saved and settings reloaded. -/
  | settingsPushDone (set : SavedSet)
  /-- MAP_READ_DELAY (R453): After a random 0–10 s delay a joined hub reads the keeper's MAP and stores it. -/
  | mapReadDelay (map : RingMap)
  /-- COMMISSION (R456): A write of the key on the keeper builds the ring map by STRIDE. -/
  | commission (rq : Requester) (value : List Byte)
  /-- MAP_WRITE (R457): A segmented write of MAP on the keeper replaces the ring map and sends MAP_UPDATE. -/
  | mapWrite (rq : Requester) (value : List Byte)
  /-- MAP_UPDATE (R457): A received MAP_UPDATE schedules renumbering at APPLY_CYCLE. -/
  | mapUpdate (p : RingPort) (f : TakenFrame)
  /-- POWER_EVALUATION (R472): Every 1 ms the hub re-evaluates its power state against tolerance and conditions. -/
  | powerEvaluation (m : Monitors)
  /-- LATENCY_TOLERANCE (R473): A write of LATENCY_TOLERANCE wakes or allows a deeper state. -/
  | latencyTolerance (rq : Requester) (value : List Byte)
  /-- WAKE (R502): The JTAG WAKE instruction sets a wake request. -/
  | wake (ir : JtagInstr) (bits : BitVec 158)
  /-- MARGIN_PLAN (R464): Daily or on a trigger, the hub forms a margin plan and re-tunes voltages, delays and offsets. -/
  | marginPlan (m : PlanMeasure)
  /-- PLAN_NOW (R464): A write of 1 to PLAN_NOW starts a margin plan. -/
  | planNow (rq : Requester) (value : List Byte)
  /-- BASELINE_RESET (R467): A write of 1 makes the port take a new baseline at the next plan. -/
  | baselineReset (rq : Requester) (p : RingPort) (value : List Byte)
  /-- SLACK_EVENT (R463): A slack detector below SLACK_MIN raises the core voltage by 10 mV. -/
  | slackEvent (d : Fin 16) (slack : Int)
  /-- THERMAL_HIGH (R468): The highest junction temperature above THERMAL_HIGH for 1 s raises THERMAL_HIGH. -/
  | thermalHigh (sensor : Fin 6) (temp : Int)
  /-- THERMAL_LIMIT (R468): 140 °C on the hub die raises the FATAL THERMAL_LIMIT. -/
  | thermalLimit (sensor : Fin 4) (temp : Int)
  /-- RIPPLE_HIGH (R469): VIN ripple above RIPPLE_LIMIT for 10 s raises RIPPLE_HIGH. -/
  | rippleHigh (mv : Nat)
  /-- VERIFICATION_DONE (R488): The crypto unit finishes checking the image and the slot becomes VERIFIED or REFUSED. -/
  | verificationDone (outcome : SignatureResult)
  /-- DISTRIBUTION_FRAME (R491): A distribution frame is written to its position of the image stream. -/
  | distributionFrame (repair : Bool) (payload : List Byte)
  /-- ACTIVATE_SLOT (R494): A write of 0x10 + s activates VERIFIED slot s at once or at ACTIVATE_AT. -/
  | activateSlot (rq : Requester) (k : Fin 2)
  /-- ACTIVATE_PAIR (R498): A write of 0x20 + s runs the pair update sequence. -/
  | activatePair (rq : Requester) (k : Fin 2) (same : Bool)
  /-- CONFIRM (R495): A write of 1 to CONFIRM ends TRIAL and the slot becomes ACTIVE. -/
  | confirm (rq : Requester) (value : List Byte)
  /-- LOAD_CHANNELS (R493): A write of a channel mask schedules loading of the newest channel image. -/
  | loadChannels (rq : Requester) (value : List Byte)
  /-- CHANNEL_LOADED (R493): At its boundary a channel is loaded, read back and recorded. -/
  | channelLoaded (matches_ : Bool)
  /-- USB_RECORDER_READ (R500): A USB message of KIND 0x03 returns the cursor view of the recorder. -/
  | usbRecorderRead (tag : Fin 65536) (target : BitVec 64) (seq : BitVec 32) (k : Fin 256)
  /-- WAGGLE_NONE (R247): An armed entry with ACTION NONE reaches its due time, counts as executed or MISSED and re-arms under REPEAT or goes IDLE. -/
  | waggleNone (e : Fin 4096)
  /-- VBUS_CHANGE (R473): VBUS is applied or removed while VIN is present; USB enumerates or detaches and VBUS and CONNECTED change. -/
  | vbusChange (applied : Bool)
  /-- HOST_LINK_UP (R301): After PERST_N is released, the PCI Express link trains and LINK_STATE reaches L0. -/
  | hostLinkUp (speed : Fin 3) (busMaster : Bool)
  /-- BL_FRAME_RX (R98): A frame arrives on a board link and is taken into the transit path to a ring port, into the COMB, or passed to a cluster partner. -/
  | blFrameRx (link : Fin 3) (raw : BitVec 256) (payload : List Byte) (good : Bool) (stamp : Nat)
  /-- M_SEQUENCE_START (R363): The SDCI master starts an M-sequence on its cycle and takes PD_OUT and its VALID bit whole. -/
  | mSequenceStart (n : Fin 8)
  /-- SIO_DI_CHANGE (R363): In DI mode, a C/Q level that has persisted for the fixed 100 µs filter updates PD_IN and may originate its flow. -/
  | sioDiChange (n : Fin 8) (level : Bool) (ns : Nat)
  /-- RECORDER_ECC_RECOVERY (R439): Recovery of the recorder from RECORDER_ECC ends, UNSTABLE is cleared and EPOCH is incremented. -/
  | recorderEccRecovery (slot : Fin 4096) (ends : Bool)
  /-- HOST_WINDOW_ACCESS (R305): A host access to the MSI-X structures or to a reserved offset of BAR0 is served, or read as all ones and logged as NO_TARGET. -/
  | hostWindowAccess (offset : Fin 16777216) (tag : Fin 65536) (acc : HostAccess)
  /-- POWER_ON (R443): VIN rises through 6.0 V; the power-on reset is released and start-up begins at step 1. -/
  | powerOn
  /-- RST_N (R443): RST_N held low for at least 10 µs has the effect of a power-on and restarts start-up at step 1. -/
  | rstN
  /-- BENCH_POWER (R459): With VIN below 6.0 V and VBUS present, the hub powers PD3, PD9 and the NOR only and serves USB in bench state. -/
  | benchPower
  /-- DOWN_HOP_EXPIRY (R143): A hop with no DOWN report for 3 s leaves the down-hop set. -/
  | downHopExpiry
  /-- ELECT_ROUND2 (R148): At E + 10 ms an eligible hub sends ELECT round 2. -/
  | electRound2
  /-- ELECTION_DECISION (R148): At E + 30 ms the hub ranks the ELECTs and takes the keeper role if it ranks highest. -/
  | electionDecision
  /-- ELECTION_RESTART (R148): No KEEPER_ANNOUNCE by E + 100 ms, or E + 1 s without a keeper, starts a new election. -/
  | electionRestart
  /-- KEEPER_ANNOUNCE_TIMER (R146): Every 1 s the keeper sends KEEPER_ANNOUNCE. -/
  | keeperAnnounceTimer
  /-- KEEPER_LOSS_GUARD_EXPIRY (R152): No CYCLE_MARK by the expected arrival plus KEEPER_LOSS_GUARD makes the backup declare keeper loss. -/
  | keeperLossGuardExpiry
  /-- PARTNER_ABSENT_TIMEOUT (R162): Slot 0 does not appear on BL0 within 2 s of the start of slot 1, which runs the field I/O alone. -/
  | partnerAbsentTimeout
  /-- HEARTBEAT_SEND (R168): Every 1 µs each pair member sends HEARTBEAT on BL0. -/
  | heartbeatSend
  /-- HEARTBEAT_MISS (R169): 1.1 µs without a heartbeat counts a miss, and the fourth consecutive miss triggers takeover. -/
  | heartbeatMiss
  /-- PROBE_TIMEOUT (R173): No PROBE_ANSWER within PROBE_TIMEOUT makes the standby take over with cause 3. -/
  | probeTimeout
  /-- RESYNC_DONE (R167): The standby has applied the whole shared state at a cycle boundary and the resync ends. -/
  | resyncDone
  /-- MIRROR_APPLY_TIME (R241): At the apply time carried in a mirrored waggle write, both members apply it in the same tick. -/
  | mirrorApplyTime
  /-- AUTO_SWAP_INTERVAL (R178): Expiry of AUTO_SWAP_INTERVAL requests a planned role swap. -/
  | autoSwapInterval
  /-- SWAP_TIME (R178): At T originations and worker pin directions change over in one tick. -/
  | swapTime
  /-- TEST_OFF (R176): Every TEST_OFF_INTERVAL the standby opens one of its on DIO channels for TEST_OFF_WIDTH. -/
  | testOff
  /-- CYCLE_BOUNDARY (R189): At each cycle boundary the hub starts the protected window and, as keeper, sends CYCLE_MARK and SYNC. -/
  | cycleBoundary
  /-- OPEN_WINDOW_START (R189): The protected window ends and C2 and C3 frames may start under the fit test. -/
  | openWindowStart
  /-- REPLAN_TIMER (R202): Every 1 s with a slow hop or shed level above 0, the keeper starts a plan by reading load figures. -/
  | replanTimer
  /-- HOLDOVER_ENTER (R220): No valid SYNC for HOLDOVER_AFTER consecutive SYNCs puts the hub into HOLDOVER. -/
  | holdoverEnter
  /-- EXT_LOST (R227): No reference measurement for EXT_LOSS_TIMEOUT makes the keeper hold its correction and record EXT_LOST. -/
  | extLost
  /-- PPS_OUT_EDGE (R228): At each PERIOD phase point and after WIDTH the PPS_OUT pad asserts or deasserts. -/
  | ppsOutEdge
  /-- VIN_REDUCED_ENTER (R379): VIN below 18.0 V for 1 ms enters reduced mode. -/
  | vinReducedEnter
  /-- VIN_REDUCED_EXIT (R379): VIN above 18.5 V for 10 ms leaves reduced mode. -/
  | vinReducedExit
  /-- VIN_LOST (R380): VIN below 5.5 V switches field power off and enters hold-up. -/
  | vinLost
  /-- VIN_RETURN (R470): VIN above 6.0 V before hold-up runs out restores PD1–PD9 and the outputs. -/
  | vinReturn
  /-- HOLDUP_EXPIRY (R470): The hold-up runs out and the hub stops. -/
  | holdupExpiry
  /-- COLLECTOR_MESSAGE (R417): The collector takes a fault message, stamps it, carries out its reactions and records it. -/
  | collectorMessage
  /-- CRYSTAL_CLEAR_DONE (R439): The CRYSTAL slots and NOR copy are erased, UNSTABLE ends and CRYSTAL_CLEARED is written. -/
  | crystalClearDone
  /-- BRINE_FLUSH (R437): Every 10 s pending BRINE records are written to NOR. -/
  | brineFlush
  /-- RESTART_END (R29): The management restart completes and queued events are delivered. -/
  | restartEnd
  /-- SAVE_START (R40): 2 s after the first unsaved change a settings save starts. -/
  | saveStart
  /-- DISCOVERY_WAIT (R448): No KEEPER_ANNOUNCE within DISCOVERY_WAIT of the first port UP starts an election. -/
  | discoveryWait
  /-- KEEPER_QUERY_SEND (R448): From the first port UP, and every 1 s, the hub sends KEEPER_QUERY. -/
  | keeperQuerySend
  /-- JOIN_RETRY (R450): Every JOIN_RETRY until a grant of kind 0 or 1 the hub repeats JOIN_REQ. -/
  | joinRetry
  /-- MAP_UPDATE_TIMER (R450): Every 10 s the keeper sends MAP_UPDATE. -/
  | mapUpdateTimer
  /-- POSITION_DROP (R452): 60 s after W and E train directly, the keeper drops the positions between them. -/
  | positionDrop
  /-- ACTIVATION_TIME (R494): ACTIVATE_AT is reached and the waiting activation starts. -/
  | activationTime
  /-- CONFIRM_AFTER (R495): CONFIRM_AFTER without an unplanned restart ends TRIAL. -/
  | confirmAfter
  /-- PHY_STAGGER_RETRAIN (R497): At its stagger time the hub retrains its EAST hop to load the new PHY image. -/
  | phyStaggerRetrain
  /-- PHY_WEST_RETRAIN (R497): 1 s after its EAST retrain, a WEST port still on the old image is retrained. -/
  | phyWestRetrain
  /-- WHOLE_SECOND (R228): At each whole second of ring time, pending PPS_OUT and CLUSTER_TICK sets apply and RESEQ_GAP may be raised again. -/
  | wholeSecond
  /-- HOST_LINK_DOWN (R310): The PCI Express host link is lost and HOST_LINK_DOWN is raised. -/
  | hostLinkDown
  deriving DecidableEq, Repr

end Sys2Proof
end

