-- ==== Sys2Proof/Decode.lean ====
section
/-!
DEFINITION. The decoder of command words. No row of the opcode table gives bits: the hub takes commands, and no command of it has
a word. A word therefore spells no command.
-/

namespace Sys2Proof

/-- The command that a word spells by the table's bits: none. -/
def decodeTableWord (_nbits _w : Nat) : Option Instr := none

end Sys2Proof
end

