-- ==== Sys2Proof/Machine/Assoc.lean ====
section
/-!
DEFINITION. Sparse tables: lists of key and value in strictly rising order of key, the one canonical form of every
sparse piece of State, and the operations that keep it.
-/

namespace Sys2Proof.Machine

variable {α : Type}

/-- The value listed under a key. -/
def aget (l : List (Nat × α)) (k : Nat) : Option α := (l.find? fun p => p.1 == k).map (·.2)

/-- List a value under a key, in its place. -/
def aput : List (Nat × α) → Nat → α → List (Nat × α)
  | [], k, v => [(k, v)]
  | (k', v') :: l, k, v =>
    if k < k' then (k, v) :: (k', v') :: l
    else if k = k' then (k, v) :: l
    else (k', v') :: aput l k v

/-- Take a key out. -/
def adel (l : List (Nat × α)) (k : Nat) : List (Nat × α) := l.filter fun p => p.1 != k

/-- Keys strictly rising. -/
def rising : List (Nat × α) → Bool
  | [] => true
  | [_] => true
  | a :: b :: l => a.1 < b.1 && rising (b :: l)

end Sys2Proof.Machine
end

