-- ==== Sys2Proof/Config.lean ====
section
/-!
DEFINITION. What an implementation fixes and the spec leaves open: the constants of one module (R59) and the free
values. None of the opaque constants has a value that a proof can see.
-/

namespace Sys2Proof.Config

/-- A fresh value the spec leaves open, by the number of the draw (DESIGN CHOICE, log entry 4). -/
opaque freeValue : Nat → Nat

/-- Constants of the module: order variant, serial number, date code, silicon revision, firmware, loader and PHY firmware
versions, CLUSTER_ID pads, mirror protocol version (DESIGN CHOICE, log entry 5). -/
opaque orderVariant : Fin 2
opaque serial : BitVec 64
opaque dateCode : BitVec 16
opaque siliconRev : BitVec 16
opaque fwVersion : BitVec 32
opaque loaderVersion : BitVec 32
opaque phyVersion : BitVec 32
opaque clusterId : Fin 4
opaque mirrorVersion : BitVec 16

/-- What a release of the management firmware fixes: its dictionary's fingerprint, and the format version that it gives an object,
by index × 256 + subindex (R33, R61; DESIGN CHOICE, log entry 110). -/
opaque fingerprint : BitVec 32 → BitVec 32
opaque formatVersion : BitVec 32 → Nat → BitVec 8

/-- What messages of the USB port that name no target hold as TARGET, by their tag, and the tag of an event (DESIGN CHOICE, log
entry 10). -/
opaque usbTarget : Nat → BitVec 64
opaque usbEventTag : BitVec 16

/-- QUALIFIER of a master event, by its code (DESIGN CHOICE, log entry 36). -/
opaque masterQualifier : Nat → BitVec 8

/-- The number that BUDGET_CUT gives a budget, and what VIN_REDUCED holds for entry and exit (DESIGN CHOICE, log entry 37). -/
opaque budgetNumber : Fin 8 → BitVec 16
opaque reducedArgument : Bool → BitVec 16

/-- The number that HOP_DEGRADED gives a margin: 0 MARGIN_V, 1 MARGIN_H, 2 link delay for the model (DESIGN CHOICE, log entry 46). -/
opaque marginKind : Nat → BitVec 16

/-- The core voltage, in steps of 5 mV above 0.72 V, that a plan takes when no step meets the target, by the slack predicted at the
highest (DESIGN CHOICE, log entry 47). -/
opaque unmetVoltage : Int → Fin 37

end Sys2Proof.Config
end

