-- ==== Sys2Proof/Machine/ObjTable.lean ====
section
/-!
DEFINITION. The object dictionary's table: for every index and subindex the spec's object tables give, its type
(R34), access code (R35), default value, persistence flag and the range its own table row states. The rows follow the
tables of chapters 02 to 16. Conditions that relate an object to another object or to a role are in
Machine/Operands.lean, not here.
-/

namespace Sys2Proof.Machine

/-- Data types of R34. -/
inductive OType where
  | bool | u8 | u16 | u32 | u64 | i16 | i32 | i64 | time32 | time80 | str | dom
  deriving DecidableEq, Repr

/-- Access codes of R35. -/
inductive Access where
  | const | ro | rw | wo | rws
  deriving DecidableEq, Repr

/-- The range that an object's own table row states for a written value, taken as an unsigned number. -/
inductive ValRange where
  /-- every value of the type -/
  | any
  /-- from `lo` to `hi` -/
  | span (lo hi : Nat)
  /-- 0, or from `lo` to `hi` -/
  | zeroOr (lo hi : Nat)
  /-- from `lo` to `hi`, or the one further value `x` -/
  | spanOr (lo hi x : Nat)
  /-- two's complement of `bits` bits, from `lo` to `hi` -/
  | signed (bits : Nat) (lo hi : Int)
  /-- only bits of `m` may be set -/
  | mask (m : Nat)
  /-- from `lo` to `hi` in steps of `k` -/
  | steps (lo hi k : Nat)
  /-- from `lo` to `hi`, a divisor of 10^9 -/
  | divisor (lo hi : Nat)
  deriving DecidableEq, Repr

/-- One row of an object table: subindices `s0` to `s1`. -/
structure ObjRow where
  s0 : Nat
  s1 : Nat
  ty : OType
  acc : Access
  dflt : Nat
  persistent : Bool
  range : ValRange
  deriving DecidableEq, Repr

/-- One object table: indices `lo` to `hi` share its layout. -/
structure ObjBlock where
  lo : Nat
  hi : Nat
  rows : List ObjRow
  deriving DecidableEq, Repr

/-- Size of a type's value in bytes (R34); a STR holds up to 16, a DOM is reached by segments only. -/
def OType.size : OType → Nat
  | .bool => 1 | .u8 => 1 | .u16 => 2 | .u32 => 4 | .u64 => 8 | .i16 => 2 | .i32 => 4 | .i64 => 8
  | .time32 => 4 | .time80 => 10 | .str => 16 | .dom => 0

/-- Whether a value lies in the range its table row states (R38 step 7). -/
def ValRange.holds : ValRange → Nat → Bool
  | .any, _ => true
  | .span lo hi, v => lo ≤ v && v ≤ hi
  | .zeroOr lo hi, v => v == 0 || (lo ≤ v && v ≤ hi)
  | .spanOr lo hi x, v => v == x || (lo ≤ v && v ≤ hi)
  | .signed bits lo hi, v => lo ≤ toSigned bits v && toSigned bits v ≤ hi
  | .mask m, v => v &&& m == v
  | .steps lo hi k, v => lo ≤ v && v ≤ hi && v % k == 0
  | .divisor lo hi, v => lo ≤ v && v ≤ hi && 1000000000 % v == 0


/-- Objects 0x1000 to 0x2000: the object tables of the chapters, row by row. -/
def objBlocks0 : List ObjBlock := [
  ⟨0x1000, 0x1000, [
    ⟨0x00, 0x00, .u8, .const, 10, false, .any⟩, -- HIGHEST_SUB
    ⟨0x01, 0x01, .u32, .const, 0x4A4C0000, false, .any⟩, -- VENDOR_ID
    ⟨0x02, 0x02, .u32, .const, 0x554835, false, .any⟩, -- PRODUCT_CODE
    ⟨0x03, 0x03, .u8, .const, 0, false, .any⟩, -- ORDER_VARIANT
    ⟨0x04, 0x04, .u64, .const, 0, false, .any⟩, -- SERIAL
    ⟨0x05, 0x05, .u16, .const, 0, false, .any⟩, -- DATE_CODE
    ⟨0x06, 0x06, .u16, .const, 0, false, .any⟩, -- SILICON_REV
    ⟨0x07, 0x07, .u32, .ro, 0, false, .any⟩, -- FW_VERSION
    ⟨0x08, 0x08, .u32, .ro, 0, false, .any⟩, -- LOADER_VERSION
    ⟨0x09, 0x09, .u32, .ro, 0, false, .any⟩, -- PHY_FW_VERSION
    ⟨0x0A, 0x0A, .u32, .ro, 0, false, .any⟩ -- DICT_FINGERPRINT
    ]⟩,
  ⟨0x1001, 0x1001, [
    ⟨0x00, 0x00, .u8, .const, 8, false, .any⟩, -- HIGHEST_SUB
    ⟨0x01, 0x01, .u8, .rw, 0, true, .span 0 15⟩, -- RING_NUMBER
    ⟨0x02, 0x02, .u16, .ro, 0, false, .any⟩, -- NODE_NUMBER
    ⟨0x03, 0x03, .u8, .ro, 0, false, .any⟩, -- SLOT
    ⟨0x04, 0x04, .u8, .ro, 0, false, .any⟩, -- ROLE
    ⟨0x05, 0x05, .u8, .rw, 128, true, .any⟩, -- KEEPER_PRIORITY
    ⟨0x06, 0x06, .str, .rw, 0, true, .any⟩, -- NODE_NAME
    ⟨0x07, 0x07, .u32, .rw, 0, true, .any⟩, -- LOCATION_MM
    ⟨0x08, 0x08, .u32, .wo, 0, false, .any⟩ -- RELEASE_NUMBER
    ]⟩,
  ⟨0x1010, 0x1010, [
    ⟨0x00, 0x00, .u8, .const, 5, false, .any⟩, -- HIGHEST_SUB
    ⟨0x01, 0x01, .u8, .ro, 0, false, .any⟩, -- SAVE_STATE
    ⟨0x02, 0x02, .u32, .ro, 0, false, .any⟩, -- SAVE_SEQ
    ⟨0x03, 0x03, .u8, .ro, 0, false, .any⟩, -- COPY_IN_USE
    ⟨0x04, 0x04, .u32, .wo, 0, false, .any⟩, -- RESTORE_DEFAULTS
    ⟨0x05, 0x05, .u8, .wo, 0, false, .span 1 1⟩ -- SAVE_NOW
    ]⟩,
  ⟨0x1020, 0x1020, [
    ⟨0x00, 0x00, .u8, .const, 9, false, .any⟩, -- HIGHEST_SUB
    ⟨0x01, 0x08, .u8, .ro, 0, false, .any⟩, -- SDO_LAST_RESULT
    ⟨0x09, 0x09, .u8, .ro, 0, false, .any⟩ -- USB_LAST_RESULT
    ]⟩,
  ⟨0x1030, 0x1030, [
    ⟨0x00, 0x00, .u8, .const, 3, false, .any⟩, -- HIGHEST_SUB
    ⟨0x01, 0x01, .u8, .ro, 0, false, .any⟩, -- OPEN_SESSIONS
    ⟨0x02, 0x02, .time32, .rw, 0x3B9ACA00, true, .span 100000000 4000000000⟩, -- SESSION_TIMEOUT
    ⟨0x03, 0x03, .u32, .ro, 0, false, .any⟩ -- SESSIONS_TIMED_OUT
    ]⟩,
  ⟨0x2000, 0x2001, [
    ⟨0x00, 0x00, .u8, .const, 17, false, .any⟩, -- HIGHEST_SUB
    ⟨0x01, 0x01, .bool, .rw, 1, true, .any⟩, -- PORT_ENABLE
    ⟨0x02, 0x02, .u8, .rw, 2, true, .span 1 2⟩, -- MAX_RATE
    ⟨0x03, 0x03, .bool, .rw, 1, true, .any⟩, -- UPRATE_ENABLE
    ⟨0x04, 0x04, .u8, .ro, 0, false, .any⟩, -- PORT_STATE
    ⟨0x05, 0x05, .u8, .ro, 0, false, .any⟩, -- PORT_RATE
    ⟨0x06, 0x06, .u8, .ro, 0, false, .any⟩, -- REFUSE_REASON
    ⟨0x07, 0x07, .u64, .ro, 0, false, .any⟩, -- NEIGHBOUR_SERIAL
    ⟨0x08, 0x08, .u32, .ro, 0, false, .any⟩, -- NEIGHBOUR_NODE
    ⟨0x09, 0x09, .u16, .ro, 0, false, .any⟩, -- MARGIN_V
    ⟨0x0A, 0x0A, .u16, .ro, 0, false, .any⟩, -- MARGIN_H
    ⟨0x0B, 0x0B, .u16, .ro, 0, false, .any⟩, -- PARTNER_MARGIN_V
    ⟨0x0C, 0x0C, .u16, .ro, 0, false, .any⟩, -- PARTNER_MARGIN_H
    ⟨0x0D, 0x0D, .u16, .rw, 18, true, .span 8 60⟩, -- FALLBACK_V
    ⟨0x0E, 0x0E, .u16, .rw, 90, true, .span 40 300⟩, -- FALLBACK_H
    ⟨0x0F, 0x0F, .time32, .rw, 0x3B9ACA00, true, .span 100000000 4000000000⟩, -- FALLBACK_HOLD
    ⟨0x10, 0x10, .u8, .wo, 0, false, .span 1 2⟩, -- RETRAIN
    ⟨0x11, 0x11, .u16, .rw, 10, true, .span 1 10000⟩ -- FALLBACK_CRC
    ]⟩]

/-- Objects 0x2010 to 0x2130: the object tables of the chapters, row by row. -/
def objBlocks1 : List ObjBlock := [
  ⟨0x2010, 0x2011, [
    ⟨0x00, 0x00, .u8, .const, 20, false, .any⟩, -- HIGHEST_SUB
    ⟨0x01, 0x01, .u64, .ro, 0, false, .any⟩, -- FRAMES_RX
    ⟨0x02, 0x02, .u64, .ro, 0, false, .any⟩, -- FRAMES_TX
    ⟨0x03, 0x03, .u64, .ro, 0, false, .any⟩, -- BYTES_RX
    ⟨0x04, 0x04, .u32, .ro, 0, false, .any⟩, -- HCRC_ERRORS
    ⟨0x05, 0x05, .u32, .ro, 0, false, .any⟩, -- CRC_ERRORS
    ⟨0x06, 0x06, .u32, .ro, 0, false, .any⟩, -- HEADER_ERRORS
    ⟨0x07, 0x07, .u32, .ro, 0, false, .any⟩, -- TYPE_RESERVED
    ⟨0x08, 0x08, .u32, .ro, 0, false, .any⟩, -- UNKNOWN_FLOW
    ⟨0x09, 0x09, .u32, .ro, 0, false, .any⟩, -- HOPS_EXPIRED
    ⟨0x0A, 0x0A, .u32, .ro, 0, false, .any⟩, -- POISON_ORIGINATED
    ⟨0x0B, 0x0B, .u32, .ro, 0, false, .any⟩, -- POISON_PASSED
    ⟨0x0C, 0x0C, .u32, .ro, 0, false, .any⟩, -- BLOCK_ERRORS
    ⟨0x0D, 0x0D, .u32, .ro, 0, false, .any⟩, -- LINK_LOSSES
    ⟨0x0E, 0x0E, .u32, .ro, 0, false, .any⟩, -- RETRAINS
    ⟨0x0F, 0x0F, .u32, .ro, 0, false, .any⟩, -- FALLBACKS
    ⟨0x10, 0x10, .u32, .ro, 0, false, .any⟩, -- UPRATES
    ⟨0x11, 0x11, .u32, .ro, 0, false, .any⟩, -- REFUSALS
    ⟨0x12, 0x12, .u32, .ro, 0, false, .any⟩, -- TRAIN_FAILS
    ⟨0x13, 0x13, .u32, .ro, 0, false, .any⟩, -- LINK_DOWN_DISCARDS
    ⟨0x14, 0x14, .u8, .wo, 0, false, .span 1 1⟩ -- CLEAR
    ]⟩,
  ⟨0x2020, 0x2021, [
    ⟨0x00, 0x00, .u8, .const, 8, false, .any⟩, -- HIGHEST_SUB
    ⟨0x01, 0x01, .time32, .rw, 0x989680, true, .span 1000000 1000000000⟩, -- DELAY_INTERVAL
    ⟨0x02, 0x02, .u32, .ro, 0, false, .any⟩, -- LINK_DELAY
    ⟨0x03, 0x03, .u32, .ro, 0, false, .any⟩, -- LINK_DELAY_LAST
    ⟨0x04, 0x04, .u32, .ro, 0, false, .any⟩, -- LINK_DELAY_SPREAD
    ⟨0x05, 0x05, .u32, .ro, 0, false, .any⟩, -- EXCHANGES
    ⟨0x06, 0x06, .u32, .ro, 0, false, .any⟩, -- EXCHANGES_REJECTED
    ⟨0x07, 0x07, .u16, .rw, 200, true, .span 40 5000⟩, -- DELAY_STEP_LIMIT
    ⟨0x08, 0x08, .bool, .ro, 0, false, .any⟩ -- TIME_PATH_READY
    ]⟩,
  ⟨0x2100, 0x2100, [
    ⟨0x00, 0x00, .u8, .const, 8, false, .any⟩, -- HIGHEST_SUB
    ⟨0x01, 0x01, .time32, .rw, 50000, true, .span 5000 1000000⟩, -- HOLD_DEFAULT
    ⟨0x02, 0x02, .time32, .rw, 0x1E8480, true, .span 0 10000000⟩, -- HEAL_HOLD
    ⟨0x03, 0x03, .time32, .rw, 0x4C4B40, true, .span 1000000 100000000⟩, -- PATH_IDLE
    ⟨0x04, 0x04, .time32, .rw, 0x989680, true, .span 5000000 1000000000⟩, -- RESYNC_IDLE
    ⟨0x05, 0x05, .time32, .rw, 0x5F5E100, true, .span 10000000 2000000000⟩, -- MAX_RESIDENCE
    ⟨0x06, 0x06, .time32, .rw, 10000, true, .span 1000 1000000⟩, -- CREDIT_INTERVAL
    ⟨0x07, 0x07, .time32, .rw, 0x5F5E100, true, .span 1000000 4000000000⟩, -- CREDIT_STALL_LIMIT
    ⟨0x08, 0x08, .bool, .rw, 1, true, .any⟩ -- CUT_THROUGH_ENABLE
    ]⟩,
  ⟨0x2110, 0x2110, [
    ⟨0x00, 0x00, .u8, .const, 8, false, .any⟩, -- HIGHEST_SUB
    ⟨0x01, 0x06, .u16, .rws, 4096, true, .span 64 28672⟩, -- QUOTA_OUT0–QUOTA_OUT5
    ⟨0x07, 0x08, .u16, .rws, 2048, true, .span 64 28672⟩ -- QUOTA_OUT6–QUOTA_OUT7
    ]⟩,
  ⟨0x2111, 0x2111, [
    ⟨0x00, 0x00, .u8, .const, 5, false, .any⟩, -- QUOTA_COMMIT HIGHEST_SUB
    ⟨0x01, 0x01, .u8, .wo, 0, false, .span 0 2⟩, -- COMMIT
    ⟨0x02, 0x02, .u8, .ro, 0, false, .any⟩, -- STATE
    ⟨0x03, 0x03, .u8, .ro, 0, false, .any⟩, -- LAST_RESULT
    ⟨0x04, 0x04, .u32, .ro, 0, false, .any⟩, -- APPLY_COUNT
    ⟨0x05, 0x05, .u32, .ro, 0, false, .any⟩ -- OWNER
    ]⟩,
  ⟨0x2112, 0x2112, [
    ⟨0x00, 0x00, .u8, .const, 15, false, .any⟩, -- HIGHEST_SUB
    ⟨0x01, 0x08, .u16, .ro, 0, false, .any⟩, -- OCC_OUT0–OCC_OUT7
    ⟨0x09, 0x09, .u16, .ro, 0, false, .any⟩, -- TRANSIT_EAST
    ⟨0x0A, 0x0A, .u16, .ro, 0, false, .any⟩, -- TRANSIT_WEST
    ⟨0x0B, 0x0B, .u16, .ro, 0, false, .any⟩, -- TRANSIT_GATEWAY
    ⟨0x0C, 0x0C, .u16, .ro, 0, false, .any⟩, -- RESERVE_EAST
    ⟨0x0D, 0x0D, .u16, .ro, 0, false, .any⟩, -- RESERVE_WEST
    ⟨0x0E, 0x0E, .u16, .ro, 28672, false, .any⟩, -- FREE_CELLS
    ⟨0x0F, 0x0F, .u16, .ro, 4096, false, .any⟩ -- HOLD_POOL_FREE
    ]⟩,
  ⟨0x2120, 0x2120, [
    ⟨0x00, 0x00, .u8, .const, 10, false, .any⟩, -- HIGHEST_SUB
    ⟨0x01, 0x01, .u64, .ro, 0, false, .any⟩, -- CUT_THROUGH
    ⟨0x02, 0x02, .u64, .ro, 0, false, .any⟩, -- STORED
    ⟨0x03, 0x03, .u64, .ro, 0, false, .any⟩, -- SPILLED
    ⟨0x04, 0x04, .u32, .ro, 0, false, .any⟩, -- DROPS_EAST
    ⟨0x05, 0x05, .u32, .ro, 0, false, .any⟩, -- DROPS_WEST
    ⟨0x06, 0x06, .u32, .ro, 0, false, .any⟩, -- DROPS_GATEWAY
    ⟨0x07, 0x07, .u32, .ro, 0, false, .any⟩, -- BL_POISON_ORIGINATED
    ⟨0x08, 0x08, .u16, .ro, 0, false, .any⟩, -- PEAK_EAST
    ⟨0x09, 0x09, .u16, .ro, 0, false, .any⟩, -- PEAK_WEST
    ⟨0x0A, 0x0A, .u8, .wo, 0, false, .span 1 1⟩ -- CLEAR
    ]⟩,
  ⟨0x2130, 0x2130, [
    ⟨0x00, 0x00, .u8, .const, 16, false, .any⟩, -- HIGHEST_SUB
    ⟨0x01, 0x10, .u64, .rw, 0, true, .any⟩ -- MEMBER_0–MEMBER_15
    ]⟩]

/-- Objects 0x2140 to 0x2240: the object tables of the chapters, row by row. -/
def objBlocks2 : List ObjBlock := [
  ⟨0x2140, 0x2140, [
    ⟨0x00, 0x00, .u8, .const, 6, false, .any⟩, -- HIGHEST_SUB
    ⟨0x01, 0x01, .u16, .ro, 0, false, .any⟩, -- ENTRIES_ACTIVE
    ⟨0x02, 0x02, .u16, .ro, 0, false, .any⟩, -- ENTRIES_RETIRING
    ⟨0x03, 0x03, .u64, .rw, 0, false, .mask 0xF1FFFFFFF⟩, -- HASH_KEY
    ⟨0x04, 0x04, .u16, .ro, 0, false, .any⟩, -- HASH_BUCKET
    ⟨0x05, 0x05, .u32, .ro, 0, false, .any⟩, -- WRITES_REFUSED
    ⟨0x06, 0x06, .u8, .wo, 0, false, .span 1 1⟩ -- COUNTER_CLEAR
    ]⟩,
  ⟨0x2150, 0x2150, [
    ⟨0x00, 0x00, .u8, .const, 23, false, .any⟩, -- HIGHEST_SUB
    ⟨0x01, 0x08, .u32, .ro, 0, false, .any⟩, -- TAIL_DROPS_OUT0–OUT7
    ⟨0x09, 0x09, .u32, .ro, 0, false, .any⟩, -- RESIDENCE_DISCARDS
    ⟨0x0A, 0x0A, .u64, .ro, 0, false, .any⟩, -- DUPLICATES
    ⟨0x0B, 0x0B, .u32, .ro, 0, false, .any⟩, -- LATE
    ⟨0x0C, 0x0C, .u32, .ro, 0, false, .any⟩, -- STALE
    ⟨0x0D, 0x0D, .u32, .ro, 0, false, .any⟩, -- GAPS
    ⟨0x0E, 0x0E, .u32, .ro, 0, false, .any⟩, -- RESYNCS
    ⟨0x0F, 0x0F, .u32, .ro, 0, false, .any⟩, -- HOLD_EXPIRIES
    ⟨0x10, 0x10, .u32, .ro, 0, false, .any⟩, -- HOLD_POOL_EMPTY
    ⟨0x11, 0x11, .u32, .ro, 0, false, .any⟩, -- CREDIT_STALLS
    ⟨0x12, 0x12, .u32, .ro, 0, false, .any⟩, -- CREDIT_UNMATCHED
    ⟨0x13, 0x13, .u32, .ro, 0, false, .any⟩, -- NO_LOCAL_OUTPUT
    ⟨0x14, 0x14, .u32, .ro, 0, false, .any⟩, -- LOOKUP_DROPS
    ⟨0x15, 0x15, .u32, .ro, 0, false, .any⟩, -- LOCAL_NO_ENTRY
    ⟨0x16, 0x16, .u32, .ro, 0, false, .any⟩, -- REQ_STATE_FULL
    ⟨0x17, 0x17, .u8, .wo, 0, false, .span 1 1⟩ -- CLEAR
    ]⟩,
  ⟨0x2200, 0x2200, [
    ⟨0x00, 0x00, .u8, .const, 10, false, .any⟩, -- HIGHEST_SUB
    ⟨0x01, 0x01, .time32, .rws, 0xF4240, true, .steps 50000 16000000 10000⟩, -- CYCLE_LENGTH
    ⟨0x02, 0x02, .u8, .rws, 50, true, .span 0 90⟩, -- PROTECTED_PCT
    ⟨0x03, 0x03, .u8, .rw, 95, true, .span 60 99⟩, -- PLAN_LIMIT_PCT
    ⟨0x04, 0x04, .u32, .ro, 0, false, .any⟩, -- CYCLE_NUMBER
    ⟨0x05, 0x05, .time80, .ro, 0, false, .any⟩, -- LAST_BOUNDARY
    ⟨0x06, 0x06, .u32, .ro, 0, false, .any⟩, -- CHANGE_CYCLE
    ⟨0x07, 0x07, .u16, .ro, 0, false, .any⟩, -- PLAN_VERSION
    ⟨0x08, 0x08, .u8, .ro, 0, false, .any⟩, -- SHED_LEVEL
    ⟨0x09, 0x09, .u32, .ro, 0, false, .any⟩, -- MARKS_MISSED
    ⟨0x0A, 0x0A, .u32, .ro, 0, false, .any⟩ -- REALIGNS
    ]⟩,
  ⟨0x2201, 0x2201, [
    ⟨0x00, 0x00, .u8, .const, 5, false, .any⟩, -- CYCLE_COMMIT HIGHEST_SUB
    ⟨0x01, 0x01, .u8, .wo, 0, false, .span 0 2⟩, -- COMMIT
    ⟨0x02, 0x02, .u8, .ro, 0, false, .any⟩, -- STATE
    ⟨0x03, 0x03, .u8, .ro, 0, false, .any⟩, -- LAST_RESULT
    ⟨0x04, 0x04, .u32, .ro, 0, false, .any⟩, -- APPLY_COUNT
    ⟨0x05, 0x05, .u32, .ro, 0, false, .any⟩ -- OWNER
    ]⟩,
  ⟨0x2210, 0x2210, [
    ⟨0x00, 0x00, .u8, .const, 3, false, .any⟩, -- HIGHEST_SUB
    ⟨0x01, 0x01, .u8, .rw, 192, true, .span 1 255⟩, -- WEIGHT_C2
    ⟨0x02, 0x02, .u8, .rw, 64, true, .span 1 255⟩, -- WEIGHT_C3
    ⟨0x03, 0x03, .time32, .rw, 0x1312D00, true, .span 1000000 1000000000⟩ -- AGE_LIMIT
    ]⟩,
  ⟨0x2220, 0x2222, [
    ⟨0x00, 0x00, .u8, .const, 10, false, .any⟩, -- HIGHEST_SUB
    ⟨0x01, 0x01, .u32, .ro, 0, false, .any⟩, -- C0_LAST
    ⟨0x02, 0x02, .u32, .ro, 0, false, .any⟩, -- C1_LAST
    ⟨0x03, 0x03, .u32, .ro, 0, false, .any⟩, -- C23_LAST
    ⟨0x04, 0x04, .u32, .ro, 0, false, .any⟩, -- C1_PEAK
    ⟨0x05, 0x05, .u32, .ro, 0, false, .any⟩, -- C23_PEAK
    ⟨0x06, 0x06, .u32, .ro, 0, false, .any⟩, -- FIT_DEFERRALS
    ⟨0x07, 0x07, .u32, .ro, 0, false, .any⟩, -- C1_AFTER_WINDOW
    ⟨0x08, 0x08, .u32, .ro, 0, false, .any⟩, -- PROMOTIONS_TRANSIT
    ⟨0x09, 0x09, .u32, .ro, 0, false, .any⟩, -- PROMOTIONS_LOCAL
    ⟨0x0A, 0x0A, .u8, .wo, 0, false, .span 1 1⟩ -- CLEAR
    ]⟩,
  ⟨0x2223, 0x2223, [
    ⟨0x00, 0x00, .u8, .const, 6, false, .any⟩, -- HIGHEST_SUB
    ⟨0x01, 0x06, .u32, .ro, 0, false, .any⟩ -- PROMOTIONS_OUT2–OUT7
    ]⟩,
  ⟨0x2230, 0x2230, [
    ⟨0x00, 0x00, .u8, .const, 18, false, .any⟩, -- HIGHEST_SUB
    ⟨0x01, 0x10, .u32, .rw, 0, true, .any⟩, -- SHED_ENTRY_0–SHED_ENTRY_15
    ⟨0x11, 0x11, .u32, .ro, 0, false, .any⟩, -- SHED_DROPS
    ⟨0x12, 0x12, .u32, .ro, 0, false, .any⟩ -- SHED_IGNORED
    ]⟩,
  ⟨0x2240, 0x2240, [
    ⟨0x00, 0x00, .u8, .const, 5, false, .any⟩, -- HIGHEST_SUB
    ⟨0x01, 0x01, .u16, .ro, 0, false, .any⟩, -- SLOW_HOPS
    ⟨0x02, 0x02, .u32, .ro, 0, false, .any⟩, -- WORST_HOP
    ⟨0x03, 0x03, .time32, .ro, 0, false, .any⟩, -- WORST_T1
    ⟨0x04, 0x04, .time32, .ro, 0, false, .any⟩, -- WORST_T23
    ⟨0x05, 0x05, .time80, .ro, 0, false, .any⟩ -- LAST_PLAN
    ]⟩]

/-- Objects 0x22F0 to 0x2420: the object tables of the chapters, row by row. -/
def objBlocks3 : List ObjBlock := [
  ⟨0x22F0, 0x22F0, [
    ⟨0x00, 0x00, .u8, .const, 5, false, .any⟩, -- SHAPERS_COMMIT HIGHEST_SUB
    ⟨0x01, 0x01, .u8, .wo, 0, false, .span 0 2⟩, -- COMMIT
    ⟨0x02, 0x02, .u8, .ro, 0, false, .any⟩, -- STATE
    ⟨0x03, 0x03, .u8, .ro, 0, false, .any⟩, -- LAST_RESULT
    ⟨0x04, 0x04, .u32, .ro, 0, false, .any⟩, -- APPLY_COUNT
    ⟨0x05, 0x05, .u32, .ro, 0, false, .any⟩ -- OWNER
    ]⟩,
  ⟨0x22F1, 0x22F1, [
    ⟨0x00, 0x00, .u8, .const, 1, false, .any⟩, -- HIGHEST_SUB
    ⟨0x01, 0x01, .u8, .rws, 6, true, .span 0 10⟩ -- SLOT_WIDTH
    ]⟩,
  ⟨0x2300, 0x23FF, [
    ⟨0x00, 0x00, .u8, .const, 7, false, .any⟩, -- HIGHEST_SUB
    ⟨0x01, 0x01, .u8, .rws, 0, true, .span 0 2⟩, -- KIND
    ⟨0x02, 0x02, .u16, .rws, 0, true, .any⟩, -- TARGET
    ⟨0x03, 0x03, .u32, .rws, 1000, true, .span 64 10000000⟩, -- RATE
    ⟨0x04, 0x04, .u32, .rws, 4096, true, .span 128 1048576⟩, -- BURST
    ⟨0x05, 0x05, .i32, .ro, 0, false, .any⟩, -- TOKENS
    ⟨0x06, 0x06, .u32, .ro, 0, false, .any⟩, -- RELEASED
    ⟨0x07, 0x07, .u32, .ro, 0, false, .any⟩ -- WHEEL_WRAPS
    ]⟩,
  ⟨0x2400, 0x2400, [
    ⟨0x00, 0x00, .u8, .const, 8, false, .any⟩, -- HIGHEST_SUB
    ⟨0x01, 0x01, .u8, .ro, 0, false, .any⟩, -- STATE
    ⟨0x02, 0x02, .u16, .ro, 0, false, .any⟩, -- DOWN_HOPS
    ⟨0x03, 0x03, .u16, .ro, 0, false, .any⟩, -- REACHABLE
    ⟨0x04, 0x04, .u16, .ro, 0, false, .any⟩, -- SEGMENT_WEST
    ⟨0x05, 0x05, .u16, .ro, 0, false, .any⟩, -- SEGMENT_EAST
    ⟨0x06, 0x06, .time80, .ro, 0, false, .any⟩, -- LAST_CHANGE
    ⟨0x07, 0x07, .u32, .ro, 0, false, .any⟩, -- PARTITIONS
    ⟨0x08, 0x08, .u32, .ro, 0, false, .any⟩ -- HOP_REPORTS_RX
    ]⟩,
  ⟨0x2401, 0x2401, [
    ⟨0x00, 0x00, .u8, .const, 10, false, .any⟩, -- HIGHEST_SUB
    ⟨0x01, 0x01, .u16, .ro, 0, false, .any⟩, -- KEEPER_NODE
    ⟨0x02, 0x02, .u16, .ro, 0, false, .any⟩, -- BACKUP_NODE
    ⟨0x03, 0x03, .u32, .ro, 0, false, .any⟩, -- TERM
    ⟨0x04, 0x04, .bool, .ro, 0, false, .any⟩, -- ISLAND
    ⟨0x05, 0x05, .time32, .rw, 20000, true, .span 5000 500000⟩, -- KEEPER_LOSS_GUARD
    ⟨0x06, 0x06, .u32, .ro, 0, false, .any⟩, -- TAKEOVERS
    ⟨0x07, 0x07, .u32, .ro, 0, false, .any⟩, -- ELECTIONS
    ⟨0x08, 0x08, .u8, .ro, 0, false, .any⟩, -- MIRROR_STATE
    ⟨0x09, 0x09, .time32, .ro, 0, false, .any⟩, -- MIRROR_LAG
    ⟨0x0A, 0x0A, .u64, .ro, 0, false, .any⟩ -- LAST_KEEPER_SERIAL
    ]⟩,
  ⟨0x2410, 0x2410, [
    ⟨0x00, 0x00, .u8, .const, 7, false, .any⟩, -- HIGHEST_SUB
    ⟨0x01, 0x01, .u32, .ro, 0, false, .any⟩, -- MAP_VERSION
    ⟨0x02, 0x02, .u16, .ro, 0, false, .any⟩, -- POSITIONS
    ⟨0x03, 0x03, .u16, .ro, 0, false, .any⟩, -- NUMBERED
    ⟨0x04, 0x04, .u8, .rw, 1, true, .span 1 16⟩, -- STRIDE
    ⟨0x05, 0x05, .u32, .wo, 0, false, .any⟩, -- COMMISSION
    ⟨0x06, 0x06, .dom, .rw, 0, true, .any⟩, -- MAP
    ⟨0x07, 0x07, .u16, .ro, 0, false, .any⟩ -- PENDING_JOINS
    ]⟩,
  ⟨0x2420, 0x2420, [
    ⟨0x00, 0x00, .u8, .const, 12, false, .any⟩, -- HIGHEST_SUB
    ⟨0x01, 0x01, .u8, .ro, 1, false, .any⟩, -- PHASE
    ⟨0x02, 0x02, .u8, .ro, 0, false, .any⟩, -- START_CAUSE
    ⟨0x03, 0x03, .u32, .ro, 0, false, .any⟩, -- START_COUNT
    ⟨0x04, 0x04, .u8, .ro, 0, false, .any⟩, -- SELFTEST_RESULT
    ⟨0x05, 0x05, .u8, .ro, 0, false, .any⟩, -- JOIN_STATE
    ⟨0x06, 0x06, .time32, .ro, 0, false, .any⟩, -- TIME_TO_SERVICE
    ⟨0x07, 0x07, .time32, .rw, 0x47868C00, true, .span 1100000000 4000000000⟩, -- DISCOVERY_WAIT
    ⟨0x08, 0x08, .time32, .rw, 0xBEBC200, true, .span 50000000 2000000000⟩, -- JOIN_RETRY
    ⟨0x09, 0x09, .dom, .wo, 0, false, .any⟩, -- SETTINGS_IMAGE
    ⟨0x0A, 0x0A, .u32, .ro, 0, false, .any⟩, -- PUSHES_FAILED
    ⟨0x0B, 0x0B, .u32, .ro, 0, false, .any⟩, -- PUSHED_SEQ
    ⟨0x0C, 0x0C, .time80, .ro, 0, false, .any⟩ -- LAST_JOIN
    ]⟩]

/-- Objects 0x3000 to 0x3040: the object tables of the chapters, row by row. -/
def objBlocks4 : List ObjBlock := [
  ⟨0x3000, 0x3000, [
    ⟨0x00, 0x00, .u8, .const, 16, false, .any⟩, -- HIGHEST_SUB
    ⟨0x01, 0x01, .time80, .ro, 0, false, .any⟩, -- NOW
    ⟨0x02, 0x02, .u8, .ro, 0, false, .any⟩, -- STATE
    ⟨0x03, 0x03, .u32, .ro, 0xFFFFFFFF, false, .any⟩, -- EST_ERROR
    ⟨0x04, 0x04, .u8, .ro, 2, false, .any⟩, -- FREQ_SOURCE
    ⟨0x05, 0x05, .u16, .ro, 0, false, .any⟩, -- HOPS_VIA_WEST
    ⟨0x06, 0x06, .u16, .ro, 0, false, .any⟩, -- HOPS_VIA_EAST
    ⟨0x07, 0x07, .u16, .ro, 0, false, .any⟩, -- WEIGHT_WEST
    ⟨0x08, 0x08, .i32, .ro, 0, false, .any⟩, -- OFFSET_WEST
    ⟨0x09, 0x09, .i32, .ro, 0, false, .any⟩, -- OFFSET_EAST
    ⟨0x0A, 0x0A, .i32, .ro, 0, false, .any⟩, -- COMBINED_OFFSET
    ⟨0x0B, 0x0B, .time80, .ro, 0, false, .any⟩, -- LAST_SYNC
    ⟨0x0C, 0x0C, .u32, .ro, 0, false, .any⟩, -- SYNC_NUMBER
    ⟨0x0D, 0x0D, .i32, .ro, 0, false, .any⟩, -- RATE_CORRECTION
    ⟨0x0E, 0x0E, .i16, .ro, 0, false, .any⟩, -- UTC_OFFSET
    ⟨0x0F, 0x0F, .u8, .ro, 0, false, .any⟩, -- KEEPER_STATE
    ⟨0x10, 0x10, .bool, .ro, 0, false, .any⟩ -- ISLAND
    ]⟩,
  ⟨0x3001, 0x3001, [
    ⟨0x00, 0x00, .u8, .const, 6, false, .any⟩, -- HIGHEST_SUB
    ⟨0x01, 0x01, .u32, .rw, 10000, true, .span 1000 100000⟩, -- SLEW_LIMIT
    ⟨0x02, 0x02, .time32, .rw, 0xF4240, true, .span 1000 1000000000⟩, -- STEP_THRESHOLD
    ⟨0x03, 0x03, .u8, .rw, 3, true, .span 3 16⟩, -- HOLDOVER_AFTER
    ⟨0x04, 0x04, .u8, .rw, 16, true, .span 1 255⟩, -- REJOIN_RAMP
    ⟨0x05, 0x05, .time32, .rw, 5, true, .span 2 100⟩, -- FINE_ENTRY
    ⟨0x06, 0x06, .time32, .rw, 100, true, .span 20 10000⟩ -- COARSE_LIMIT
    ]⟩,
  ⟨0x3002, 0x3002, [
    ⟨0x00, 0x00, .u8, .const, 10, false, .any⟩, -- HIGHEST_SUB
    ⟨0x01, 0x01, .u32, .ro, 0, false, .any⟩, -- SYNC_VALID_WEST
    ⟨0x02, 0x02, .u32, .ro, 0, false, .any⟩, -- SYNC_VALID_EAST
    ⟨0x03, 0x03, .u32, .ro, 0, false, .any⟩, -- SYNC_NO_TSV
    ⟨0x04, 0x04, .u32, .ro, 0, false, .any⟩, -- SYNC_NOT_READY
    ⟨0x05, 0x05, .u32, .ro, 0, false, .any⟩, -- SYNC_REJECTED
    ⟨0x06, 0x06, .u32, .ro, 0, false, .any⟩, -- STEPS
    ⟨0x07, 0x07, .u32, .ro, 0, false, .any⟩, -- HOLDOVERS
    ⟨0x08, 0x08, .u32, .ro, 0, false, .any⟩, -- FREQ_SWITCHES
    ⟨0x09, 0x09, .u32, .ro, 0, false, .any⟩, -- MISMATCHES
    ⟨0x0A, 0x0A, .u8, .wo, 0, false, .span 1 1⟩ -- CLEAR
    ]⟩,
  ⟨0x3010, 0x3010, [
    ⟨0x00, 0x00, .u8, .const, 10, false, .any⟩, -- HIGHEST_SUB
    ⟨0x01, 0x01, .u8, .rw, 0, true, .span 0 2⟩, -- REFERENCE
    ⟨0x02, 0x02, .i16, .rw, 0, true, .any⟩, -- UTC_OFFSET
    ⟨0x03, 0x03, .bool, .rw, 0, true, .any⟩, -- EXT_STEP_ALLOW
    ⟨0x04, 0x04, .i64, .wo, 0, false, .any⟩, -- HOST_OFFSET
    ⟨0x05, 0x05, .time80, .wo, 0, false, .any⟩, -- SET_TIME
    ⟨0x06, 0x06, .u8, .ro, 0, false, .any⟩, -- EXT_STATE
    ⟨0x07, 0x07, .i32, .ro, 0, false, .any⟩, -- EXT_OFFSET
    ⟨0x08, 0x08, .i32, .ro, 0, false, .any⟩, -- LOOP_CLOSURE
    ⟨0x09, 0x09, .i32, .ro, 0, false, .any⟩, -- STEER_FREQ
    ⟨0x0A, 0x0A, .time32, .rw, 0xB2D05E00, true, .span 1100000000 4000000000⟩ -- EXT_LOSS_TIMEOUT
    ]⟩,
  ⟨0x3020, 0x3020, [
    ⟨0x00, 0x00, .u8, .const, 6, false, .any⟩, -- HIGHEST_SUB
    ⟨0x01, 0x01, .u8, .rw, 0, true, .span 0 1⟩, -- EDGE
    ⟨0x02, 0x02, .u64, .wo, 0, false, .mask 0xFFFFFFFFFFFF⟩, -- TOD_NEXT
    ⟨0x03, 0x03, .i32, .rw, 0, true, .signed 32 (-1000000) 1000000⟩, -- CABLE_DELAY
    ⟨0x04, 0x04, .time80, .ro, 0, false, .any⟩, -- LAST_EDGE
    ⟨0x05, 0x05, .u32, .ro, 0, false, .any⟩, -- EDGES
    ⟨0x06, 0x06, .u32, .ro, 0, false, .any⟩ -- PPS_IN_REJECTED
    ]⟩,
  ⟨0x3030, 0x3030, [
    ⟨0x00, 0x00, .u8, .const, 5, false, .any⟩, -- HIGHEST_SUB
    ⟨0x01, 0x01, .bool, .rw, 1, true, .any⟩, -- ENABLE
    ⟨0x02, 0x02, .time32, .rws, 0x3B9ACA00, true, .divisor 1000 1000000000⟩, -- PERIOD
    ⟨0x03, 0x03, .time32, .rws, 0, true, .any⟩, -- PHASE
    ⟨0x04, 0x04, .time32, .rws, 0x989680, true, .span 100 999999900⟩, -- WIDTH
    ⟨0x05, 0x05, .bool, .rws, 1, true, .any⟩ -- POLARITY
    ]⟩,
  ⟨0x3031, 0x3031, [
    ⟨0x00, 0x00, .u8, .const, 5, false, .any⟩, -- PPS_OUT_COMMIT HIGHEST_SUB
    ⟨0x01, 0x01, .u8, .wo, 0, false, .span 0 2⟩, -- COMMIT
    ⟨0x02, 0x02, .u8, .ro, 0, false, .any⟩, -- STATE
    ⟨0x03, 0x03, .u8, .ro, 0, false, .any⟩, -- LAST_RESULT
    ⟨0x04, 0x04, .u32, .ro, 0, false, .any⟩, -- APPLY_COUNT
    ⟨0x05, 0x05, .u32, .ro, 0, false, .any⟩ -- OWNER
    ]⟩,
  ⟨0x3040, 0x3040, [
    ⟨0x00, 0x00, .u8, .const, 4, false, .any⟩, -- HIGHEST_SUB
    ⟨0x01, 0x01, .u64, .rw, 0, true, .any⟩, -- RISE_MASK
    ⟨0x02, 0x02, .u64, .rw, 0, true, .any⟩, -- FALL_MASK
    ⟨0x03, 0x03, .u64, .ro, 0, false, .any⟩, -- CAPTURES
    ⟨0x04, 0x04, .u32, .ro, 0, false, .any⟩ -- CAP_OVERFLOWS
    ]⟩]

/-- Objects 0x3100 to 0x4000: the object tables of the chapters, row by row. -/
def objBlocks5 : List ObjBlock := [
  ⟨0x3100, 0x3100, [
    ⟨0x00, 0x00, .u8, .const, 12, false, .any⟩, -- HIGHEST_SUB
    ⟨0x01, 0x01, .u16, .ro, 0, false, .any⟩, -- ARMED
    ⟨0x02, 0x02, .u16, .ro, 0, false, .any⟩, -- SCHEDULED
    ⟨0x03, 0x03, .u64, .ro, 0, false, .any⟩, -- FIRES
    ⟨0x04, 0x04, .u32, .ro, 0, false, .any⟩, -- LATE
    ⟨0x05, 0x05, .u32, .ro, 0, false, .any⟩, -- MISSED
    ⟨0x06, 0x06, .u32, .ro, 0, false, .any⟩, -- SUPPRESSED
    ⟨0x07, 0x07, .u32, .ro, 0, false, .any⟩, -- HELD
    ⟨0x08, 0x08, .u32, .ro, 0, false, .any⟩, -- OVERLOAD
    ⟨0x09, 0x09, .u32, .ro, 0, false, .any⟩, -- EVENTS_OVERRUN
    ⟨0x0A, 0x0A, .u32, .ro, 0, false, .any⟩, -- DIO_IGNORED
    ⟨0x0B, 0x0B, .u32, .ro, 0, false, .any⟩, -- WRITES_REFUSED
    ⟨0x0C, 0x0C, .u8, .wo, 0, false, .span 1 1⟩ -- CLEAR
    ]⟩,
  ⟨0x3110, 0x3110, [
    ⟨0x00, 0x00, .u8, .const, 4, false, .any⟩, -- HIGHEST_SUB
    ⟨0x01, 0x01, .u8, .ro, 0, false, .any⟩, -- COUNT
    ⟨0x02, 0x02, .u8, .ro, 0, false, .any⟩, -- READ_INDEX
    ⟨0x03, 0x03, .u8, .wo, 0, false, .any⟩, -- POP
    ⟨0x04, 0x04, .u32, .ro, 0, false, .any⟩ -- REPORTS_LOST
    ]⟩,
  ⟨0x3120, 0x3120, [
    ⟨0x00, 0x00, .u8, .const, 4, false, .any⟩, -- HIGHEST_SUB
    ⟨0x01, 0x01, .u32, .rw, 0xF4240, true, .span 10000 100000000⟩, -- WAG_MAX_EST_ERROR
    ⟨0x02, 0x02, .bool, .rw, 1, true, .any⟩, -- WAG_RECORD_LATE
    ⟨0x03, 0x03, .time32, .const, 1000, false, .any⟩, -- WAG_FREEZE_LEAD
    ⟨0x04, 0x04, .time32, .rw, 0x186A0, true, .span 1000 1000000000⟩ -- WAG_LATE_LIMIT
    ]⟩,
  ⟨0x3130, 0x3130, [
    ⟨0x00, 0x00, .u8, .const, 64, false, .any⟩, -- HIGHEST_SUB
    ⟨0x01, 0x20, .u32, .ro, 0, false, .any⟩, -- ON_DELAY_DIO0–DIO31
    ⟨0x21, 0x40, .u32, .ro, 0, false, .any⟩ -- OFF_DELAY_DIO0–DIO31
    ]⟩,
  ⟨0x3200, 0x3203, [
    ⟨0x00, 0x00, .u8, .const, 9, false, .any⟩, -- HIGHEST_SUB
    ⟨0x01, 0x01, .bool, .rw, 0, true, .any⟩, -- ENABLE
    ⟨0x02, 0x02, .u8, .rw, 0, true, .span 0 63⟩, -- AXIS_ID
    ⟨0x03, 0x03, .u8, .rw, 0, true, .span 0 15⟩, -- HELPER
    ⟨0x04, 0x04, .u8, .rw, 1, true, .span 0 1⟩, -- VEL_MODE
    ⟨0x05, 0x05, .i64, .wo, 0, false, .any⟩, -- PRESET
    ⟨0x06, 0x06, .i64, .ro, 0, false, .any⟩, -- POSITION
    ⟨0x07, 0x07, .i64, .ro, 0, false, .any⟩, -- VELOCITY
    ⟨0x08, 0x08, .u32, .ro, 0, false, .any⟩, -- SAMPLES
    ⟨0x09, 0x09, .u32, .ro, 0, false, .any⟩ -- ENCODER_ERRORS
    ]⟩,
  ⟨0x3210, 0x321F, [
    ⟨0x00, 0x00, .u8, .const, 11, false, .any⟩, -- HIGHEST_SUB
    ⟨0x01, 0x01, .u8, .rw, 255, true, .spanOr 0 63 255⟩, -- AXIS_ID
    ⟨0x02, 0x02, .u16, .rw, 0, true, .span 1 8190⟩, -- SOURCE_NODE
    ⟨0x03, 0x03, .u8, .rw, 3, true, .span 2 255⟩, -- TIMEOUT
    ⟨0x04, 0x04, .u8, .ro, 0, false, .any⟩, -- STATE
    ⟨0x05, 0x05, .time80, .ro, 0, false, .any⟩, -- LAST_SAMPLE
    ⟨0x06, 0x06, .i64, .ro, 0, false, .any⟩, -- POSITION
    ⟨0x07, 0x07, .i64, .ro, 0, false, .any⟩, -- VELOCITY
    ⟨0x08, 0x08, .u32, .ro, 0, false, .any⟩, -- SAMPLES
    ⟨0x09, 0x09, .u32, .ro, 0, false, .any⟩, -- STALES
    ⟨0x0A, 0x0A, .u32, .ro, 0, false, .any⟩, -- CONFLICTS
    ⟨0x0B, 0x0B, .i64, .ro, 0, false, .any⟩ -- POSITION_NOW
    ]⟩,
  ⟨0x4000, 0x4007, [
    ⟨0x00, 0x00, .u8, .const, 8, false, .any⟩, -- HIGHEST_SUB
    ⟨0x01, 0x01, .bool, .rw, 0, true, .any⟩, -- ENABLE
    ⟨0x02, 0x02, .bool, .rw, 0, true, .any⟩, -- TERMINATION
    ⟨0x03, 0x03, .bool, .rw, 0, true, .any⟩, -- SDO_ENABLE
    ⟨0x04, 0x04, .u8, .rw, 0, true, .span 1 127⟩, -- SDO_NODE_ID
    ⟨0x05, 0x05, .u8, .rw, 0, true, .span 0 1⟩, -- TX_ORDER
    ⟨0x06, 0x06, .u16, .rw, 65535, true, .any⟩, -- RX_FLOW_ENTRY
    ⟨0x07, 0x07, .u8, .wo, 0, false, .span 1 1⟩, -- RESTART
    ⟨0x08, 0x08, .u8, .rw, 0, true, .span 0 3⟩ -- HP_IRQ
    ]⟩]

/-- Objects 0x4008 to 0x4100: the object tables of the chapters, row by row. -/
def objBlocks6 : List ObjBlock := [
  ⟨0x4008, 0x400F, [
    ⟨0x00, 0x00, .u8, .const, 13, false, .any⟩, -- HIGHEST_SUB
    ⟨0x01, 0x01, .u8, .rws, 0, true, .span 0 1⟩, -- MODE
    ⟨0x02, 0x02, .u8, .rws, 1, true, .span 0 1⟩, -- FD_MODE
    ⟨0x03, 0x03, .u16, .rws, 2, true, .span 1 256⟩, -- NOM_PRESCALER
    ⟨0x04, 0x04, .u16, .rws, 63, true, .span 2 256⟩, -- NOM_TSEG1
    ⟨0x05, 0x05, .u8, .rws, 16, true, .span 1 128⟩, -- NOM_TSEG2
    ⟨0x06, 0x06, .u8, .rws, 16, true, .span 1 128⟩, -- NOM_SJW
    ⟨0x07, 0x07, .u8, .rws, 2, true, .span 1 32⟩, -- DATA_PRESCALER
    ⟨0x08, 0x08, .u8, .rws, 14, true, .span 1 32⟩, -- DATA_TSEG1
    ⟨0x09, 0x09, .u8, .rws, 5, true, .span 1 16⟩, -- DATA_TSEG2
    ⟨0x0A, 0x0A, .u8, .rws, 5, true, .span 1 16⟩, -- DATA_SJW
    ⟨0x0B, 0x0B, .u8, .rws, 1, true, .span 0 1⟩, -- TDC_MODE
    ⟨0x0C, 0x0C, .u8, .rws, 15, true, .span 0 127⟩, -- TDC_OFFSET
    ⟨0x0D, 0x0D, .bool, .rws, 1, true, .any⟩ -- PEX
    ]⟩,
  ⟨0x4010, 0x4017, [
    ⟨0x00, 0x00, .u8, .const, 5, false, .any⟩, -- CAN_TIMING_COMMIT HIGHEST_SUB
    ⟨0x01, 0x01, .u8, .wo, 0, false, .span 0 2⟩, -- COMMIT
    ⟨0x02, 0x02, .u8, .ro, 0, false, .any⟩, -- STATE
    ⟨0x03, 0x03, .u8, .ro, 0, false, .any⟩, -- LAST_RESULT
    ⟨0x04, 0x04, .u32, .ro, 0, false, .any⟩, -- APPLY_COUNT
    ⟨0x05, 0x05, .u32, .ro, 0, false, .any⟩ -- OWNER
    ]⟩,
  ⟨0x4020, 0x4027, [
    ⟨0x00, 0x00, .u8, .const, 128, false, .any⟩, -- HIGHEST_SUB
    ⟨0x01, 0x80, .u64, .rw, 0, true, .any⟩ -- FILTER_0–FILTER_127
    ]⟩,
  ⟨0x4028, 0x402F, [
    ⟨0x00, 0x00, .u8, .const, 6, false, .any⟩, -- HIGHEST_SUB
    ⟨0x01, 0x01, .u64, .rws, 0, true, .any⟩, -- HP0_FILTER
    ⟨0x02, 0x02, .u16, .rws, 65535, true, .any⟩, -- HP0_FLOW_ENTRY
    ⟨0x03, 0x03, .u8, .rws, 1, true, .span 1 3⟩, -- HP0_CLASS
    ⟨0x04, 0x04, .u64, .rws, 0, true, .any⟩, -- HP1_FILTER
    ⟨0x05, 0x05, .u16, .rws, 65535, true, .any⟩, -- HP1_FLOW_ENTRY
    ⟨0x06, 0x06, .u8, .rws, 1, true, .span 1 3⟩ -- HP1_CLASS
    ]⟩,
  ⟨0x4030, 0x4037, [
    ⟨0x00, 0x00, .u8, .const, 19, false, .any⟩, -- HIGHEST_SUB
    ⟨0x01, 0x01, .u8, .ro, 0, false, .any⟩, -- PORT_STATE
    ⟨0x02, 0x02, .u8, .ro, 0, false, .any⟩, -- TEC
    ⟨0x03, 0x03, .u16, .ro, 0, false, .any⟩, -- REC
    ⟨0x04, 0x04, .u8, .ro, 0, false, .any⟩, -- LAST_ERROR
    ⟨0x05, 0x05, .u16, .ro, 0, false, .any⟩, -- TDC_MEASURED
    ⟨0x06, 0x06, .u32, .ro, 0, false, .any⟩, -- FRAMES_RX
    ⟨0x07, 0x07, .u32, .ro, 0, false, .any⟩, -- FRAMES_TX
    ⟨0x08, 0x08, .u32, .ro, 0, false, .any⟩, -- FRAMES_UNMATCHED
    ⟨0x09, 0x09, .u32, .ro, 0, false, .any⟩, -- RX_OVERRUNS
    ⟨0x0A, 0x0A, .u32, .ro, 0, false, .any⟩, -- BUS_ERRORS
    ⟨0x0B, 0x0B, .u32, .ro, 0, false, .any⟩, -- BUS_OFFS
    ⟨0x0C, 0x0C, .u32, .ro, 0, false, .any⟩, -- CANCELS_LATE
    ⟨0x0D, 0x0D, .u32, .ro, 0, false, .any⟩, -- TX_INVALID
    ⟨0x0E, 0x0E, .u32, .ro, 0, false, .any⟩, -- TX_REPLACED
    ⟨0x0F, 0x0F, .u32, .ro, 0, false, .any⟩, -- ROUTE_DISCARDS
    ⟨0x10, 0x10, .u32, .ro, 0, false, .any⟩, -- PROTOCOL_EXCEPTIONS
    ⟨0x11, 0x11, .u32, .ro, 0, false, .any⟩, -- TDC_FALLBACKS
    ⟨0x12, 0x12, .u32, .ro, 0, false, .any⟩, -- SDO_IGNORED
    ⟨0x13, 0x13, .u8, .wo, 0, false, .span 1 1⟩ -- CLEAR
    ]⟩,
  ⟨0x4038, 0x403F, [
    ⟨0x00, 0x00, .u8, .const, 5, false, .any⟩, -- CAN_HP_COMMIT HIGHEST_SUB
    ⟨0x01, 0x01, .u8, .wo, 0, false, .span 0 2⟩, -- COMMIT
    ⟨0x02, 0x02, .u8, .ro, 0, false, .any⟩, -- STATE
    ⟨0x03, 0x03, .u8, .ro, 0, false, .any⟩, -- LAST_RESULT
    ⟨0x04, 0x04, .u32, .ro, 0, false, .any⟩, -- APPLY_COUNT
    ⟨0x05, 0x05, .u32, .ro, 0, false, .any⟩ -- OWNER
    ]⟩,
  ⟨0x4100, 0x4107, [
    ⟨0x00, 0x00, .u8, .const, 7, false, .any⟩, -- HIGHEST_SUB
    ⟨0x01, 0x01, .bool, .rw, 0, true, .any⟩, -- ENABLE
    ⟨0x02, 0x02, .bool, .rw, 0, true, .any⟩, -- TERMINATION
    ⟨0x03, 0x03, .bool, .rw, 0, true, .any⟩, -- BIAS
    ⟨0x04, 0x04, .bool, .rw, 0, true, .any⟩, -- RECEIVE_ONLY
    ⟨0x05, 0x05, .u8, .rw, 1, true, .span 0 7⟩, -- RX_DEST
    ⟨0x06, 0x06, .u16, .rw, 65535, true, .any⟩, -- RX_FLOW_ENTRY
    ⟨0x07, 0x07, .u16, .rw, 65535, true, .any⟩ -- ADDR_MATCH
    ]⟩]

/-- Objects 0x4108 to 0x4218: the object tables of the chapters, row by row. -/
def objBlocks7 : List ObjBlock := [
  ⟨0x4108, 0x410F, [
    ⟨0x00, 0x00, .u8, .const, 9, false, .any⟩, -- HIGHEST_SUB
    ⟨0x01, 0x01, .u8, .rws, 0, true, .span 0 1⟩, -- DUPLEX
    ⟨0x02, 0x02, .u32, .rws, 0x1C200, true, .span 300 20000000⟩, -- BAUD
    ⟨0x03, 0x03, .u8, .rws, 8, true, .span 5 9⟩, -- DATA_BITS
    ⟨0x04, 0x04, .u8, .rws, 0, true, .span 0 4⟩, -- PARITY
    ⟨0x05, 0x05, .u8, .rws, 1, true, .span 1 2⟩, -- STOP_BITS
    ⟨0x06, 0x06, .bool, .rws, 0, true, .any⟩, -- ADDRESS_MODE
    ⟨0x07, 0x07, .u16, .rws, 56, true, .span 24 4080⟩, -- GAP
    ⟨0x08, 0x08, .u8, .rws, 1, true, .span 0 16⟩, -- TX_LEAD
    ⟨0x09, 0x09, .u8, .rws, 0, true, .span 0 16⟩ -- TX_TRAIL
    ]⟩,
  ⟨0x4110, 0x4117, [
    ⟨0x00, 0x00, .u8, .const, 5, false, .any⟩, -- SER_FRAMING_COMMIT HIGHEST_SUB
    ⟨0x01, 0x01, .u8, .wo, 0, false, .span 0 2⟩, -- COMMIT
    ⟨0x02, 0x02, .u8, .ro, 0, false, .any⟩, -- STATE
    ⟨0x03, 0x03, .u8, .ro, 0, false, .any⟩, -- LAST_RESULT
    ⟨0x04, 0x04, .u32, .ro, 0, false, .any⟩, -- APPLY_COUNT
    ⟨0x05, 0x05, .u32, .ro, 0, false, .any⟩ -- OWNER
    ]⟩,
  ⟨0x4118, 0x411F, [
    ⟨0x00, 0x00, .u8, .const, 14, false, .any⟩, -- HIGHEST_SUB
    ⟨0x01, 0x01, .u8, .ro, 0, false, .any⟩, -- LINE_STATE
    ⟨0x02, 0x02, .u32, .ro, 0, false, .any⟩, -- FRAMES_RX
    ⟨0x03, 0x03, .u32, .ro, 0, false, .any⟩, -- FRAMES_TX
    ⟨0x04, 0x04, .u32, .ro, 0, false, .any⟩, -- PARITY_ERRORS
    ⟨0x05, 0x05, .u32, .ro, 0, false, .any⟩, -- FRAMING_ERRORS
    ⟨0x06, 0x06, .u32, .ro, 0, false, .any⟩, -- BREAKS
    ⟨0x07, 0x07, .u32, .ro, 0, false, .any⟩, -- RX_OVERRUNS
    ⟨0x08, 0x08, .u32, .ro, 0, false, .any⟩, -- TRUNCATED
    ⟨0x09, 0x09, .u32, .ro, 0, false, .any⟩, -- COLLISIONS
    ⟨0x0A, 0x0A, .u32, .ro, 0, false, .any⟩, -- CANCELS_LATE
    ⟨0x0B, 0x0B, .u32, .ro, 0, false, .any⟩, -- TX_REPLACED
    ⟨0x0C, 0x0C, .u32, .ro, 0, false, .any⟩, -- ROUTE_DISCARDS
    ⟨0x0D, 0x0D, .u32, .ro, 0, false, .any⟩, -- ADDR_SKIPPED
    ⟨0x0E, 0x0E, .u8, .wo, 0, false, .span 1 1⟩ -- CLEAR
    ]⟩,
  ⟨0x4200, 0x4207, [
    ⟨0x00, 0x00, .u8, .const, 8, false, .any⟩, -- HIGHEST_SUB
    ⟨0x01, 0x01, .u8, .rws, 0, true, .span 0 3⟩, -- PORT_MODE
    ⟨0x02, 0x02, .time32, .rws, 0, true, .zeroOr 400000 132800000⟩, -- CYCLE_TIME
    ⟨0x03, 0x03, .u8, .rws, 0, true, .span 0 2⟩, -- VALIDATION
    ⟨0x04, 0x04, .u16, .rws, 0, true, .any⟩, -- VENDOR_ID
    ⟨0x05, 0x05, .u32, .rws, 0, true, .span 0 16777215⟩, -- DEVICE_ID
    ⟨0x06, 0x06, .str, .rws, 0, true, .any⟩, -- SERIAL
    ⟨0x07, 0x07, .u8, .rws, 0, true, .span 0 2⟩, -- BACKUP
    ⟨0x08, 0x08, .u8, .rws, 0, true, .span 0 2⟩ -- DQ_SAFE
    ]⟩,
  ⟨0x4208, 0x420F, [
    ⟨0x00, 0x00, .u8, .const, 5, false, .any⟩, -- SDCI_CONFIG_COMMIT HIGHEST_SUB
    ⟨0x01, 0x01, .u8, .wo, 0, false, .span 0 2⟩, -- COMMIT
    ⟨0x02, 0x02, .u8, .ro, 0, false, .any⟩, -- STATE
    ⟨0x03, 0x03, .u8, .ro, 0, false, .any⟩, -- LAST_RESULT
    ⟨0x04, 0x04, .u32, .ro, 0, false, .any⟩, -- APPLY_COUNT
    ⟨0x05, 0x05, .u32, .ro, 0, false, .any⟩ -- OWNER
    ]⟩,
  ⟨0x4210, 0x4217, [
    ⟨0x00, 0x00, .u8, .const, 5, false, .any⟩, -- HIGHEST_SUB
    ⟨0x01, 0x01, .bool, .rw, 1, true, .any⟩, -- L_PLUS
    ⟨0x02, 0x02, .u16, .rw, 65535, true, .any⟩, -- PD_FLOW_ENTRY
    ⟨0x03, 0x03, .u8, .rw, 0, true, .span 0 3⟩, -- PD_FLOW_MODE
    ⟨0x04, 0x04, .time32, .rw, 0x3B9ACA00, true, .span 100000000 4000000000⟩, -- L_RETRY
    ⟨0x05, 0x05, .u8, .wo, 0, false, .span 1 1⟩ -- DS_CLEAR
    ]⟩,
  ⟨0x4218, 0x421F, [
    ⟨0x00, 0x00, .u8, .const, 15, false, .any⟩, -- HIGHEST_SUB
    ⟨0x01, 0x01, .u8, .ro, 0, false, .any⟩, -- PORT_STATE
    ⟨0x02, 0x02, .u8, .ro, 0, false, .any⟩, -- COM
    ⟨0x03, 0x03, .time32, .ro, 0, false, .any⟩, -- ACTUAL_CYCLE
    ⟨0x04, 0x04, .u16, .ro, 0, false, .any⟩, -- CONN_VENDOR_ID
    ⟨0x05, 0x05, .u32, .ro, 0, false, .any⟩, -- CONN_DEVICE_ID
    ⟨0x06, 0x06, .u8, .ro, 0, false, .any⟩, -- PD_IN_LEN
    ⟨0x07, 0x07, .u8, .ro, 0, false, .any⟩, -- PD_OUT_LEN
    ⟨0x08, 0x08, .u8, .ro, 0, false, .any⟩, -- L_PLUS_STATE
    ⟨0x09, 0x09, .u16, .ro, 0, false, .any⟩, -- L_PLUS_MA
    ⟨0x0A, 0x0A, .u8, .ro, 0, false, .any⟩, -- DS_STATE
    ⟨0x0B, 0x0B, .u32, .ro, 0, false, .any⟩, -- COMM_LOSSES
    ⟨0x0C, 0x0C, .u32, .ro, 0, false, .any⟩, -- EVENTS
    ⟨0x0D, 0x0D, .u32, .ro, 0, false, .any⟩, -- EVENTS_LOST
    ⟨0x0E, 0x0E, .u32, .ro, 0, false, .any⟩, -- L_TRIPS
    ⟨0x0F, 0x0F, .u32, .ro, 0, false, .any⟩ -- ROUTE_DISCARDS
    ]⟩]

/-- Objects 0x4300 to 0x5040: the object tables of the chapters, row by row. -/
def objBlocks8 : List ObjBlock := [
  ⟨0x4300, 0x4303, [
    ⟨0x00, 0x00, .u8, .const, 15, false, .any⟩, -- HIGHEST_SUB
    ⟨0x01, 0x01, .u8, .rws, 0, true, .any⟩, -- DIRECTION
    ⟨0x02, 0x02, .u8, .rws, 0, true, .span 0 2⟩, -- INPUT_TYPE
    ⟨0x03, 0x03, .u8, .rws, 0, true, .any⟩, -- FAST_MASK
    ⟨0x04, 0x04, .u8, .rws, 0, true, .any⟩, -- SAFE_ON
    ⟨0x05, 0x05, .u8, .rws, 0, true, .any⟩, -- SAFE_HOLD
    ⟨0x06, 0x06, .u8, .rws, 0, true, .any⟩, -- PULSE_TEST
    ⟨0x07, 0x07, .u8, .rws, 0, true, .any⟩, -- OPEN_LOAD_DIAG
    ⟨0x08, 0x0F, .time32, .rws, 0x2DC6C0, true, .steps 0 10000000 100⟩ -- FILTER_0–FILTER_7
    ]⟩,
  ⟨0x4304, 0x4307, [
    ⟨0x00, 0x00, .u8, .const, 5, false, .any⟩, -- DIO_GROUP_COMMIT HIGHEST_SUB
    ⟨0x01, 0x01, .u8, .wo, 0, false, .span 0 2⟩, -- COMMIT
    ⟨0x02, 0x02, .u8, .ro, 0, false, .any⟩, -- STATE
    ⟨0x03, 0x03, .u8, .ro, 0, false, .any⟩, -- LAST_RESULT
    ⟨0x04, 0x04, .u32, .ro, 0, false, .any⟩, -- APPLY_COUNT
    ⟨0x05, 0x05, .u32, .ro, 0, false, .any⟩ -- OWNER
    ]⟩,
  ⟨0x4308, 0x4308, [
    ⟨0x00, 0x00, .u8, .const, 3, false, .any⟩, -- HIGHEST_SUB
    ⟨0x01, 0x01, .u32, .rw, 3600, true, .span 60 86400⟩, -- TEST_PERIOD
    ⟨0x02, 0x02, .time32, .rw, 0x30D40, true, .span 10000 1000000⟩, -- TEST_WIDTH
    ⟨0x03, 0x03, .time32, .rw, 0x3B9ACA00, true, .zeroOr 10000000 4000000000⟩ -- OUT_RETRY
    ]⟩,
  ⟨0x4310, 0x4310, [
    ⟨0x00, 0x00, .u8, .const, 13, false, .any⟩, -- HIGHEST_SUB
    ⟨0x01, 0x01, .u32, .ro, 0, false, .any⟩, -- IN_STATE
    ⟨0x02, 0x02, .u32, .ro, 0, false, .any⟩, -- OUT_LATCH
    ⟨0x03, 0x03, .u32, .ro, 0, false, .any⟩, -- DIAG_SUMMARY
    ⟨0x04, 0x07, .u16, .ro, 0, false, .any⟩, -- GROUP_MA_0–3
    ⟨0x08, 0x08, .u16, .ro, 0, false, .any⟩, -- TOTAL_MA
    ⟨0x09, 0x09, .bool, .ro, 0, false, .any⟩, -- REDUCED
    ⟨0x0A, 0x0A, .u32, .ro, 0, false, .any⟩, -- OUT_IGNORED
    ⟨0x0B, 0x0B, .u32, .ro, 0, false, .any⟩, -- BUDGET_CUTS
    ⟨0x0C, 0x0C, .u32, .ro, 0, false, .any⟩, -- PULSE_FAILS
    ⟨0x0D, 0x0D, .u8, .wo, 0, false, .span 1 1⟩ -- CLEAR
    ]⟩,
  ⟨0x4400, 0x4400, [
    ⟨0x00, 0x00, .u8, .const, 14, false, .any⟩, -- HIGHEST_SUB
    ⟨0x01, 0x04, .bool, .rw, 0, true, .any⟩, -- SUPPLY_ON_0–3
    ⟨0x05, 0x08, .u8, .ro, 0, false, .any⟩, -- STATE_0–3
    ⟨0x09, 0x0C, .u16, .ro, 0, false, .any⟩, -- CURRENT_MA_0–3
    ⟨0x0D, 0x0D, .u32, .ro, 0, false, .any⟩, -- TRIPS
    ⟨0x0E, 0x0E, .time32, .rw, 0x3B9ACA00, true, .zeroOr 100000000 4000000000⟩ -- RETRY
    ]⟩,
  ⟨0x5000, 0x501F, [
    ⟨0x00, 0x00, .u8, .const, 14, false, .any⟩, -- HIGHEST_SUB
    ⟨0x01, 0x01, .u8, .rws, 0, true, .span 0 1⟩, -- BANK
    ⟨0x02, 0x02, .u8, .rws, 0, true, .span 0 31⟩, -- ENTRY
    ⟨0x03, 0x03, .u8, .rws, 0, true, .span 0 31⟩, -- LOOP_START
    ⟨0x04, 0x04, .u8, .rws, 31, true, .span 0 31⟩, -- LOOP_END
    ⟨0x05, 0x05, .u32, .rws, 0x1900000, true, .span 65536 4294967295⟩, -- CLOCK_DIV
    ⟨0x06, 0x06, .u8, .rws, 0, true, .span 0 1⟩, -- BIT_ORDER
    ⟨0x07, 0x07, .u32, .rws, 0, true, .any⟩, -- OUT_MASK
    ⟨0x08, 0x08, .u32, .rws, 0, true, .any⟩, -- IN_MASK
    ⟨0x09, 0x09, .u32, .rws, 0, true, .any⟩, -- SET_MASK
    ⟨0x0A, 0x0A, .u8, .rws, 32, true, .span 1 32⟩, -- FRAME_BITS
    ⟨0x0B, 0x0B, .u16, .rws, 2080, true, .any⟩, -- HELPER_PINS
    ⟨0x0C, 0x0C, .u32, .rws, 0, true, .any⟩, -- IN_INVERT
    ⟨0x0D, 0x0D, .u8, .rws, 8, true, .steps 0 16 4⟩, -- TX_WORDS
    ⟨0x0E, 0x0E, .u32, .rws, 0, true, .any⟩ -- CR_INIT
    ]⟩,
  ⟨0x5020, 0x503F, [
    ⟨0x00, 0x00, .u8, .const, 5, false, .any⟩, -- WORKER_COMMIT HIGHEST_SUB
    ⟨0x01, 0x01, .u8, .wo, 0, false, .span 0 2⟩, -- COMMIT
    ⟨0x02, 0x02, .u8, .ro, 0, false, .any⟩, -- STATE
    ⟨0x03, 0x03, .u8, .ro, 0, false, .any⟩, -- LAST_RESULT
    ⟨0x04, 0x04, .u32, .ro, 0, false, .any⟩, -- APPLY_COUNT
    ⟨0x05, 0x05, .u32, .ro, 0, false, .any⟩ -- OWNER
    ]⟩,
  ⟨0x5040, 0x505F, [
    ⟨0x00, 0x00, .u8, .const, 4, false, .any⟩, -- HIGHEST_SUB
    ⟨0x01, 0x01, .bool, .rw, 0, true, .any⟩, -- RUN_AT_STARTUP
    ⟨0x02, 0x02, .u16, .rw, 65535, true, .any⟩, -- RX_FLOW_ENTRY
    ⟨0x03, 0x03, .u8, .rw, 1, true, .span 1 16⟩, -- FLOW_WORDS
    ⟨0x04, 0x04, .time32, .rw, 0, true, .zeroOr 1000 4000000000⟩ -- STALL_LIMIT
    ]⟩]

/-- Objects 0x5060 to 0x6001: the object tables of the chapters, row by row. -/
def objBlocks9 : List ObjBlock := [
  ⟨0x5060, 0x507F, [
    ⟨0x00, 0x00, .u8, .const, 11, false, .any⟩, -- HIGHEST_SUB
    ⟨0x01, 0x01, .u8, .ro, 0, false, .any⟩, -- STATE
    ⟨0x02, 0x02, .u8, .ro, 0, false, .any⟩, -- ACTIVE_BANK
    ⟨0x03, 0x03, .u8, .ro, 0, false, .any⟩, -- PC
    ⟨0x04, 0x04, .u8, .ro, 0, false, .any⟩, -- STALL_REASON
    ⟨0x05, 0x05, .u32, .ro, 0, false, .any⟩, -- FORCED_FLIPS
    ⟨0x06, 0x06, .u32, .ro, 0, false, .any⟩, -- BITS_DISCARDED
    ⟨0x07, 0x07, .u32, .ro, 0, false, .any⟩, -- RX_DROPS
    ⟨0x08, 0x08, .u32, .ro, 0, false, .any⟩, -- ROUTE_DISCARDS
    ⟨0x09, 0x09, .u32, .ro, 0, false, .any⟩, -- STALLS
    ⟨0x0A, 0x0A, .u32, .ro, 0, false, .any⟩, -- STARTS
    ⟨0x0B, 0x0B, .u8, .wo, 0, false, .span 1 1⟩ -- CLEAR
    ]⟩,
  ⟨0x5100, 0x5100, [
    ⟨0x00, 0x00, .u8, .const, 38, false, .any⟩, -- HIGHEST_SUB
    ⟨0x01, 0x04, .u8, .rws, 0, true, .span 0 3⟩, -- BANK_VOLTAGE_0–3
    ⟨0x05, 0x24, .u8, .rws, 255, true, .spanOr 0 31 255⟩, -- PIN_OWNER_0–31
    ⟨0x25, 0x25, .u32, .rws, 0, true, .any⟩, -- SAFE_DRIVE
    ⟨0x26, 0x26, .u32, .rws, 0, true, .any⟩ -- SAFE_HIGH
    ]⟩,
  ⟨0x5101, 0x5101, [
    ⟨0x00, 0x00, .u8, .const, 5, false, .any⟩, -- PINS_COMMIT HIGHEST_SUB
    ⟨0x01, 0x01, .u8, .wo, 0, false, .span 0 2⟩, -- COMMIT
    ⟨0x02, 0x02, .u8, .ro, 0, false, .any⟩, -- STATE
    ⟨0x03, 0x03, .u8, .ro, 0, false, .any⟩, -- LAST_RESULT
    ⟨0x04, 0x04, .u32, .ro, 0, false, .any⟩, -- APPLY_COUNT
    ⟨0x05, 0x05, .u32, .ro, 0, false, .any⟩ -- OWNER
    ]⟩,
  ⟨0x5110, 0x5113, [
    ⟨0x00, 0x00, .u8, .const, 4, false, .any⟩, -- HIGHEST_SUB
    ⟨0x01, 0x01, .u8, .rws, 0, true, .span 0 2⟩, -- TICK_MODE
    ⟨0x02, 0x02, .time32, .rws, 0xF4240, true, .divisor 1000 1000000000⟩, -- TICK_PERIOD
    ⟨0x03, 0x03, .time32, .rws, 0, true, .any⟩, -- TICK_PHASE
    ⟨0x04, 0x04, .u32, .ro, 0, false, .any⟩ -- TICKS
    ]⟩,
  ⟨0x5114, 0x5117, [
    ⟨0x00, 0x00, .u8, .const, 5, false, .any⟩, -- CLUSTER_TICK_COMMIT HIGHEST_SUB
    ⟨0x01, 0x01, .u8, .wo, 0, false, .span 0 2⟩, -- COMMIT
    ⟨0x02, 0x02, .u8, .ro, 0, false, .any⟩, -- STATE
    ⟨0x03, 0x03, .u8, .ro, 0, false, .any⟩, -- LAST_RESULT
    ⟨0x04, 0x04, .u32, .ro, 0, false, .any⟩, -- APPLY_COUNT
    ⟨0x05, 0x05, .u32, .ro, 0, false, .any⟩ -- OWNER
    ]⟩,
  ⟨0x5120, 0x512F, [
    ⟨0x00, 0x00, .u8, .const, 10, false, .any⟩, -- HIGHEST_SUB
    ⟨0x01, 0x01, .bool, .rw, 0, true, .any⟩, -- ENABLE
    ⟨0x02, 0x02, .u8, .rw, 2, true, .span 0 2⟩, -- MODE
    ⟨0x03, 0x03, .bool, .rw, 0, true, .any⟩, -- REVERSE
    ⟨0x04, 0x04, .time32, .rw, 1000, true, .steps 0 10000 10⟩, -- FILTER
    ⟨0x05, 0x05, .bool, .rw, 0, true, .any⟩, -- Z_LATCH
    ⟨0x06, 0x06, .i32, .ro, 0, false, .any⟩, -- COUNT
    ⟨0x07, 0x07, .time80, .ro, 0, false, .any⟩, -- LAST_EDGE
    ⟨0x08, 0x08, .i32, .ro, 0, false, .any⟩, -- Z_COUNT
    ⟨0x09, 0x09, .time80, .ro, 0, false, .any⟩, -- Z_TIME
    ⟨0x0A, 0x0A, .u32, .ro, 0, false, .any⟩ -- ERRORS
    ]⟩,
  ⟨0x6000, 0x6000, [
    ⟨0x00, 0x00, .u8, .const, 15, false, .any⟩, -- HIGHEST_SUB
    ⟨0x01, 0x01, .bool, .ro, 0, false, .any⟩, -- SAFE_STATE
    ⟨0x02, 0x02, .u8, .ro, 0, false, .any⟩, -- SAFE_CAUSE
    ⟨0x03, 0x03, .u32, .wo, 0, false, .any⟩, -- SAFE_EXIT
    ⟨0x04, 0x04, .bool, .ro, 0, false, .any⟩, -- FAULT_N_ASSERTED
    ⟨0x05, 0x05, .u8, .wo, 0, false, .span 1 1⟩, -- FAULT_CLEAR
    ⟨0x06, 0x06, .u16, .ro, 0, false, .any⟩, -- LAST_FATAL
    ⟨0x07, 0x07, .bool, .ro, 0, false, .any⟩, -- SELF_FAULT
    ⟨0x08, 0x08, .u64, .ro, 0, false, .any⟩, -- MESSAGES
    ⟨0x09, 0x09, .u32, .ro, 0, false, .any⟩, -- OVERRUNS
    ⟨0x0A, 0x0A, .u32, .ro, 0, false, .any⟩, -- CONSEQUENTIAL
    ⟨0x0B, 0x0B, .u32, .ro, 0, false, .any⟩, -- ESCALATIONS
    ⟨0x0C, 0x0C, .u32, .ro, 0, false, .any⟩, -- MGMT_EVENTS_LOST
    ⟨0x0D, 0x0D, .u16, .rw, 65535, true, .any⟩, -- NOTIFY_ENTRY
    ⟨0x0E, 0x0E, .u8, .rw, 1, true, .span 0 2⟩, -- NOTIFY_MIN_CLASS
    ⟨0x0F, 0x0F, .u32, .ro, 0, false, .any⟩ -- NOTIFY_DROPS
    ]⟩,
  ⟨0x6001, 0x6001, [
    ⟨0x00, 0x00, .u8, .const, 3, false, .any⟩, -- HIGHEST_SUB
    ⟨0x01, 0x01, .u64, .ro, 0, false, .any⟩, -- ISOLATED
    ⟨0x02, 0x02, .u8, .wo, 0, false, .any⟩, -- RELEASE
    ⟨0x03, 0x03, .u32, .ro, 0, false, .any⟩ -- RESETS
    ]⟩]

/-- Objects 0x6010 to 0x6220: the object tables of the chapters, row by row. -/
def objBlocks10 : List ObjBlock := [
  ⟨0x6010, 0x6010, [
    ⟨0x00, 0x00, .u8, .const, 11, false, .any⟩, -- HIGHEST_SUB
    ⟨0x01, 0x01, .u32, .ro, 0, false, .any⟩, -- HEAD_SEQ
    ⟨0x02, 0x02, .u32, .ro, 0, false, .any⟩, -- OLDEST_SEQ
    ⟨0x03, 0x03, .u16, .ro, 0, false, .any⟩, -- CRYSTAL_COUNT
    ⟨0x04, 0x04, .u8, .ro, 0, false, .any⟩, -- STATUS
    ⟨0x05, 0x05, .u32, .ro, 0, false, .any⟩, -- EPOCH
    ⟨0x06, 0x06, .u32, .wo, 0, false, .any⟩, -- CRYSTAL_CLEAR
    ⟨0x07, 0x07, .u64, .ro, 0, false, .any⟩, -- RECORDS
    ⟨0x08, 0x08, .u64, .ro, 0, false, .any⟩, -- SUPPRESSED
    ⟨0x09, 0x09, .u8, .rw, 10, true, .span 1 255⟩, -- DEFAULT_RATE
    ⟨0x0A, 0x0A, .u8, .rw, 4, true, .span 1 255⟩, -- DEFAULT_BURST
    ⟨0x0B, 0x0B, .u32, .ro, 0, false, .any⟩ -- LAST_POWER_GAP
    ]⟩,
  ⟨0x6011, 0x6011, [
    ⟨0x00, 0x00, .u8, .const, 64, false, .any⟩, -- HIGHEST_SUB
    ⟨0x01, 0x40, .u32, .rw, 0, true, .any⟩ -- OVERRIDE_0–OVERRIDE_63
    ]⟩,
  ⟨0x6100, 0x6100, [
    ⟨0x00, 0x00, .u8, .const, 128, false, .any⟩, -- HIGHEST_SUB
    ⟨0x01, 0x04, .u64, .rw, 0x8700070001, true, .any⟩, -- REACTION
    ⟨0x05, 0x05, .u64, .rw, 0x18700070001, true, .any⟩, -- REACTION
    ⟨0x06, 0x0D, .u64, .rw, 0x8700070001, true, .any⟩, -- REACTION
    ⟨0x11, 0x11, .u64, .rw, 0xC700070001, true, .any⟩, -- REACTION
    ⟨0x15, 0x16, .u64, .rw, 0x8700070001, true, .any⟩, -- REACTION
    ⟨0x19, 0x1F, .u64, .rw, 0x8700070001, true, .any⟩, -- REACTION
    ⟨0x21, 0x21, .u64, .rw, 0x8700070001, true, .any⟩, -- REACTION
    ⟨0x41, 0x5B, .u64, .rw, 0x8700070001, true, .any⟩, -- REACTION
    ⟨0x61, 0x80, .u64, .rw, 0x8700070001, true, .any⟩ -- REACTION
    ]⟩,
  ⟨0x6101, 0x6101, [
    ⟨0x00, 0x00, .u8, .const, 128, false, .any⟩, -- HIGHEST_SUB
    ⟨0x01, 0x28, .u64, .rw, 0x8700070001, true, .any⟩ -- REACTION
    ]⟩,
  ⟨0x6102, 0x6102, [
    ⟨0x00, 0x00, .u8, .const, 128, false, .any⟩ -- HIGHEST_SUB
    ]⟩,
  ⟨0x6103, 0x6103, [
    ⟨0x00, 0x00, .u8, .const, 128, false, .any⟩ -- HIGHEST_SUB
    ]⟩,
  ⟨0x6104, 0x6104, [
    ⟨0x00, 0x00, .u8, .const, 128, false, .any⟩ -- HIGHEST_SUB
    ]⟩,
  ⟨0x6105, 0x6105, [
    ⟨0x00, 0x00, .u8, .const, 128, false, .any⟩ -- HIGHEST_SUB
    ]⟩,
  ⟨0x6106, 0x6106, [
    ⟨0x00, 0x00, .u8, .const, 128, false, .any⟩ -- HIGHEST_SUB
    ]⟩,
  ⟨0x6107, 0x6107, [
    ⟨0x00, 0x00, .u8, .const, 128, false, .any⟩ -- HIGHEST_SUB
    ]⟩,
  ⟨0x6200, 0x6200, [
    ⟨0x00, 0x00, .u8, .const, 11, false, .any⟩, -- HIGHEST_SUB
    ⟨0x01, 0x01, .u32, .ro, 0, false, .any⟩, -- PLANS
    ⟨0x02, 0x02, .time80, .ro, 0, false, .any⟩, -- LAST_PLAN
    ⟨0x03, 0x03, .u16, .ro, 900, false, .any⟩, -- VCORE
    ⟨0x04, 0x04, .i16, .ro, 0, false, .any⟩, -- WORST_SLACK
    ⟨0x05, 0x05, .u8, .ro, 0, false, .any⟩, -- WORST_MONITOR
    ⟨0x06, 0x06, .u32, .ro, 0, false, .any⟩, -- SLACK_EVENTS
    ⟨0x07, 0x07, .u16, .ro, 65535, false, .any⟩, -- LIFE
    ⟨0x08, 0x08, .u16, .ro, 0, false, .any⟩, -- LIFE_LIMITER
    ⟨0x09, 0x09, .u16, .ro, 65535, false, .any⟩, -- CORE_DAYS
    ⟨0x0A, 0x0A, .u16, .ro, 65535, false, .any⟩, -- CAP_DAYS
    ⟨0x0B, 0x0B, .u8, .wo, 0, false, .span 1 1⟩ -- PLAN_NOW
    ]⟩,
  ⟨0x6201, 0x6201, [
    ⟨0x00, 0x00, .u8, .const, 11, false, .any⟩, -- HIGHEST_SUB
    ⟨0x01, 0x01, .u16, .rw, 250, true, .span 150 800⟩, -- SLACK_TARGET
    ⟨0x02, 0x02, .u16, .rw, 100, true, .span 50 65535⟩, -- SLACK_MIN
    ⟨0x03, 0x03, .u8, .rw, 125, true, .span 90 135⟩, -- THERMAL_HIGH
    ⟨0x04, 0x04, .u16, .rw, 2000, true, .span 200 10000⟩, -- RIPPLE_LIMIT
    ⟨0x05, 0x05, .u16, .rw, 200, true, .span 10 2000⟩, -- LIFE_WARN
    ⟨0x06, 0x06, .u8, .rw, 30, true, .span 7 255⟩, -- PROJECTION_DAYS
    ⟨0x07, 0x07, .u16, .rw, 40, true, .span 5 200⟩, -- DEGRADE_V
    ⟨0x08, 0x08, .u16, .rw, 100, true, .span 20 500⟩, -- DEGRADE_H
    ⟨0x09, 0x09, .u16, .rw, 500, true, .span 50 10000⟩, -- DELAY_DRIFT_LIMIT
    ⟨0x0A, 0x0A, .u16, .rw, 400, true, .span 150 1000⟩, -- RON_LIMIT
    ⟨0x0B, 0x0B, .time32, .rw, 0x989680, true, .span 2000000 20000000⟩ -- HOLDUP_WARN
    ]⟩,
  ⟨0x6210, 0x6210, [
    ⟨0x00, 0x00, .u8, .const, 12, false, .any⟩, -- HIGHEST_SUB
    ⟨0x01, 0x06, .i16, .ro, 0, false, .any⟩, -- TEMP_0–TEMP_5
    ⟨0x07, 0x0C, .i16, .ro, 0, false, .any⟩ -- TEMP_MAX_0–TEMP_MAX_5
    ]⟩,
  ⟨0x6211, 0x6211, [
    ⟨0x00, 0x00, .u8, .const, 6, false, .any⟩, -- HIGHEST_SUB
    ⟨0x01, 0x01, .u16, .ro, 0, false, .any⟩, -- VIN
    ⟨0x02, 0x02, .u16, .ro, 0, false, .any⟩, -- RIPPLE
    ⟨0x03, 0x03, .u16, .ro, 0, false, .any⟩, -- CAPACITANCE
    ⟨0x04, 0x04, .u16, .ro, 0, false, .any⟩, -- ESR
    ⟨0x05, 0x05, .time32, .ro, 0, false, .any⟩, -- HOLDUP_24V
    ⟨0x06, 0x06, .u32, .ro, 0, false, .any⟩ -- HOLDUPS
    ]⟩,
  ⟨0x6220, 0x6220, [
    ⟨0x00, 0x00, .u8, .const, 48, false, .any⟩, -- HIGHEST_SUB
    ⟨0x01, 0x30, .i16, .ro, 0, false, .any⟩ -- SLACK_0–SLACK_47
    ]⟩]

/-- Objects 0x6230 to 0x7015: the object tables of the chapters, row by row. -/
def objBlocks11 : List ObjBlock := [
  ⟨0x6230, 0x6231, [
    ⟨0x00, 0x00, .u8, .const, 12, false, .any⟩, -- HIGHEST_SUB
    ⟨0x01, 0x01, .u8, .ro, 0, false, .any⟩, -- HOP_STATE
    ⟨0x02, 0x02, .u16, .ro, 0, true, .any⟩, -- BASE_MARGIN_V
    ⟨0x03, 0x03, .u16, .ro, 0, true, .any⟩, -- BASE_MARGIN_H
    ⟨0x04, 0x04, .u32, .ro, 0, true, .any⟩, -- BASE_DELAY
    ⟨0x05, 0x05, .time80, .ro, 0, true, .any⟩, -- BASE_TIME
    ⟨0x06, 0x06, .u16, .ro, 0, false, .any⟩, -- DAY_MARGIN_V
    ⟨0x07, 0x07, .u16, .ro, 0, false, .any⟩, -- DAY_MARGIN_H
    ⟨0x08, 0x08, .i32, .ro, 0, false, .any⟩, -- DELAY_DRIFT
    ⟨0x09, 0x09, .u32, .ro, 0, false, .any⟩, -- DAY_CRC_ERRORS
    ⟨0x0A, 0x0A, .i32, .ro, 0, false, .any⟩, -- SLOPE_V
    ⟨0x0B, 0x0B, .u16, .ro, 65535, false, .any⟩, -- DAYS_TO_FLOOR
    ⟨0x0C, 0x0C, .u8, .wo, 0, false, .span 1 1⟩ -- BASELINE_RESET
    ]⟩,
  ⟨0x6232, 0x6232, [
    ⟨0x00, 0x00, .u8, .const, 9, false, .any⟩, -- HIGHEST_SUB
    ⟨0x01, 0x03, .u16, .ro, 0, false, .any⟩, -- BL_MARGIN_V_0–2
    ⟨0x04, 0x06, .u16, .ro, 0, false, .any⟩, -- BL_MARGIN_H_0–2
    ⟨0x07, 0x09, .u16, .ro, 65535, false, .any⟩ -- BL_DAYS_0–2
    ]⟩,
  ⟨0x6240, 0x6240, [
    ⟨0x00, 0x00, .u8, .const, 64, false, .any⟩, -- HIGHEST_SUB
    ⟨0x01, 0x20, .u16, .ro, 0, false, .any⟩, -- RON_DIO0–RON_DIO31
    ⟨0x21, 0x40, .u16, .ro, 65535, false, .any⟩ -- DAYS_DIO0–DAYS_DIO31
    ]⟩,
  ⟨0x7000, 0x7000, [
    ⟨0x00, 0x00, .u8, .const, 10, false, .any⟩, -- HIGHEST_SUB
    ⟨0x01, 0x01, .u32, .rw, 0, true, .span 0 1000000⟩, -- LATENCY_TOLERANCE
    ⟨0x02, 0x02, .time32, .rw, 0x5F5E100, true, .span 1000000 4000000000⟩, -- ENTRY_DELAY
    ⟨0x03, 0x03, .u8, .ro, 0, false, .any⟩, -- STATE
    ⟨0x04, 0x04, .u32, .ro, 0, false, .any⟩, -- BLOCKERS
    ⟨0x05, 0x05, .u32, .ro, 0, false, .any⟩, -- STATE_CHANGES
    ⟨0x06, 0x06, .u32, .wo, 0, false, .any⟩, -- MGMT_RESTART
    ⟨0x07, 0x07, .u32, .ro, 0, false, .any⟩, -- S3_DISCARDS
    ⟨0x08, 0x08, .u32, .ro, 0, false, .any⟩, -- TIME_S1
    ⟨0x09, 0x09, .u32, .ro, 0, false, .any⟩, -- TIME_S2
    ⟨0x0A, 0x0A, .u32, .ro, 0, false, .any⟩ -- TIME_S3
    ]⟩,
  ⟨0x7001, 0x7001, [
    ⟨0x00, 0x00, .u8, .const, 10, false, .any⟩, -- HIGHEST_SUB
    ⟨0x01, 0x0A, .u8, .ro, 1, false, .any⟩ -- PD0–PD9
    ]⟩,
  ⟨0x7010, 0x7010, [
    ⟨0x00, 0x00, .u8, .const, 10, false, .any⟩, -- HIGHEST_SUB
    ⟨0x01, 0x01, .dom, .wo, 0, false, .any⟩, -- IMAGE
    ⟨0x02, 0x02, .u8, .ro, 0, false, .any⟩, -- STATE
    ⟨0x03, 0x03, .u8, .ro, 0, false, .any⟩, -- REFUSE_CAUSE
    ⟨0x04, 0x04, .u8, .wo, 0, false, .any⟩, -- ACTIVATE
    ⟨0x05, 0x05, .time80, .rw, 0, false, .any⟩, -- ACTIVATE_AT
    ⟨0x06, 0x06, .u8, .wo, 0, false, .span 1 1⟩, -- CONFIRM
    ⟨0x07, 0x07, .u32, .rw, 600, true, .span 60 86400⟩, -- CONFIRM_AFTER
    ⟨0x08, 0x08, .time32, .rw, 0x1312D00, true, .span 5000000 1000000000⟩, -- PHY_STAGGER
    ⟨0x09, 0x09, .u8, .wo, 0, false, .any⟩, -- LOAD_CHANNELS
    ⟨0x0A, 0x0A, .u8, .rw, 1, false, .span 1 3⟩ -- LOAD_TYPE
    ]⟩,
  ⟨0x7011, 0x7012, [
    ⟨0x00, 0x00, .u8, .const, 7, false, .any⟩, -- HIGHEST_SUB
    ⟨0x01, 0x01, .u8, .ro, 0, false, .any⟩, -- STATE
    ⟨0x02, 0x02, .u8, .ro, 0, false, .any⟩, -- TYPE
    ⟨0x03, 0x03, .u32, .ro, 0, false, .any⟩, -- VERSION
    ⟨0x04, 0x04, .u32, .ro, 0, false, .any⟩, -- LENGTH
    ⟨0x05, 0x05, .u16, .ro, 0, false, .any⟩, -- BLOCKS_OK
    ⟨0x06, 0x06, .u8, .ro, 0, false, .any⟩, -- KEY_ID
    ⟨0x07, 0x07, .dom, .ro, 0, false, .any⟩ -- MISSING
    ]⟩,
  ⟨0x7013, 0x7013, [
    ⟨0x00, 0x00, .u8, .const, 20, false, .any⟩, -- HIGHEST_SUB
    ⟨0x01, 0x08, .u32, .ro, 0, false, .any⟩, -- SDCI_STACK_0–7
    ⟨0x09, 0x10, .u32, .ro, 0, false, .any⟩, -- SER_MICROCODE_0–7
    ⟨0x11, 0x14, .u32, .ro, 0, false, .any⟩ -- WORKER_LIB_0–3
    ]⟩,
  ⟨0x7014, 0x7014, [
    ⟨0x00, 0x00, .u8, .const, 6, false, .any⟩, -- HIGHEST_SUB
    ⟨0x01, 0x01, .u16, .rw, 65535, true, .any⟩, -- DIST_ENTRY
    ⟨0x02, 0x02, .u16, .rw, 65535, true, .any⟩, -- REPAIR_ENTRY
    ⟨0x03, 0x03, .u32, .ro, 0, false, .any⟩, -- DIST_ID
    ⟨0x04, 0x04, .u32, .ro, 0, false, .any⟩, -- FRAMES_RX
    ⟨0x05, 0x05, .u32, .ro, 0, false, .any⟩, -- DIST_IGNORED
    ⟨0x06, 0x06, .u32, .ro, 0, false, .any⟩ -- DIST_OVERRUN
    ]⟩,
  ⟨0x7015, 0x7015, [
    ⟨0x00, 0x00, .u8, .const, 2, false, .any⟩, -- HIGHEST_SUB
    ⟨0x01, 0x01, .u16, .ro, 0, false, .any⟩, -- COUNT
    ⟨0x02, 0x02, .dom, .ro, 0, false, .any⟩ -- LIST
    ]⟩]

/-- Objects 0x7020 to 0x8200: the object tables of the chapters, row by row. -/
def objBlocks12 : List ObjBlock := [
  ⟨0x7020, 0x7020, [
    ⟨0x00, 0x00, .u8, .const, 4, false, .any⟩, -- HIGHEST_SUB
    ⟨0x01, 0x01, .bool, .ro, 0, false, .any⟩, -- CONNECTED
    ⟨0x02, 0x02, .bool, .rw, 1, true, .any⟩, -- EVENT_STREAM
    ⟨0x03, 0x03, .u32, .ro, 0, false, .any⟩, -- MESSAGES
    ⟨0x04, 0x04, .bool, .ro, 0, false, .any⟩ -- VBUS
    ]⟩,
  ⟨0x7100, 0x7117, [
    ⟨0x00, 0x00, .u8, .const, 130, false, .any⟩, -- HIGHEST_SUB
    ⟨0x01, 0x40, .u64, .rws, 0, true, .any⟩, -- MATCH_0–MATCH_63
    ⟨0x41, 0x80, .u64, .rws, 0, true, .any⟩, -- RANGE_0–RANGE_63
    ⟨0x81, 0x81, .u8, .rws, 15, true, .any⟩, -- DEFAULT_RIGHTS
    ⟨0x82, 0x82, .u32, .ro, 0, false, .any⟩ -- REFUSALS
    ]⟩,
  ⟨0x7118, 0x7118, [
    ⟨0x00, 0x00, .u8, .const, 5, false, .any⟩, -- ACCESS_COMMIT HIGHEST_SUB
    ⟨0x01, 0x01, .u8, .wo, 0, false, .span 0 2⟩, -- COMMIT
    ⟨0x02, 0x02, .u8, .ro, 0, false, .any⟩, -- STATE
    ⟨0x03, 0x03, .u8, .ro, 0, false, .any⟩, -- LAST_RESULT
    ⟨0x04, 0x04, .u32, .ro, 0, false, .any⟩, -- APPLY_COUNT
    ⟨0x05, 0x05, .u32, .ro, 0, false, .any⟩ -- OWNER
    ]⟩,
  ⟨0x8100, 0x8100, [
    ⟨0x00, 0x00, .u8, .const, 5, false, .any⟩, -- HIGHEST_SUB
    ⟨0x01, 0x01, .u8, .rw, 0, true, .span 0 3⟩, -- MODE
    ⟨0x02, 0x02, .u8, .ro, 0, false, .any⟩, -- SLOT_PADS
    ⟨0x03, 0x03, .u8, .ro, 0, false, .any⟩, -- MEMBERS
    ⟨0x04, 0x04, .u8, .ro, 0, false, .any⟩, -- STATE
    ⟨0x05, 0x05, .u8, .ro, 0, false, .any⟩ -- REFUSE_REASON
    ]⟩,
  ⟨0x8110, 0x8110, [
    ⟨0x00, 0x00, .u8, .const, 16, false, .any⟩, -- HIGHEST_SUB
    ⟨0x01, 0x01, .u8, .ro, 0, false, .any⟩, -- ROLE
    ⟨0x02, 0x02, .u8, .ro, 0, false, .any⟩, -- PAIR_STATE
    ⟨0x03, 0x03, .u64, .ro, 0, false, .any⟩, -- PARTNER_SERIAL
    ⟨0x04, 0x04, .u8, .wo, 0, false, .span 1 1⟩, -- SWAP
    ⟨0x05, 0x05, .u32, .rw, 0, true, .zeroOr 3600 2592000⟩, -- AUTO_SWAP_INTERVAL
    ⟨0x06, 0x06, .time32, .rw, 0x5F5E100, true, .span 10000000 1000000000⟩, -- SWAP_VERIFY
    ⟨0x07, 0x07, .time32, .rw, 0xF4240, true, .span 500000 10000000⟩, -- PROBE_TIMEOUT
    ⟨0x08, 0x08, .time32, .rw, 50000, true, .span 10000 100000⟩, -- TEST_OFF_WIDTH
    ⟨0x09, 0x09, .u32, .rw, 3600, true, .span 600 86400⟩, -- TEST_OFF_INTERVAL
    ⟨0x0A, 0x0A, .u32, .ro, 0, false, .any⟩, -- TAKEOVERS
    ⟨0x0B, 0x0B, .u8, .ro, 0, false, .any⟩, -- LAST_TAKEOVER_CAUSE
    ⟨0x0C, 0x0C, .time80, .ro, 0, false, .any⟩, -- LAST_TAKEOVER_TIME
    ⟨0x0D, 0x0D, .u32, .ro, 0, false, .any⟩, -- DIVERGENCES
    ⟨0x0E, 0x0E, .u32, .ro, 0, false, .any⟩, -- HEARTBEATS_MISSED
    ⟨0x0F, 0x0F, .u64, .ro, 0, false, .any⟩, -- MIRROR_WRITES
    ⟨0x10, 0x10, .u8, .wo, 0, false, .span 1 1⟩ -- REJOIN
    ]⟩,
  ⟨0x8120, 0x8120, [
    ⟨0x00, 0x00, .u8, .const, 9, false, .any⟩, -- HIGHEST_SUB
    ⟨0x01, 0x01, .u32, .ro, 0, false, .any⟩, -- OUTPUT_COMPARE
    ⟨0x02, 0x02, .u32, .ro, 0, false, .any⟩, -- CURRENT_SHARE
    ⟨0x03, 0x03, .u32, .ro, 0, false, .any⟩, -- TEST_OFF
    ⟨0x04, 0x04, .u32, .ro, 0, false, .any⟩, -- CAN_TX
    ⟨0x05, 0x05, .u32, .ro, 0, false, .any⟩, -- RS485_TX
    ⟨0x06, 0x06, .u32, .ro, 0, false, .any⟩, -- SDCI_CQ
    ⟨0x07, 0x07, .u32, .ro, 0, false, .any⟩, -- MIRROR
    ⟨0x08, 0x08, .u32, .ro, 0, false, .any⟩, -- HEARTBEAT
    ⟨0x09, 0x09, .bool, .ro, 0, false, .any⟩ -- READY
    ]⟩,
  ⟨0x8121, 0x8121, [
    ⟨0x00, 0x00, .u8, .const, 4, false, .any⟩, -- HIGHEST_SUB
    ⟨0x01, 0x01, .u32, .ro, 0, false, .any⟩, -- DIO_FAILED
    ⟨0x02, 0x02, .u8, .ro, 0, false, .any⟩, -- CAN_FAILED
    ⟨0x03, 0x03, .u8, .ro, 0, false, .any⟩, -- SER_FAILED
    ⟨0x04, 0x04, .u8, .ro, 0, false, .any⟩ -- SDCI_FAILED
    ]⟩,
  ⟨0x8200, 0x821F, [
    ⟨0x00, 0x00, .u8, .const, 13, false, .any⟩, -- HIGHEST_SUB
    ⟨0x01, 0x01, .u8, .rws, 0, true, .span 0 3⟩, -- KIND
    ⟨0x02, 0x02, .u8, .rws, 0, true, .span 0 7⟩, -- PORT
    ⟨0x03, 0x03, .u16, .rws, 65535, true, .spanOr 0 16383 65535⟩, -- INGRESS_ENTRY
    ⟨0x04, 0x04, .u8, .rws, 0, true, .span 0 2⟩, -- REPLAY
    ⟨0x05, 0x05, .time32, .rws, 0xF4240, true, .span 10000 1000000000⟩, -- REPLAY_DELAY
    ⟨0x06, 0x06, .u32, .ro, 0, false, .any⟩, -- INGRESS_FRAMES
    ⟨0x07, 0x07, .u32, .ro, 0, false, .any⟩, -- REPLAYED
    ⟨0x08, 0x08, .u32, .ro, 0, false, .any⟩, -- REPLAY_LATE
    ⟨0x09, 0x09, .u32, .ro, 0, false, .any⟩, -- REPLAY_DROPS
    ⟨0x0A, 0x0A, .u32, .ro, 0, false, .any⟩, -- REPLAY_REFUSED
    ⟨0x0B, 0x0B, .u32, .ro, 0, false, .any⟩, -- TRUNCATED
    ⟨0x0C, 0x0C, .u32, .ro, 0, false, .any⟩, -- LOST_INGRESS
    ⟨0x0D, 0x0D, .u8, .wo, 0, false, .span 1 1⟩ -- CLEAR
    ]⟩]

/-- Objects 0x8220 to 0x8520: the object tables of the chapters, row by row. -/
def objBlocks13 : List ObjBlock := [
  ⟨0x8220, 0x823F, [
    ⟨0x00, 0x00, .u8, .const, 5, false, .any⟩, -- TUNNEL_COMMIT HIGHEST_SUB
    ⟨0x01, 0x01, .u8, .wo, 0, false, .span 0 2⟩, -- COMMIT
    ⟨0x02, 0x02, .u8, .ro, 0, false, .any⟩, -- STATE
    ⟨0x03, 0x03, .u8, .ro, 0, false, .any⟩, -- LAST_RESULT
    ⟨0x04, 0x04, .u32, .ro, 0, false, .any⟩, -- APPLY_COUNT
    ⟨0x05, 0x05, .u32, .ro, 0, false, .any⟩ -- OWNER
    ]⟩,
  ⟨0x8300, 0x8300, [
    ⟨0x00, 0x00, .u8, .const, 9, false, .any⟩, -- HIGHEST_SUB
    ⟨0x01, 0x01, .time32, .rw, 0x1312D00, true, .span 1000000 1000000000⟩, -- REQ_TIMEOUT
    ⟨0x02, 0x02, .u16, .ro, 0, false, .any⟩, -- OUTSTANDING
    ⟨0x03, 0x03, .u64, .ro, 0, false, .any⟩, -- REQUESTS_SENT
    ⟨0x04, 0x04, .u32, .ro, 0, false, .any⟩, -- FAR_TIMEOUTS
    ⟨0x05, 0x05, .u32, .ro, 0, false, .any⟩, -- LATE_RESPONSES
    ⟨0x06, 0x06, .u32, .ro, 0, false, .any⟩, -- ERRNOTES_SENT
    ⟨0x07, 0x07, .u32, .ro, 0, false, .any⟩, -- ERRNOTES_RX
    ⟨0x08, 0x08, .u16, .ro, 512, false, .any⟩, -- FENCE_STATES_FREE
    ⟨0x09, 0x09, .u8, .wo, 0, false, .span 1 1⟩ -- CLEAR
    ]⟩,
  ⟨0x8310, 0x8310, [
    ⟨0x00, 0x00, .u8, .const, 5, false, .any⟩, -- HIGHEST_SUB
    ⟨0x01, 0x01, .u8, .ro, 0, false, .any⟩, -- COUNT
    ⟨0x02, 0x02, .u8, .ro, 0, false, .any⟩, -- OLDEST
    ⟨0x03, 0x03, .u8, .wo, 0, false, .any⟩, -- POP
    ⟨0x04, 0x04, .u32, .ro, 0, false, .any⟩, -- OVERFLOWS
    ⟨0x05, 0x05, .u32, .ro, 0, false, .any⟩ -- LOGGED
    ]⟩,
  ⟨0x8320, 0x833F, [
    ⟨0x00, 0x00, .u8, .const, 8, false, .any⟩, -- HIGHEST_SUB
    ⟨0x01, 0x01, .time80, .ro, 0, false, .any⟩, -- TIME
    ⟨0x02, 0x02, .u64, .ro, 0, false, .any⟩, -- ADDRESS
    ⟨0x03, 0x03, .u8, .ro, 0, false, .any⟩, -- MASTER
    ⟨0x04, 0x04, .u16, .ro, 0, false, .any⟩, -- TAG
    ⟨0x05, 0x05, .u8, .ro, 0, false, .any⟩, -- KIND
    ⟨0x06, 0x06, .u8, .ro, 0, false, .any⟩, -- ORIGIN
    ⟨0x07, 0x07, .u16, .ro, 0, false, .any⟩, -- LENGTH
    ⟨0x08, 0x08, .u32, .ro, 0, false, .any⟩ -- ERR_SEQ
    ]⟩,
  ⟨0x8400, 0x8400, [
    ⟨0x00, 0x00, .u8, .const, 8, false, .any⟩, -- HIGHEST_SUB
    ⟨0x01, 0x01, .time32, .rw, 0x989680, true, .span 1000000 1000000000⟩, -- LEASE_DEFAULT
    ⟨0x02, 0x02, .time32, .rw, 0x5F5E100, true, .span 0 1000000000⟩, -- WAIT_LIMIT
    ⟨0x03, 0x03, .u8, .ro, 0, false, .any⟩, -- LOCKS_HELD
    ⟨0x04, 0x04, .u32, .ro, 0, false, .any⟩, -- GRANTS
    ⟨0x05, 0x05, .u32, .ro, 0, false, .any⟩, -- CONFLICTS
    ⟨0x06, 0x06, .u32, .ro, 0, false, .any⟩, -- EXPIRED
    ⟨0x07, 0x07, .u32, .ro, 0, false, .any⟩, -- BACKOFFS
    ⟨0x08, 0x08, .u8, .wo, 0, false, .span 1 1⟩ -- CLEAR
    ]⟩,
  ⟨0x8401, 0x8401, [
    ⟨0x00, 0x00, .u8, .const, 16, false, .any⟩, -- HIGHEST_SUB
    ⟨0x01, 0x08, .u32, .ro, 0, false, .any⟩, -- HOLDER_CAN0–CAN7
    ⟨0x09, 0x10, .u32, .ro, 0, false, .any⟩ -- HOLDER_SER0–SER7
    ]⟩,
  ⟨0x8500, 0x8500, [
    ⟨0x00, 0x00, .u8, .const, 8, false, .any⟩, -- HIGHEST_SUB
    ⟨0x01, 0x01, .u8, .rw, 0, true, .span 0 1⟩, -- BL2_MODE
    ⟨0x02, 0x02, .u8, .ro, 0, false, .any⟩, -- LINK_STATE
    ⟨0x03, 0x03, .u8, .ro, 0, false, .any⟩, -- LINK_SPEED
    ⟨0x04, 0x04, .bool, .ro, 0, false, .any⟩, -- BUS_MASTER
    ⟨0x05, 0x05, .u32, .ro, 0, false, .any⟩, -- FLRS
    ⟨0x06, 0x06, .u32, .ro, 0, false, .any⟩, -- HOST_DOWN_DISCARDS
    ⟨0x07, 0x07, .u32, .ro, 0, false, .any⟩, -- DMA_FAULTS
    ⟨0x08, 0x08, .u32, .ro, 0, false, .any⟩ -- BAR_ACCESS_ERRORS
    ]⟩,
  ⟨0x8501, 0x8501, [
    ⟨0x00, 0x00, .u8, .const, 4, false, .any⟩, -- HIGHEST_SUB
    ⟨0x01, 0x01, .u32, .rw, 0x1000000, true, .steps 0 1606418432 4194304⟩, -- PAGE_0
    ⟨0x02, 0x02, .u32, .rw, 0x10000000, true, .steps 0 1606418432 4194304⟩, -- PAGE_1
    ⟨0x03, 0x03, .u32, .rw, 0x30000000, true, .steps 0 1606418432 4194304⟩, -- PAGE_2
    ⟨0x04, 0x04, .u32, .rw, 0x40000000, true, .steps 0 1606418432 4194304⟩ -- PAGE_3
    ]⟩,
  ⟨0x8510, 0x851F, [
    ⟨0x00, 0x00, .u8, .const, 5, false, .any⟩, -- HIGHEST_SUB
    ⟨0x01, 0x01, .u64, .rws, 0, true, .any⟩, -- BASE
    ⟨0x02, 0x02, .u8, .rws, 3, true, .span 1 3⟩, -- CLASS
    ⟨0x03, 0x03, .u8, .rws, 0, true, .span 0 1⟩, -- WRITE_MODE
    ⟨0x04, 0x04, .bool, .rws, 0, true, .any⟩, -- ENABLE
    ⟨0x05, 0x05, .u32, .ro, 0, false, .any⟩ -- ACCESSES
    ]⟩,
  ⟨0x8520, 0x8520, [
    ⟨0x00, 0x00, .u8, .const, 5, false, .any⟩, -- XLAT_COMMIT HIGHEST_SUB
    ⟨0x01, 0x01, .u8, .wo, 0, false, .span 0 2⟩, -- COMMIT
    ⟨0x02, 0x02, .u8, .ro, 0, false, .any⟩, -- STATE
    ⟨0x03, 0x03, .u8, .ro, 0, false, .any⟩, -- LAST_RESULT
    ⟨0x04, 0x04, .u32, .ro, 0, false, .any⟩, -- APPLY_COUNT
    ⟨0x05, 0x05, .u32, .ro, 0, false, .any⟩ -- OWNER
    ]⟩]

/-- Objects 0x8530 to 0x8538: the object tables of the chapters, row by row. -/
def objBlocks14 : List ObjBlock := [
  ⟨0x8530, 0x8537, [
    ⟨0x00, 0x00, .u8, .const, 9, false, .any⟩, -- HIGHEST_SUB
    ⟨0x01, 0x01, .bool, .rws, 0, false, .any⟩, -- ENABLE
    ⟨0x02, 0x02, .u64, .rws, 0, false, .any⟩, -- BASE
    ⟨0x03, 0x03, .u16, .rws, 256, false, .any⟩, -- SIZE
    ⟨0x04, 0x04, .u16, .rws, 2112, false, .any⟩, -- BUF_SIZE
    ⟨0x05, 0x05, .u64, .rws, 0, false, .any⟩, -- HEAD_WB
    ⟨0x06, 0x06, .time32, .rws, 0, false, .span 0 1000000⟩, -- COALESCE
    ⟨0x07, 0x07, .u16, .rws, 1, false, .span 1 4096⟩, -- COALESCE_COUNT
    ⟨0x08, 0x08, .u64, .ro, 0, false, .any⟩, -- FRAMES
    ⟨0x09, 0x09, .u32, .ro, 0, false, .any⟩ -- DROPS
    ]⟩,
  ⟨0x8538, 0x8538, [
    ⟨0x00, 0x00, .u8, .const, 5, false, .any⟩, -- DMA_COMMIT HIGHEST_SUB
    ⟨0x01, 0x01, .u8, .wo, 0, false, .span 0 2⟩, -- COMMIT
    ⟨0x02, 0x02, .u8, .ro, 0, false, .any⟩, -- STATE
    ⟨0x03, 0x03, .u8, .ro, 0, false, .any⟩, -- LAST_RESULT
    ⟨0x04, 0x04, .u32, .ro, 0, false, .any⟩, -- APPLY_COUNT
    ⟨0x05, 0x05, .u32, .ro, 0, false, .any⟩ -- OWNER
    ]⟩]

/-- Every object table of the dictionary, in rising order of index. -/
def objBlocks : List ObjBlock :=
  objBlocks0 ++ objBlocks1 ++ objBlocks2 ++ objBlocks3 ++ objBlocks4 ++ objBlocks5 ++ objBlocks6 ++ objBlocks7 ++ objBlocks8 ++ objBlocks9 ++ objBlocks10 ++ objBlocks11 ++ objBlocks12 ++ objBlocks13 ++ objBlocks14

/-- The object table that holds an index (R36). -/
def objBlock? (index : Nat) : Option ObjBlock :=
  objBlocks.find? fun b => b.lo ≤ index && index ≤ b.hi

/-- The row of an object, if the dictionary defines it (R33). -/
def objRow? (index sub : Nat) : Option ObjRow :=
  (objBlock? index).bind fun b => b.rows.find? fun r => r.s0 ≤ sub && sub ≤ r.s1

/-- The key under which an object's value is stored: its index and subindex. -/
def objKey (index sub : Nat) : Nat := index * 256 + sub

/-- The default value of an object (R33); 0 where the table states none. -/
def objDefault (key : Nat) : Nat :=
  match objRow? (key / 256) (key % 256) with
  | some r => r.dflt
  | none => 0

/-- The number of bits of an object's value. -/
def objBits (key : Nat) : Nat :=
  match objRow? (key / 256) (key % 256) with
  | some r => 8 * r.ty.size
  | none => 0

end Sys2Proof.Machine
end

