-- ==== Sys2Proof/Machine/State.lean ====
section
/-!
DEFINITION. The state of one hub: everything the spec gives the block, as plain data, its queue of waiting commands, and
the state after reset. A field's default is its value at reset. Values that the dictionary shows as objects live in
`State.objs` and nowhere else, unless an object is computed from an engine's field (Machine/Ops.lean, `viewOf`).
Times are in 2^-16 ns; deadlines are alarms in `State.alarms`.
-/

namespace Sys2Proof.Machine

/-- A stop of the machine. The spec gives every command an effect, so no meaning raises one (safe). -/
inductive Fault where
  /-- Raised by no meaning: the block has no stop of its own (safe). -/
  | none
  deriving DecidableEq, Repr

/-- A refusal of a command. -/
inductive Refusal where
  /-- Raised by exec's arm of a command that has no meaning yet (safe). -/
  | notModelled (mnemonic : String)
  deriving DecidableEq, Repr

/-! ### Frames and what leaves the hub -/

/-- What the lookup gives a frame (R108): entry, version, action, queue class, outputs of all copies; with them LOCAL_SEL and the
credit epoch of the entry at that moment, so that a frame completes under what it was looked up with (R114, R122). -/
structure Desc where
  entry : Nat
  version : Nat
  action : Nat
  cls : Nat
  outset : Nat
  sel : Nat
  epoch : Nat
  deriving DecidableEq, Repr

/-- A chain of COMB cells written for an output (R102, R118). -/
structure Chain where
  out : Output
  cells : List Nat
  deriving DecidableEq, Repr

/-- A frame held in a queue of the hub: its header, its payload and what travels with it (R108, R86, R196). -/
structure QFrame where
  hdr : Header
  payload : List Byte
  /-- cells its chain holds -/
  cells : Nat := 0
  /-- the COMB cells of its chain, FIRST_CELL first (R102, R108); none for a frame in transit -/
  chain : List Nat := []
  /-- cells that a transit frame holds in a spill reserve (R98) -/
  spill : Nat := 0
  /-- the descriptor of its lookup; none for FLOW 0x0000 and ring management -/
  entry : Option Desc := none
  /-- a frame that came by a line: its header and trailing CRC as received (R88) -/
  came : Option (Header × Nat) := none
  /-- ARRIVAL (R108), 16 bits -/
  arrival : Nat := 0
  /-- the ring port a transit or received frame came in by, and its receive stamp -/
  inPort : Option RingPort := none
  stamp : Nat := 0
  /-- moment from which its age counts in this queue (R196), in uptime -/
  since : Nat := 0
  /-- it has been counted in FIT_DEFERRALS (R194) -/
  deferred : Bool := false
  deriving DecidableEq, Repr

/-- What leaves the hub, in the order it leaves; the model's own record. -/
inductive Emission where
  /-- a frame on the line of an output, with the header as sent, its trailing CRC (none where the input ended early) and
  its end word -/
  | line (out : Output) (hdr : Header) (payload : List Byte) (crc : Option Nat) (poison : Bool)
  /-- TRAIN words of a ring port that carry its identity: port, serial, ring, node and highest rate (R69) -/
  | identity (p : RingPort) (serial ring node maxRate : Nat)
  /-- TRAIN words that carry a refusal reason (R68) -/
  | refuseHop (p : RingPort) (reason : Nat)
  /-- a frame handed by a local output to its sink, with LOCAL_SEL, and its corrected stamp extended to ns of ring time where
  it has one (R214) -/
  | handed (out : Output) (sel : Nat) (f : QFrame) (time : Option Nat)
  /-- a frame handed to the fixed logic of ring management at receive -/
  | taken (p : RingPort) (f : TakenFrame)
  /-- a request answered to a master of this hub -/
  | answer (rq : Requester) (res : Result) (data : List Byte)
  /-- a message on the USB service port: endpoint and bytes -/
  | usb (endpoint : Nat) (bytes : List Byte)
  /-- an MSI-X vector raised to the host -/
  | msix (vector : Nat)
  /-- a host memory write by DMA -/
  | dma (addr : Nat) (bytes : List Byte)
  /-- a level driven at a pad: DIO 0–31, WP 32–63, SUPPLY_OUT 64–67, FAULT_N 68, PPS_OUT 69, C/Q 70–77,
  L+ 78–85 -/
  | pad (pin : Nat) (level : Bool)
  /-- a worker pin that becomes high impedance -/
  | padOff (pin : Nat)
  /-- the line parts that a field port connects, CAN 0–7, SER 8–15: its termination in ohms, 0 for none, and its share of the failsafe
  bias in per cent -/
  | lineParts (port ohms bias : Nat)
  /-- a frame or character string sent on a field bus: CAN 0–7, SER 8–15, SDCI 16–23 -/
  | bus (port : Nat) (bytes : List Byte)
  /-- a data register shifted out of the JTAG port: its length in bits and its value (R502) -/
  | tdo (length value : Nat)
  /-- an SDO request handed to the server of a CAN port (R344) -/
  | sdoRequest (port : Nat) (data : List Byte)
  /-- a persistent set sent to the keeper's backup copy (R40): keeper node and set -/
  | savedSet (node : Nat) (set : SavedSet)
  deriving DecidableEq, Repr

/-! ### Clocks and deadlines -/

/-- The names of the deadlines of the hub. -/
inductive Alarm where
  | detect (p : RingPort) | trainRetry (p : RingPort) | marginTick (p : RingPort) | fallbackHold (p : RingPort)
  | retrainStart (p : RingPort) | deferredRetrain (p : RingPort) | neighbour (p : RingPort) | delayReq (p : RingPort)
  | delayResp (p : RingPort) | uprateWait (p : RingPort)
  | holdDeadline (r : ReseqId) | resyncIdle (r : ReseqId)
  | creditInterval (e : Nat) | creditRefresh (e : Nat) | creditStall (e : Nat)
  | boundary | openWindow | wheel (shaper : Nat) | replan
  | reqTimeout (num : Fin 16) (tag : Fin 65536) | lockWait (bus : Nat) (m : MasterId) | lease (bus : Nat)
  | backoff (num : Fin 16) | ticketGrace (num : Fin 16) | replay (endpoint : Nat) | coalesce (ring : Nat)
  | claim (group : Nat) | session (number : Nat) | save | saveDone
  | shadow (id : Nat) | scrub | brine | crystalClear
  | hopReport (p : RingPort) | electRound2 | electDecision | electRestart | announce | lossGuard | mapUpdate
  | positionDrop | discovery | keeperQuery | joinRetry | mapRead
  | partnerAbsent | heartbeatSend | heartbeatMiss | probe | mirrorAck (number : Nat) | autoSwap | swapTime | swapVerify
  | testOff | testOffEnd
  | holdover | extLoss | workerStall (n : Fin 32) | axisStale (i : Fin 16) | outRetry (n : Fin 32) | testEnd (n : Fin 32)
  | supplyRetry (n : Fin 4) | plan | activation | confirm | phyEast | phyWest | isdu (n : Fin 8) | sdciRetry (n : Fin 8) | lRetry (n : Fin 8) | dsUpload (n : Fin 8)
  deriving DecidableEq, Repr

/-- A deadline: in uptime, or in ring time where `ring` is set. -/
structure Deadline where
  alarm : Alarm
  ring : Bool
  at_ : Nat
  deriving DecidableEq, Repr

/-! ### Fault collector and recorder (ch. 13) -/

/-- A fault message (R415). Its code is source × 64 + kind. -/
structure Msg where
  source : Nat
  kind : Nat
  cls : Nat
  arg : Nat
  time : Nat
  deriving DecidableEq, Repr

/-- A reset shadow (R431): the detectors it covers as event codes, and its cause record, or the code of the record that
will be it (0 where none is waited for). -/
structure Shadow where
  id : Nat
  codes : List Nat
  link : Nat
  waits : Nat
  deriving DecidableEq, Repr

/-- A record of the recorder (R434). -/
structure Rec where
  seq : Nat
  time : Nat
  code : Nat
  flags : Nat
  arg : Nat
  suppressed : Nat
  link : Nat
  deriving DecidableEq, Repr

/-- A token bucket of the recorder (R436): tokens × 10^9 × 65536, at a moment of uptime. -/
structure Bucket where
  tokens : Nat
  at_ : Nat
  deriving DecidableEq, Repr

structure Collector where
  /-- messages waiting, oldest first, at most 256 (R417) -/
  queue : List Msg := []
  /-- messages discarded since the queue was last full and not yet reported (R417) -/
  overrunRun : Nat := 0
  /-- a FAULT_N reaction is latched (R428) -/
  faultLatch : Bool := false
  /-- level of the SAFE_N pad (R425) -/
  safeN : Bool := true
  shadows : List Shadow := []
  nextShadow : Nat := 0
  /-- reaction-ordered resets: block and moment (R432) -/
  resets : List (Nat × Nat) := []
  deriving DecidableEq, Repr

structure Recorder where
  /-- CRYSTAL records, oldest first, at most 256 (R435) -/
  crystal : List Rec := []
  /-- BRINE records, oldest first, at most 3,840 (R435) -/
  brine : List Rec := []
  /-- BRINE records written since the area began, which gives the slot of the next -/
  brineCount : Nat := 0
  /-- SEQ the next record takes (R438) -/
  headSeq : Nat := 1
  /-- token buckets by event code (R436) -/
  buckets : List (Nat × Bucket) := []
  /-- suppressed-repeat counts by event code (R436) -/
  repeats : List (Nat × Nat) := []
  /-- who clears CRYSTAL, while the clear runs (R435, R439) -/
  clearing : Option (Nat × Nat) := none
  /-- NOR copies of both areas and their highest SEQ (R437) -/
  norCrystal : List Rec := []
  norBrine : List Rec := []
  /-- recovery from RECORDER_ECC runs; the recorder has not been restored since reset (R437, R439) -/
  ecc : Bool := false
  /-- messages that were taken before the restore and are not written yet (R446) -/
  early : Nat := 0
  starting : Bool := false
  deriving DecidableEq, Repr

/-! ### Dictionary (ch. 02) -/

/-- A commit group (R45 to R48). -/
structure GroupState where
  /-- staged values by object key -/
  staged : List (Nat × Nat) := []
  owner : Option MasterId := none
  /-- the set in the hardware shadow, waiting for the block's boundary -/
  pending : Option (List (Nat × Nat)) := none
  lastResult : Nat := 0
  applyCount : Nat := 0
  deriving DecidableEq, Repr

/-- A segmented session (R53). -/
structure Session where
  number : Nat
  master : MasterId
  sdo : Option (Fin 8)
  write : Bool
  key : Nat
  total : Nat
  /-- snapshot being read, or bytes accepted -/
  data : List Byte
  accepted : Nat
  /-- position and length of the last accepted segment -/
  last : Option (Nat × Nat) := none
  /-- next expected SDO toggle bit (R55) -/
  toggle : Bool := false
  /-- a write whose LAST segment has been accepted: it only answers a repeat of that segment -/
  finished : Bool := false
  deriving DecidableEq, Repr

structure Settings where
  copyA : Option SavedSet := none
  copyB : Option SavedSet := none
  /-- the set being written, while a save runs -/
  writing : Option SavedSet := none
  /-- a write to SAVE_NOW during a save starts the next one (R60) -/
  again : Bool := false
  /-- a save that fell due during a management restart (R113) -/
  held : Bool := false
  /-- a planned restart that follows a save, with its cause: of the save that runs, or of the next one (R42, R43) -/
  restart : Option (Nat × Bool) := none
  deriving DecidableEq, Repr

/-- Management restart (R29, R30). -/
structure Mgmt where
  restarting : Bool := false
  cause : Nat := 0
  /-- events queued for management, at most 64: the record, trap or not -/
  queue : List (Rec × Bool) := []
  lost : Nat := 0
  deriving DecidableEq, Repr

/-! ### Ring ports (ch. 03) -/

/-- A retrain of a hop (R74, R90): rate, full or fast, reason. -/
structure Retrain where
  rate : LineRate
  full : Bool
  reason : Nat
  deriving DecidableEq, Repr

/-- What becomes of a received frame whose end has not arrived yet (R84 to R89, R100, R105). -/
structure RxFrame where
  /-- the header as received, and with HOPS after step 7 of R84 -/
  raw : Header
  hdr : Header
  stamp : Nat
  arrival : Nat
  /-- dropped at its header -/
  dropped : Bool := false
  /-- HOP_MGMT or ring management: taken by fixed logic -/
  fixed : Bool := false
  /-- transit outputs whose partition has admitted the frame, and cells it holds in the spill reserve -/
  transit : List Output := []
  spill : Nat := 0
  /-- the output it is leaving by in cut-through, with the header as sent and the moment it began to leave -/
  cut : Option (Output × Header × Nat) := none
  /-- local delivery: resequencer, descriptor, chains written -/
  local_ : Option (ReseqId × Option Desc × List Chain) := none
  deriving DecidableEq, Repr

structure PortEngine where
  /-- consecutive failed trainings (R93) -/
  failRun : Nat := 0
  /-- accepted measurements of this fill, newest first, at most 16 (R91) -/
  delays : List Nat := []
  /-- consecutive rejections: the value measured, or none for a timeout (R92) -/
  rejects : List (Option Nat) := []
  /-- exchange number of the DELAY_REQ out, and t1 once it has been sent (R91) -/
  exchange : Option (Nat × Option Nat) := none
  nextExchange : Nat := 0
  /-- moments of the CRC errors of the last second (R72) -/
  crcTimes : List Nat := []
  /-- retrain requested by this end and not yet acknowledged (R75, R76) -/
  requested : Option Retrain := none
  /-- retrain agreed, to start at the alarm retrainStart (R90) -/
  agreed : Option Retrain := none
  /-- planned retrains deferred, oldest first (R74) -/
  deferred : List Retrain := []
  /-- the partner's planned retrain that waits for this hub's other port (R75) -/
  asked : Option Retrain := none
  /-- the retrain agreed also serves the activation of a PHY image (R75, R76) -/
  phyToo : Bool := false
  /-- the highest rate that a full training ordered by a retrain may choose (R76) -/
  cap : Option LineRate := none
  /-- a retrain running, whose end is FAST_RETRAIN_DONE -/
  running : Option Retrain := none
  /-- moment the hop fell back, and the margins of the last 24 h with their moments, newest first (R73) -/
  slowSince : Option Nat := none
  slowMargins : List (Nat × Margins) := []
  /-- the rate of the last training (R68) -/
  rate : LineRate := .full
  /-- the highest rate the partner permits (R69) -/
  partnerRate : LineRate := .full
  /-- the frame whose end has not arrived yet -/
  rx : Option RxFrame := none
  /-- moment the port went UP, and the least margins of the present day (R467) -/
  upSince : Option Nat := none
  dayV : Option Nat := none
  dayH : Option Nat := none
  /-- CRC_ERRORS at the start of the present day -/
  crc0 : Nat := 0
  /-- a new baseline is due at the next plan; one of MARGIN_V alone (R467) -/
  rebase : Bool := false
  rebaseV : Bool := false
  deriving DecidableEq, Repr

/-! ### Switch core (ch. 04, 06) -/

/-- The class queues of one output (R97, R186, R187): four classes, transit and local. -/
structure Egress where
  transit : Vector (List QFrame) 4 := Vector.replicate 4 []
  local_ : Vector (List QFrame) 4 := Vector.replicate 4 []
  /-- deficits of C2 and C3 (R188) -/
  deficit2 : Nat := 0
  deficit3 : Nat := 0
  /-- a cut-through frame occupies the line; else the moment of uptime at which the line is free -/
  busy : Bool := false
  freeAt : Nat := 0
  /-- the class whose turn it is in the round of R188: 0 C2, 1 C3 -/
  turn : Nat := 0
  /-- QUOTA_FULL has been raised and occupancy has not fallen below 90 % since (R120) -/
  fullRaised : Bool := false
  /-- line bytes sent this cycle in C0, C1, and C2 and C3 (R201) -/
  sent0 : Nat := 0
  sent1 : Nat := 0
  sent23 : Nat := 0
  /-- C1 and C2+C3 bytes of the last 256 cycles, newest first -/
  history : List (Nat × Nat) := []
  /-- a C1 frame started after the protected window of this cycle -/
  c1Late : Bool := false
  deriving DecidableEq, Repr

/-- Credit state of a flow-table entry (R122 to R124). -/
structure Credit where
  epoch : Nat := 0
  limit : Nat := 0
  freed : Nat := 0
  consumed : Nat := 0
  /-- SEND: a grant has been received; DELIVER: an epoch has begun -/
  live : Bool := false
  /-- FREED_TOTAL at the last grant sent -/
  granted : Nat := 0
  /-- an acknowledgement waits to be sent (R122) -/
  ackDue : Bool := false
  /-- highest SEQ delivered with ACKREQ set -/
  acked : Nat := 0
  /-- an epoch has begun on this entry since power-on, so that EPOCH is a previous one (R122) -/
  begun : Bool := false
  deriving DecidableEq, Repr

/-- A flow-table entry (R109, R110). -/
structure FlowEntry where
  w0 : Nat := 0
  w1 : Nat := 0
  w2 : Nat := 0
  w3 : Nat := 0
  version : Nat := 0
  retiring : Bool := false
  frames : Nat := 0
  drops : Nat := 0
  gaps : Nat := 0
  late : Nat := 0
  /-- next SEQ to originate (SEND, SEND_SWARM; R81) -/
  nextSeq : Nat := 0
  credit : Credit := {}
  deriving DecidableEq, Repr

/-- A resequencer state (R125). -/
structure Reseq where
  next : Nat
  /-- bit i: number NEXT − 1 − i has been released; otherwise skipped -/
  record : Nat
  /-- held frames by SEQ, in release order, with the outputs whose chains were written -/
  held : List (Nat × QFrame × List Chain) := []
  /-- last copy on EAST and on WEST, in uptime -/
  seenEast : Option Nat := none
  seenWest : Option Nat := none
  lastCopy : Nat := 0
  deriving DecidableEq, Repr

/-- A frame presented by an originator: TYPE, flow-table entry, payload, FIRST and LAST; of a frame that waits, the entry as its
lookup found it (R105, R197). -/
structure Offer where
  org : Originator
  typ : Fin 16
  entry : Nat
  look : Option FlowEntry := none
  payload : List Byte
  first : Bool := true
  last : Bool := true
  deriving DecidableEq, Repr

structure Switch where
  outs : Vector Egress 8 := Vector.replicate 8 {}
  /-- entries ever written, by number (R109); an unlisted entry is free with version 0 -/
  flow : List (Nat × FlowEntry) := []
  /-- resequencer states by key: entry number, or 2^16 + ring × 2^13 + node for request states -/
  reseq : List (Nat × Reseq) := []
  /-- frames that wait in their originators' queues, oldest first (R124, R197, R204) -/
  waiting : List Offer := []
  /-- COMB pair B is in retention (R104) -/
  pairBOff : Bool := false
  /-- RESEQ_GAP has been raised in this whole second (R127) -/
  gapRaised : Bool := false
  /-- next SEQ of FLOW 0x0000 (R81) -/
  reqSeq : Nat := 0
  /-- next SEQ of each ring-management flow 0xFFF0 to 0xFFFF -/
  mgmtSeq : List (Nat × Nat) := []
  /-- shapers that have ever held tokens (R198): tokens × 8·10^6 × 65536, and the ring time they are counted at -/
  shapers : List (Nat × Int × Nat) := []
  /-- shapers entered on the timing wheel (R199), and the moment each was last entered -/
  onWheel : List Nat := []
  wheelSince : List (Nat × Nat) := []
  deriving DecidableEq, Repr

/-! ### Cycle and plan (ch. 06) -/

/-- A pending change of the cycle (R192): its cycle number, new length and protected window. -/
structure CycleChange where
  cycle : Nat
  length : Nat
  pct : Nat
  deriving DecidableEq, Repr

/-- A cycle taken over from a mark at the next boundary (R191). -/
structure Realign where
  number : Nat
  boundary : Nat
  length : Nat
  pct : Nat
  deriving DecidableEq, Repr

structure Cycle where
  /-- the hub has a cycle (R191) -/
  have_ : Bool := false
  /-- BOUNDARY_0 and the number of the cycle it opens (R189) -/
  boundary0 : Nat := 0
  number0 : Nat := 0
  /-- boundary of the current cycle -/
  current : Nat := 0
  /-- active length in ns and protected window in percent (R189, R206) -/
  length : Nat := 1000000
  pct : Nat := 50
  change : Option CycleChange := none
  realign : Option Realign := none
  /-- number of the last mark taken (R191) -/
  lastMark : Option Nat := none
  /-- keeper: load figures of the last plan (R202) -/
  loads : List HopLoad := []
  /-- keeper: a plan is being worked out; load figures read, worst first (R202) -/
  planning : Bool := false
  /-- C1_OVERFLOW already raised for these hops at their present rate (R203) -/
  overflowed : List Nat := []
  /-- moments in 2^-16 ns of uptime: start of the plan being worked out; start of the plan that last raised the level (R203) -/
  planAt : Nat := 0
  raised : Option Nat := none
  deriving DecidableEq, Repr

/-! ### Bridge and host (ch. 09) -/

/-- A non-posted request in flight (R279). -/
structure Pending where
  num : Fin 16
  tag : Fin 65536
  /-- transport by which a local tool or the host asked -/
  via : Via
  typ : Nat
  ring : Nat
  node : Nat
  offset : Nat
  length : Nat
  payload : List Byte := []
  cls : Nat := 0
  /-- a RELEASE of the hub's own, in a back-off: its completion goes to no master (R299) -/
  silent : Bool := false
  /-- BAR2 aperture whose next acked write waits for this one (R304) -/
  aperture : Option (Fin 16) := none
  deriving DecidableEq, Repr

/-- Fence state of one writing master (R284). -/
structure FenceState where
  master : MasterId
  errors : Nat := 0
  firstKind : Nat := 0
  lastUse : Nat := 0
  deriving DecidableEq, Repr

/-- A lock ticket (R294): issue time and master. -/
structure Ticket where
  issue : Nat
  master : MasterId
  deriving DecidableEq, Repr

/-- A bus of this hub under lock (R296). -/
structure LockBus where
  holder : Option (Ticket × Nat) := none
  /-- waiters, oldest ticket first: ticket, lease in µs, request -/
  waiters : List (Ticket × Nat × Requester) := []
  deriving DecidableEq, Repr

/-- What this hub knows of one of its own masters as a ticket holder (R294, R299): the issue time, or none while it has no
ticket; the lease quantum in µs, 0 before any grant; the locks it holds (ring, node, 16 × slot + bus). -/
structure OwnTicket where
  num : Fin 16
  issue : Option Nat := none
  quantum : Nat := 0
  held : List (Nat × Nat × Nat) := []
  outstanding : Nat := 0
  backingOff : Bool := false
  grace : Bool := false
  deriving DecidableEq, Repr

/-- A foreign frame that waits for its replay (R291): its replay time, source node and TUNNEL payload, and the COMB cells it holds. -/
structure Replay where
  at_ : Nat
  node : Nat
  frame : List Byte
  cells : List Nat
  deriving DecidableEq, Repr

/-- A tunnel endpoint (R285 to R291). -/
structure Endpoint where
  /-- foreign frames waiting for their replay time -/
  replay : List Replay := []
  /-- frames offered to the port, each with its place in the order of the port's requests -/
  offered : List (Nat × Replay) := []
  /-- parts of an RS-485 frame received so far: source ring and node, flow, parts -/
  parts : List (Nat × List Byte) := []
  lost : Nat := 0
  deriving DecidableEq, Repr

structure Bridge where
  outstanding : List Pending := []
  waiting : List Pending := []
  fences : List FenceState := []
  /-- fences not yet answered (R283) -/
  fenceWait : List Requester := []
  buses : Vector LockBus 16 := Vector.replicate 16 {}
  tickets : List OwnTicket := []
  endpoints : Vector Endpoint 32 := Vector.replicate 32 {}
  deriving DecidableEq, Repr

/-- A DMA ring (R307, R308). -/
structure DmaRing where
  tail : Nat := 0
  head : Nat := 0
  /-- descriptors done since the last interrupt -/
  done : Nat := 0
  /-- a transmit descriptor whose frame waits to be written into the COMB, and whether it asks for an interrupt (R307) -/
  busy : Bool := false
  irq : Bool := false
  deriving DecidableEq, Repr

/-- A part of a host read (R302): its TAG, and the data once it has completed. -/
structure HostPart where
  tag : Nat
  data : Option (Result × List Byte) := none
  deriving DecidableEq, Repr

structure HostIf where
  rings : Vector DmaRing 8 := Vector.replicate 8 {}
  /-- MSI-X table: address, data, vector control of each vector; pending bits (R303) -/
  table : Vector (Nat × Nat × Nat) 32 := Vector.replicate 32 (0, 0, 1)
  pba : Nat := 0
  /-- the BL2 mode taken at the last power-on or chip reset (R301) -/
  pcie : Bool := false
  /-- PERST_N asserted -/
  perst : Bool := true
  /-- host reads in flight: their parts not yet completed to the host, in address order (R302) -/
  reads : List (List HostPart) := []
  deriving DecidableEq, Repr

/-! ### Ring map, ring state and keeper (ch. 05, 14) -/

/-- A hop of the down-hop set (R143): serials of the hubs at its west and east end, its place on the ring map (hop i is
EAST of position i) where the reporter has one, and the moment of its last DOWN report. -/
structure DownHop where
  west : Nat
  east : Nat
  index : Option Nat
  last : Nat
  deriving DecidableEq, Repr

/-- An ELECT received, or this hub's own (R146, R148). -/
structure Bid where
  prio : Nat
  serial : Nat
  node : Nat
  deriving DecidableEq, Repr

/-- A JOIN_REQ at the keeper that awaits a decision (R450 to R452). -/
structure JoinReq where
  serial : Nat
  stored : Nat
  position : Nat
  westNode : Nat
  eastNode : Nat
  westSerial : Nat
  eastSerial : Nat
  mapVersion : Nat
  saveSeq : Nat
  flags : Nat
  variant : Nat
  deriving DecidableEq, Repr

/-- A grant this hub holds and takes at its JOIN_CYCLE (R453), or a number that changes at APPLY_CYCLE (R457). -/
structure Grant where
  node : Nat
  ring : Nat
  cycle : Nat
  /-- a first join, not a renumbering -/
  join : Bool
  deriving DecidableEq, Repr

structure RingState where
  map : RingMap := {}
  /-- node number stored in NOR, 0 for none (R14, R69, R450) -/
  stored : Nat := 0
  /-- positions counted by the keeper from the HOPS of its own KEEPER_ANNOUNCE (R451) -/
  counted : Nat := 0
  down : List DownHop := []
  /-- hops reported UP at 2.5 Gbit/s (R202) -/
  slow : List DownHop := []
  /-- the ELECTs of the election in progress (R148) -/
  election : Option (List Bid) := none
  /-- NO_KEEPER has been recorded since a keeper was last adopted (R149) -/
  noKeeper : Bool := false
  /-- serial and priority of the keeper, serial of the backup (R146) -/
  keeperSerial : Nat := 0
  keeperPrio : Nat := 0
  backupSerial : Nat := 0
  /-- JOIN_REQs at the keeper (R452) -/
  joins : List JoinReq := []
  grant : Option Grant := none
  /-- a map version announced by MAP_UPDATE whose numbers apply at a cycle (R457) -/
  renumber : Option (Nat × Nat) := none
  /-- numbers that the keeper frees when W and E stay direct neighbours for 60 s (R452) -/
  dropping : Option (Nat × Nat) := none
  /-- KEEPER_PRIORITY 0 written on the keeper: the backup takes over at the next boundary (R150) -/
  resigning : Bool := false
  /-- the keeper's copies of nodes' persistent sets (R25), by node -/
  copies : List (Nat × SavedSet) := []
  /-- settings images being pushed (R454): node and the bytes -/
  pushes : List (Nat × List Byte) := []
  /-- a backup's time of appointment, for MIRROR_LAG; the moment of the oldest change that the keeper has announced and this backup has
  not taken over yet; a takeover found the copies incomplete (R151) -/
  appointed : Nat := 0
  unmirrored : Option Nat := none
  gap : Bool := false
  /-- expected cycle of the next mark, watched by the backup (R152) -/
  markAwaited : Bool := false
  /-- settings defaults were taken at start-up (JOIN_FLAGS bit 0, R446) -/
  defaultsLoaded : Bool := false
  /-- moment of the last reset release (R461) -/
  released : Nat := 0
  /-- bytes of a settings image being pushed to this hub (R454) -/
  image : List Byte := []
  deriving DecidableEq, Repr

/-! ### Board links and duplex pair (ch. 05) -/

/-- A change being mirrored to the standby and the answer that waits for it (R167). -/
structure MirrorWait where
  number : Nat
  requester : Requester
  offset : Nat
  len : Nat
  result : Result
  /-- operation of a dictionary transfer, 0 for a window access -/
  op : Nat := 0
  /-- data of the answer, for a read that changes state -/
  data : List Byte := []
  /-- session and position of a transfer's answer -/
  session : Nat := 0
  pos : Nat := 0
  /-- the answer waits only for those of earlier dictionary requests (R536) -/
  acked : Bool := false
  /-- the value that the object had before; the change cannot be taken back (R31) -/
  old : Option Nat := none
  fixed : Bool := true
  deriving DecidableEq, Repr

structure Duplex where
  /-- cluster mode taken at the last power-on or chip reset (R159) -/
  mode : Nat := 0
  links : Vector BoardLink 3 := Vector.replicate 3 {}
  heartbeatNo : Nat := 0
  missRun : Nat := 0
  /-- moments of missed heartbeats within the last hour (R176) -/
  lastMiss : Option Nat := none
  /-- BL0 has seen a FAIL from the partner since it formed (R173) -/
  failSeen : Bool := false
  mirrorNo : Nat := 0
  mirrorWait : List MirrorWait := []
  /-- probe out (R173) -/
  probe : Option Nat := none
  nextProbe : Nat := 0
  /-- a resync runs, and its blocks received and not yet applied: offset and bytes (R167) -/
  resync : Bool := false
  blocks : List (Nat × List Byte) := []
  /-- all blocks have come; they take effect at the next cycle boundary (R167) -/
  blocksDue : Bool := false
  /-- frames of shared functions that the standby holds: moment and frame (R165) -/
  held : List (Nat × QFrame) := []
  /-- next SEQ on FLOW 0x0000 under the pair's lower number, in the member that holds the higher one (R165) -/
  sharedSeq : Nat := 0
  /-- what is sent now belongs to a shared function of a pair: under the lower node number, and held by a standby (R165) -/
  holding : Bool := false
  /-- slot 1 runs the field I/O alone (R162) -/
  alone : Bool := false
  /-- swap time agreed or proposed, in ring time (R178) -/
  swapAt : Option Nat := none
  swapAccepted : Bool := false
  verifying : Bool := false
  /-- own digest of a cycle: cycle number, CRC-32C and the currents of DIO0–31 in mA (R168, R175) -/
  digest : Nat × Nat × List Nat := (0, 0, [])
  /-- moments of divergences within the last hour (R175) -/
  divergences : List Nat := []
  /-- guard switches opened by R174, and by a test-off (R176) -/
  guardOpen : Nat := 0
  testing : Nat := 0
  /-- the next test-off opens the guard switch instead of the high-side switch -/
  testGuard : Bool := false
  /-- readiness tests 1–8: result and moment of the last completed test (R179) -/
  tests : Vector (Nat × Nat) 8 := Vector.replicate 8 (0, 0)
  /-- the same of TEST_OFF by channel, and of the transmit paths: 0 to 7 CAN, 8 to 15 RS-485, 16 to 23 SDCI (R176 to R178) -/
  channelTests : Vector (Nat × Nat) 32 := Vector.replicate 32 (0, 0)
  txTests : Vector (Nat × Nat) 24 := Vector.replicate 24 (0, 0)
  /-- paths that carried nothing during SWAP_VERIFY, and the end of that (R178) -/
  txOpen : Nat := 0
  txSince : Nat := 0
  deriving DecidableEq, Repr

/-! ### Time unit (ch. 07) -/

/-- One direction of time (R218 to R220): its place on the rejoin ramp (REJOIN_RAMP or more: full weight), whether a
disagreement dropped it, its last offset in 2^-16 ns and hop count, and its copy of the SYNC being settled. -/
structure TimeDir where
  ramp : Nat := 255
  dropped : Bool := false
  offset : Int := 0
  hops : Nat := 0
  got : Bool := false
  deriving DecidableEq, Repr

/-- A capture record (R230): ring time of the edge, rising, an earlier record lost, STATE, CAP_SEQ. -/
structure CapRec where
  time : Nat
  rising : Bool
  lost : Bool
  state : Nat
  seq : Nat
  deriving DecidableEq, Repr

/-- A capture unit (R229, R230): queued records, oldest first, at most 16; next CAP_SEQ; an edge lost since the last
record. -/
structure CapUnit where
  recs : List CapRec := []
  seq : Nat := 0
  lost : Bool := false
  /-- slot of the oldest record (READ_INDEX) -/
  read : Nat := 0
  deriving DecidableEq, Repr

structure TimeUnit where
  /-- rate correction of the slew and of held frequency or steering, in 2^-32 of nominal (R212, R215, R219) -/
  slew : Int := 0
  held : Int := 0
  /-- ring time at which the slew of the present cycle ends -/
  slewEnd : Nat := 0
  /-- rate not yet carried into ring time: 2^-16 ns × 2^-32 -/
  acc : Int := 0
  /-- combined offset not yet slewed in, 2^-16 ns × 2^32 (R219) -/
  left : Int := 0
  east : TimeDir := {}
  west : TimeDir := {}
  /-- number of the SYNC being settled; none settled yet -/
  round : Option Nat := none
  settled : Bool := true
  fineRun : Nat := 0
  coarseRun : Nat := 0
  stepRun : Nat := 0
  mismatchRun : Nat := 0
  closureRun : Nat := 0
  /-- moment of the last valid SYNC, and EST_ERROR at entry into HOLDOVER (R222) -/
  lastValid : Nat := 0
  holdEst : Nat := 0
  /-- announced step: STEP_CYCLE and STEP_NS (R221) -/
  step : Option (Nat × Int) := none
  /-- a local step at the next boundary, in 2^-16 ns (R221) -/
  localStep : Option Int := none
  /-- keeper: number of the last SYNC sent; offsets of its returning copies (R225) -/
  syncNumber : Nat := 0
  backEast : Option Int := none
  backWest : Option Int := none
  /-- keeper: a first measured offset is due (R227); seconds named for the next PPS edge -/
  extFirst : Bool := true
  tod : Option Nat := none
  /-- moments of the last measured offset and of the last PPS_IN edge used (R227) -/
  lastMeasure : Nat := 0
  lastPps : Option Nat := none
  /-- the whole second of ring time that WHOLE_SECOND was last taken for -/
  second : Nat := 0
  /-- PPS_OUT asserted (R228) -/
  pps : Bool := false
  caps : Vector CapUnit 64 := Vector.replicate 64 {}
  deriving DecidableEq, Repr


/-! ### Discrete channels and sensor supplies (ch. 11) -/

structure Dio where
  /-- output latches (R371) -/
  latch : Nat := 0
  /-- filtered input levels and comparator levels (R370) -/
  inState : Nat := 0
  inRaw : Nat := 0
  /-- pending pulse ends by channel, in ns of ring time (R250) -/
  pulseEnd : List (Nat × Nat) := []
  /-- changes of latches in the core tick `turnTick`: channel, and 0 for an image write or 1 + entry for a waggle (R249) -/
  turnTick : Nat := 0
  turns : List (Nat × Nat) := []
  /-- latched bits of DIAG_n (R371) -/
  diag : Vector Nat 32 := Vector.replicate 32 0
  /-- channels off for protection until a retry, or until the latch is cleared (R373) -/
  tripped : Nat := 0
  /-- channels held off by a budget (R378) -/
  cut : Nat := 0
  /-- channels in a pulse test (R375), and the moment of each channel's last test start -/
  testing : Nat := 0
  tested : List (Nat × Nat) := []
  /-- levels the switches drive now -/
  driven : Nat := 0
  /-- field power is off (R380), reduced mode (R379) -/
  fieldOff : Bool := false
  reduced : Bool := false
  /-- sensor supplies: commanded on, tripped, cut by a budget; levels driven (R377, R378) -/
  supply : Nat := 0
  supplyTrip : Nat := 0
  supplyCut : Nat := 0
  supplyDriven : Nat := 0
  /-- ROUTE_DISCARDS: delivered frames of another LEN (R371), 32 bits; no object shows it (log entry 65) -/
  discards : Nat := 0
  deriving DecidableEq, Repr

/-! ### Workers (ch. 12) -/

/-- A worker (R389). Its clock: the divider was restarted at core tick `base`, runs with `div`, and had counted `clocks`
before; the next instruction executes at edge `edge` (R390, R394). With `ahead`, a new divider value runs from `base`, which is edge 1
(R400). -/
structure Worker where
  /-- 0 STOPPED, 1 RUNNING, 2 STALLED, 3 SAFE (R396) -/
  st : Nat := 0
  pc : Nat := 0
  sr : Nat := 0
  count : Nat := 0
  cr : Nat := 0
  f : Bool := false
  base : Nat := 0
  div : Nat := 0x01900000
  clocks : Nat := 0
  edge : Nat := 0
  ahead : Bool := false
  /-- EDGE_STAMP in ns of ring time -/
  stamp : Option Nat := none
  tx : List Nat := []
  /-- RX words, each with the ns of ring time of its push (R402) -/
  rx : List (Nat × Nat) := []
  /-- words that the window or a flow wrote in core tick `txTick`, and words that the worker pushed in core tick `rxTick`: they are taken
  from the next tick on (R391) -/
  txTick : Nat := 0
  txNew : Nat := 0
  rxTick : Nat := 0
  rxNew : Nat := 0
  reason : Nat := 0
  /-- the core tick of the last start, and whether the worker ran before it (R395) -/
  startTick : Option Nat := none
  ran : Bool := false
  deriving DecidableEq, Repr

/-- The flags of a cluster: as they stand, as they stood at the end of the tick before `tick`, and the pulses that end
after `tick` (R393, R395); flags changed in `tick`, each with the worker that decides it. -/
structure ClusterFlags where
  cur : Nat := 0
  prev : Nat := 0
  tick : Nat := 0
  pulse : Nat := 0
  by_ : List (Nat × Nat) := []
  deriving DecidableEq, Repr

/-- A quadrature helper (R403): stamps of the last transition of A and B in ns, an encoder error in this interval, and the
moment HELPER_ERROR was last raised. -/
structure Helper where
  lastA : Option Nat := none
  lastB : Option Nat := none
  errInterval : Bool := false
  lastError : Option Nat := none
  deriving DecidableEq, Repr

structure WorkerUnit where
  /-- program words that are not 0, by worker × 64 + bank × 32 + address (R399) -/
  prog : List (Nat × Nat) := []
  workers : Vector Worker 32 := Vector.replicate 32 {}
  /-- latches of WP0–WP31 (R387) and what the pads drive: level and direction -/
  pinLevel : Nat := 0
  pinDir : Nat := 0
  padLevel : Nat := 0
  padDir : Nat := 0
  flags : Vector ClusterFlags 4 := Vector.replicate 4 {}
  helpers : Vector Helper 16 := Vector.replicate 16 {}
  /-- workers with RUN_AT_STARTUP have been started (R398) -/
  started : Bool := false
  /-- the core tick of each cluster's last ring tick (R396) -/
  ringTicks : Vector (Option Nat) 4 := Vector.replicate 4 none
  deriving DecidableEq, Repr

/-! ### Waggles and axes (ch. 08) -/

/-- A waggle entry (R239). -/
structure WagEntry where
  /-- words 0 to 11 -/
  words : List Nat := List.replicate 12 0
  /-- 0 IDLE, 1 ARMED, 2 SCHEDULED, 3 HELD, 4 FROZEN -/
  st : Nat := 0
  /-- due time and moment of execution, in ns of ring time -/
  due : Option Nat := none
  at_ : Nat := 0
  /-- an event with DELAY 0: executes at detection, never LATE (R245) -/
  instant : Bool := false
  /-- AXIS target as it moves under REPEAT, 32.32 (R247) -/
  target : Nat := 0
  /-- direction of the AXIS crossing: backward -/
  back : Bool := false
  fires : Nat := 0
  late : Nat := 0
  missed : Nat := 0
  lastLate : Bool := false
  lastMissed : Bool := false
  lastSuppressed : Bool := false
  /-- nanoseconds shown in DUE_NS while IDLE -/
  lastNs : Nat := 0
  /-- words written while FROZEN, which apply after the execution (R241) -/
  next : Option (List Nat) := none
  deriving DecidableEq, Repr

/-- A window write that both members of a pair apply at one ring time (R241): apply time in ns, offset, bytes. -/
structure WagApply where
  time : Nat
  offset : Nat
  bytes : List Byte
  deriving DecidableEq, Repr

structure Waggles where
  entries : List (Nat × WagEntry) := []
  /-- report queue (R252): reports oldest first, slot of the oldest -/
  reports : List (List Byte) := []
  readIndex : Nat := 0
  /-- executions in the present tick (R248): tick and number -/
  tick : Nat := 0
  inTick : Nat := 0
  /-- entries armed from the saved set once the time STATE is good (R240) -/
  toArm : List Nat := []
  applies : List WagApply := []
  deriving DecidableEq, Repr

/-- A publish entry at work (R260): the settings taken at the last boundary, the last count and mean velocity, the shift
between count and published position. -/
structure AxisPub where
  active : Nat × Nat × Nat × Nat := (0, 0, 0, 1)
  last : Option (Int × Nat) := none
  mean : Option Int := none
  shift : Int := 0
  preset : Option Nat := none
  deriving DecidableEq, Repr

structure Axes where
  pubs : Vector AxisPub 4 := Vector.replicate 4 {}
  /-- cycle number of each followed sample (R258) -/
  cycles : Vector Nat 16 := Vector.replicate 16 0
  deriving DecidableEq, Repr
/-! ### CAN ports (ch. 10) -/

/-- A transmit buffer: slot bytes 0 to 87 as a little-endian number (R330), status and counts (R332), a cancel that reached
it while ACTIVE, the place of its request, the master that requested it through the window, the shadow of R335. -/
structure CanBuf where
  img : Nat := 0
  status : Nat := 0
  arb : Nat := 0
  errors : Nat := 0
  cancel : Bool := false
  order : Nat := 0
  owner : Option MasterId := none
  shadow : Option Nat := none
  deriving DecidableEq, Repr

/-- A high-priority buffer (R328). -/
structure CanHp where
  img : Nat := 0
  full : Bool := false
  overrun : Bool := false
  deriving DecidableEq, Repr

/-- A contender for the bus (R334). -/
inductive CanTx where
  | buf (b : Fin 32)
  | replay (e : Fin 32)
  | sdo
  deriving DecidableEq, Repr

/-- What a port does when the frame on the bus ends (R323, R338, R339). -/
inductive CanThen where
  | stay | off | init
  deriving DecidableEq, Repr

structure CanPort where
  bufs : Vector CanBuf 32 := Vector.replicate 32 {}
  /-- TX_DONE -/
  txDone : Nat := 0
  /-- receive slots held, oldest first, and the slot of the oldest -/
  rx : List Nat := []
  read : Nat := 0
  /-- receive count -/
  seq : Nat := 0
  /-- CAN_RX_OVERRUN has been raised since the queue was last empty -/
  overrun : Bool := false
  hp : Vector CanHp 2 := Vector.replicate 2 {}
  /-- place of the next request -/
  next : Nat := 0
  /-- chosen at bus idle; being sent, with the ns of its start of frame and whether BRS was dropped (R324) -/
  chosen : Option CanTx := none
  active : Option (CanTx × Nat × Bool) := none
  then_ : CanThen := .stay
  /-- moments of the bus-offs counted for R337 -/
  busOffs : List Nat := []
  /-- FORCED_LISTEN holds until RESTART (R337, R339) -/
  forced : Bool := false
  /-- SDO response to be sent, with its place in the order -/
  reply : Option (Nat × List Byte) := none
  deriving DecidableEq, Repr

/-! ### RS-485 and SDCI ports (ch. 11) -/

/-- A transmit slot (R354): bytes as a little-endian number, TX_LEN, status, a late cancel, the place of its request, the
master that asked through the window, the shadow of R356, the ns of its first start bit. -/
structure SerSlot where
  img : Nat := 0
  len : Nat := 0
  status : Nat := 0
  cancel : Bool := false
  order : Nat := 0
  owner : Option MasterId := none
  shadow : Option (List Byte) := none
  stamp : Nat := 0
  deriving DecidableEq, Repr

/-- A received frame (R352): stored bytes, SER_FLAGS, stamp in ns. -/
structure SerRx where
  data : List Byte
  flags : Nat
  ns : Nat
  deriving DecidableEq, Repr

/-- What a port sends (R354). -/
inductive SerTx where
  | slot (b : Fin 4)
  | replay (e : Fin 32)
  deriving DecidableEq, Repr

structure SerPort where
  slots : Vector SerSlot 4 := Vector.replicate 4 {}
  txDone : Nat := 0
  rx : List SerRx := []
  seq : Nat := 0
  next : Nat := 0
  active : Option SerTx := none
  /-- the half-duplex driver is still enabled after a frame (TX_TRAIL) -/
  trailing : Bool := false
  /-- TX_INVALID: requests refused as INVALID (R354), 32 bits; no object shows it (log entry 65) -/
  txInvalid : Nat := 0
  /-- a frame was being received when a set was committed: whether one is, no command tells (R357, log entry 119) -/
  receiving : Bool := false
  /-- the moment in ns at which COMMIT 2 last ended a frame being received (R357) -/
  cutAt : Nat := 0
  deriving DecidableEq, Repr

structure SdciPort where
  /-- PD_IN: bytes as a little-endian number, VALID, stamp in ns -/
  pdIn : Nat := 0
  inValid : Bool := false
  inNs : Nat := 0
  /-- PD_OUT as written, and as the running M-sequence took it (R363) -/
  pdOut : Nat := 0
  outValid : Bool := false
  taken : Option (Nat × Bool) := none
  /-- a committed set waits for the end of the M-sequence (R362) -/
  restart : Bool := false
  /-- level at the DI pad -/
  di : Bool := false
  /-- ISDU_STATUS: state, response bytes, error code; command in progress; ISDU_LEN; ISDU_DATA (R364) -/
  isdu : Nat := 0
  isduLen : Nat := 0
  isduErr : Nat := 0
  isduCmd : Nat := 0
  isduOut : Nat := 0
  isduData : Nat := 0
  /-- event log: entries of 16 bytes, oldest first, and the slot of the oldest (R365) -/
  log : List Nat := []
  read : Nat := 0
  /-- L+ tripped, cut by a budget, driven (R367, R378) -/
  trip : Bool := false
  cut : Bool := false
  driven : Bool := false
  /-- C/Q as driven in DQ -/
  cq : Bool := false
  /-- C/Q is driven in DQ mode (R166) -/
  cqOut : Bool := false
  /-- as a standby: the state that the port follows from the line, numbered as PORT_STATE (R368) -/
  followed : Nat := 4
  /-- data storage, and the moment of the last upload a device asked for (R366) -/
  ds : Option DsSet := none
  dsLast : Option Nat := none
  deriving DecidableEq, Repr


/-! ### Health monitors and power (ch. 15) -/

/-- A margin of R466 from day to day: daily values, newest first, at most 255, and the worst of the present day. -/
structure Trend where
  days : List Nat := []
  today : Option Nat := none
  deriving DecidableEq, Repr

structure Health where
  /-- a plan has fallen due (R464) -/
  planDue : Bool := false
  /-- margins: 0 core, 1 and 2 ring ports, 3 to 5 board links, 6 to 37 DIO channels, 38 capacitor bank -/
  trends : Vector Trend 39 := Vector.replicate 39 {}
  /-- highest junction temperature at the last plan, in 0.1 °C (R464) -/
  planTemp : Option Int := none
  /-- raised and not yet raised again: THERMAL_HIGH, THERMAL_LIMIT, RIPPLE_HIGH, LIFE_LOW (R466, R468, R469) -/
  hot : Bool := false
  limit : Bool := false
  ripple : Bool := false
  lifeLow : Bool := false
  /-- moment since which the ripple has stayed below 80 % of its limit -/
  calmSince : Option Nat := none
  /-- what the stamps are corrected by, in ps: the delay of each capture comparator, and the transmit and receive latency of the ring
  PHYs, EAST first (R64, R229, R465) -/
  capDelay : Vector Nat 64 := Vector.replicate 64 0
  phyTx : Vector Int 2 := Vector.replicate 2 0
  phyRx : Vector Int 2 := Vector.replicate 2 0
  deriving DecidableEq, Repr

structure Power where
  /-- moments from which the conditions of S1, of S1 and S2, and of all three have held without a break (R472) -/
  since : Vector (Option Nat) 3 := Vector.replicate 3 none
  /-- moment at which pair B was asked to empty (R104, R472) -/
  pairB : Option Nat := none
  /-- time spent in S1 to S3, in 2^-16 ns, and the moment it is counted to -/
  spent : Vector Nat 3 := Vector.replicate 3 0
  last : Nat := 0
  /-- power state at entry into hold-up, its moment (R470) -/
  before : Nat := 0
  heldAt : Nat := 0
  /-- an exit from S3 ends at this moment in this state (R471); requests held until then (R474) -/
  wakeAt : Option (Nat × Nat) := none
  held : List (QFrame × ReseqId × Option RingPort) := []
  deriving DecidableEq, Repr

/-! ### Update engine (ch. 16) -/

/-- An image's header (R483), as far as it is used after its check. -/
structure ImageHead where
  cls : Nat
  typ : Nat
  keyId : Nat
  version : Nat
  length : Nat
  check : Nat
  mirrorMin : Nat
  mirrorVersion : Nat
  deriving DecidableEq, Repr

/-- An image that arrives (R484 to R492): DIST_ID of a distribution or none for a session, length of the stream, pieces by
position, the header once checked, the slot of a staged image, the block table found good, blocks accepted, failures of a
block, and the moment until which NOR is being written. -/
structure Reception where
  dist : Option Nat
  total : Nat
  pieces : List (Nat × List Byte) := []
  head : Option ImageHead := none
  slot : Option (Fin 2) := none
  tableOk : Bool := false
  blocks : List Nat := []
  fails : List (Nat × Nat) := []
  busyUntil : Nat := 0
  deriving DecidableEq, Repr

/-- A channel image in NOR (R492): type and version, and the order of arrival. -/
structure ChanImage where
  typ : Nat
  version : Nat
  order : Nat
  deriving DecidableEq, Repr

structure Update where
  rx : Option Reception := none
  /-- present or last distribution -/
  dist : Option Nat := none
  /-- headers of what the two slots hold -/
  heads : Vector (Option ImageHead) 2 := Vector.replicate 2 none
  /-- slot whose signature is being checked (R488) -/
  verifying : Option (Fin 2) := none
  channels : List ChanImage := []
  nextOrder : Nat := 0
  /-- channels to load: type, channel and version (R493) -/
  loads : List (Nat × Nat × Nat) := []
  /-- ACTIVATE written and waiting for ACTIVATE_AT (R494) -/
  waiting : Option Nat := none
  /-- management image, and loader, that the next restart starts (R495, R496) -/
  starts : Option (Fin 2) := none
  loader : Option (Fin 2) := none
  /-- loader slot on trial (R496) -/
  loaderTrial : Option (Fin 2) := none
  /-- versions to fall back to: management firmware and loader -/
  oldFw : Nat := 0
  oldLoader : Nat := 0
  oldMirror : Nat := 0
  /-- the settings copy that the previous image wrote last: true for B (R495) -/
  oldCopy : Bool := false
  /-- PHY image being activated, and the ports that run an image newer than that of the PHY area (R497): version -/
  phy : Option (Fin 2) := none
  phyRuns : Option Nat × Option Nat := (none, none)
  /-- pair sequence (R498): slot and step 1 to 3 -/
  pair : Option (Fin 2 × Nat) := none
  /-- objects reset at the last activation (R499): key and old format version -/
  resetList : List (Nat × Nat) := []
  deriving DecidableEq, Repr
/-! ### The hub -/

/-- Constants of the module that no rule fixes (R59): reset from Config. -/
structure Ident where
  variant : Nat
  serial : Nat
  dateCode : Nat
  siliconRev : Nat
  fwVersion : Nat
  loaderVersion : Nat
  phyVersion : Nat
  fingerprint : Nat
  /-- levels of the CLUSTER_ID pads (R157) -/
  clusterId : Nat
  /-- mirror protocol version that runs (R162) -/
  mirrorVersion : Nat
  deriving DecidableEq, Repr

/-- The constants of this module. -/
def Ident.module : Ident where
  variant := Config.orderVariant.val
  serial := Config.serial.toNat
  dateCode := Config.dateCode.toNat
  siliconRev := Config.siliconRev.toNat
  fwVersion := Config.fwVersion.toNat
  loaderVersion := Config.loaderVersion.toNat
  phyVersion := Config.phyVersion.toNat
  fingerprint := (Config.fingerprint Config.fwVersion).toNat
  clusterId := Config.clusterId.val
  mirrorVersion := Config.mirrorVersion.toNat

/-- The JTAG port (R502): the instruction in force, and the levels that the boundary register holds for the pads that the hub can
drive, by pad number. A reset of the port selects IDCODE (IEEE 1149.1; log entry 114). -/
structure Jtag where
  instruction : JtagInstr := .idcode
  boundary : BitVec 158 := 0
  deriving DecidableEq, Repr

/-- The state of the hub: every register, queue, counter, mode and pin that the spec gives it, and the model's own fields that are
marked so. -/
structure State where
  /-- commands waiting, first in first out -/
  pending : List Instr := []
  /-- what has left the hub, newest first -/
  out : List Emission := []
  /-- counter of free values drawn -/
  freeCount : Nat := 0
  /-- time since power-on, and ring time, in 2^-16 ns -/
  uptime : Nat := 0
  ringTime : Nat := 0
  alarms : List Deadline := []
  ident : Ident := Ident.module
  /-- object values that differ from their defaults, by key in rising order -/
  objs : List (Nat × Nat) := []
  /-- groups by index of their commit object -/
  groups : List (Nat × GroupState) := []
  /-- the engines and stores, each by its structure above -/
  sessions : List Session := []
  settings : Settings := {}
  mgmt : Mgmt := {}
  coll : Collector := {}
  rcd : Recorder := {}
  east : PortEngine := {}
  west : PortEngine := {}
  sw : Switch := {}
  cyc : Cycle := {}
  bridge : Bridge := {}
  host : HostIf := {}
  rs : RingState := {}
  dx : Duplex := {}
  tu : TimeUnit := {}
  dio : Dio := {}
  wu : WorkerUnit := {}
  wag : Waggles := {}
  ax : Axes := {}
  can : Vector CanPort 8 := Vector.replicate 8 {}
  ser : Vector SerPort 8 := Vector.replicate 8 {}
  sdci : Vector SdciPort 8 := Vector.replicate 8 {}
  hm : Health := {}
  pw : Power := {}
  up : Update := {}
  jtag : Jtag := {}
  deriving DecidableEq, Repr

/-- The hub right after the power-on reset: every engine empty, every object at its default (an object with none at 0),
the module's constants from Config. -/
def State.reset : State := {}

end Sys2Proof.Machine
end

