-- ==== Sys2Proof/Machine/Ops.lean ====
section
/-!
DEFINITION. The named operations over State that every family uses: clocks and alarms, object values, emissions, free
values, the ring ports' state, the hub's identity and roles.
-/

namespace Sys2Proof.Machine

/-- What a command answers. -/
abbrev Outc := Host.Outcome State Fault Refusal

/-- A command that runs to its end. -/
def done (s : State) : Outc := .next s

/-! ### Clock and alarms -/

/-- One core tick of 2.5 ns (R26) in 2^-16 ns. -/
def tickUnits : Nat := 163840

/-- Set a deadline `d` after now, in uptime. -/
def State.disarm (s : State) (a : Alarm) : State := { s with alarms := s.alarms.filter fun d => d.alarm != a }

def State.arm (s : State) (a : Alarm) (d : Nat) : State :=
  { s.disarm a with alarms := ⟨a, false, s.uptime + d⟩ :: (s.disarm a).alarms }

/-- Set a deadline at a ring time. -/
def State.armRing (s : State) (a : Alarm) (t : Nat) : State :=
  { s.disarm a with alarms := ⟨a, true, t⟩ :: (s.disarm a).alarms }

/-- The deadline of an alarm, if it is set. -/
def State.deadline (s : State) (a : Alarm) : Option Deadline := s.alarms.find? fun d => d.alarm == a

def State.armed (s : State) (a : Alarm) : Bool := (s.deadline a).isSome

/-- An alarm is set and its deadline has come. -/
def State.due (s : State) (a : Alarm) : Bool :=
  match s.deadline a with
  | some d => if d.ring then d.at_ ≤ s.ringTime else d.at_ ≤ s.uptime
  | none => false

/-- A time-driven event: it happens when its alarm is due, and is no event otherwise (log entry 2). -/
def State.onDue (s : State) (a : Alarm) (f : State → State) : State :=
  if s.due a then f (s.disarm a) else s

/-! ### Objects -/

/-- The stored value of an object: the default where nothing else is listed. -/
def State.val (s : State) (i j : Nat) : Nat := (aget s.objs (objKey i j)).getD (objDefault (objKey i j))

/-- Store an object value in the canonical form: cut to the object's width, and unlisted at its default. -/
def putObj (l : List (Nat × Nat)) (k v : Nat) : List (Nat × Nat) :=
  if v % 2 ^ objBits k = objDefault k then adel l k else aput l k (v % 2 ^ objBits k)

def State.setVal (s : State) (i j v : Nat) : State := { s with objs := putObj s.objs (objKey i j) v }

/-- Add to a counter, which wraps at its width (R95). -/
def State.addVal (s : State) (i j n : Nat) : State := s.setVal i j (s.val i j + n)

def State.bump (s : State) (i j : Nat) : State := s.addVal i j 1

/-- Set every listed counter of a record to 0. -/
def State.clearVals (s : State) (i : Nat) (js : List Nat) : State := js.foldl (fun t j => t.setVal i j 0) s

/-- A BOOL object. -/
def State.flag (s : State) (i j : Nat) : Bool := s.val i j == 1

def State.setFlag (s : State) (i j : Nat) (b : Bool) : State := s.setVal i j (if b then 1 else 0)

/-! ### Emissions and free values -/

def State.emit (s : State) (e : Emission) : State := { s with out := e :: s.out }

/-- EXTEST, CLAMP or HIGHZ have taken the field pads from the hub (R502). -/
def Jtag.taken (j : Jtag) : Bool := j.instruction == .extest || j.instruction == .clamp || j.instruction == .highz

/-- Drive a pad or a field bus: nothing reaches pads that JTAG has taken (R502). -/
def State.drive (s : State) (e : Emission) : State := if s.jtag.taken then s else s.emit e

/-- A value the spec leaves open, below `n`. -/
def State.draw (s : State) (n : Nat) : Nat × State :=
  (Config.freeValue s.freeCount % n, { s with freeCount := s.freeCount + 1 })

/-- Open bits of a window as it reads: the `k`-th value from here on, on `n` bits; the read moves the count on (log entry 4). -/
def State.openBits (s : State) (k n : Nat) : Nat := Config.freeValue (s.freeCount + k) % 2 ^ n

def State.openWord (s : State) (k : Nat) : Nat := s.openBits k 32

/-! ### Identity and roles -/

/-- Ring and node number held (R14, R16). -/
def State.ring (s : State) : Nat := s.val 0x1001 1
def State.node (s : State) : Nat := s.val 0x1001 2

/-- ROLE (R59): 1 keeper, 2 backup keeper, 3 pass-through. -/
def State.isKeeper (s : State) : Bool := s.val 0x1001 4 == 1
def State.isBackup (s : State) : Bool := s.val 0x1001 4 == 2

/-- ROLE in a duplex pair (R184): 1 primary, 2 standby. -/
def State.paired (s : State) : Bool := s.val 0x8110 1 == 1 || s.val 0x8110 1 == 2
def State.standby (s : State) : Bool := s.val 0x8110 1 == 2

/-- The node number that frames of shared functions carry: N, the lower of a pair (R163, R165). -/
def State.flowNode (s : State) : Nat := if s.paired && s.ident.clusterId == 1 then s.node - 1 else s.node

/-- This hub drives its field buses (R162, R166): the primary of a pair, a simplex hub, and slot 1 only when it runs alone. -/
def State.drives (s : State) : Bool :=
  s.dx.mode != 2 || s.val 0x8110 1 == 1 || (s.val 0x8110 1 != 2 && (s.ident.clusterId == 0 || s.dx.alone))

/-- A master of this hub, by its number. -/
def State.localMaster (s : State) (n : Fin 16) : MasterId :=
  ⟨Fin.ofNat 16 s.ring, Fin.ofNat 8192 s.node, n⟩

/-- A master is local when it stands at node 0 or at this hub's own ring and node (R19, R505). -/
def State.isLocal (s : State) (m : MasterId) : Bool :=
  m.node.val == 0 || (m.ring.val == s.ring && m.node.val == s.node)

/-! ### Ring ports -/

/-- Ring port states (R68). -/
inductive PortState where
  | down | detect | orient | equalise | up | fastRetrain | refused
  deriving DecidableEq, Repr

def PortState.code : PortState → Nat
  | .down => 0 | .detect => 1 | .orient => 2 | .equalise => 3 | .up => 4 | .fastRetrain => 5 | .refused => 6

def State.port (s : State) : RingPort → PortEngine
  | .east => s.east
  | .west => s.west

def State.setPort (s : State) (p : RingPort) (e : PortEngine) : State :=
  match p with
  | .east => { s with east := e }
  | .west => { s with west := e }

def State.updPort (s : State) (p : RingPort) (f : PortEngine → PortEngine) : State := s.setPort p (f (s.port p))

/-- Objects 0x2000/0x2001 RING_PORT, 0x2010/0x2011 COUNTERS, 0x2020/0x2021 LINK_DELAY of a port (R94 to R96). -/
def State.portVal (s : State) (p : RingPort) (j : Nat) : Nat := s.val (0x2000 + p.num) j
def State.setPortVal (s : State) (p : RingPort) (j v : Nat) : State := s.setVal (0x2000 + p.num) j v
def State.portBump (s : State) (p : RingPort) (j : Nat) : State := s.bump (0x2010 + p.num) j
def State.delayVal (s : State) (p : RingPort) (j : Nat) : Nat := s.val (0x2020 + p.num) j
def State.setDelayVal (s : State) (p : RingPort) (j v : Nat) : State := s.setVal (0x2020 + p.num) j v

def State.portIs (s : State) (p : RingPort) (st : PortState) : Bool := s.portVal p 4 == st.code
def State.isUp (s : State) (p : RingPort) : Bool := s.portIs p .up

/-- PORT_STATE and PORT_RATE together: the rate reads 0 unless the port is UP (R94). -/
def State.setPortState (s : State) (p : RingPort) (st : PortState) : State :=
  (s.setPortVal p 4 st.code).setPortVal p 5 (if st = .up then (s.port p).rate.num else 0)

/-- TIME_PATH_READY (R96). -/
def State.timePathReady (s : State) (p : RingPort) : Bool := s.delayVal p 8 == 1

/-- LINK_DELAY in 2^-16 ns (R96). -/
def State.linkDelay (s : State) (p : RingPort) : Nat := s.delayVal p 2

/-! ### Switch outputs -/

def State.egress (s : State) (o : Output) : Egress := s.sw.outs[o.idx]

def State.setEgress (s : State) (o : Output) (e : Egress) : State :=
  { s with sw := { s.sw with outs := s.sw.outs.set o.idx e } }

def State.updEgress (s : State) (o : Output) (f : Egress → Egress) : State := s.setEgress o (f (s.egress o))

/-- Block `b` of R422 is isolated. -/
def State.isolated (s : State) (b : Nat) : Bool := (s.val 0x6001 1).testBit b

/-- PD1 is off: S3 or hold-up (R470, R471). -/
def State.combOff (s : State) : Bool := 3 ≤ s.val 0x7000 3

/-- PD9 serves USB: from the end of the self-test unless LBIST has failed, and in the bench state, but not in S3 or hold-up (R445,
R459, R470, R500). -/
def State.usbReady (s : State) : Bool :=
  (decide (3 ≤ s.val 0x2420 1) || s.val 0x2420 5 == 7) && !(s.val 0x2420 4).testBit 4 && !s.combOff

/-- BL2 runs as a PCI Express endpoint (R301). -/
def State.pcieMode (s : State) : Bool := s.host.pcie

/-- ARRIVAL of a ring time: bits [31:16] of its nanoseconds modulo 2^32, in units of 65.536 µs (R108). -/
def arrivalOf (t : Nat) : Nat := inNs t % 2 ^ 32 / 65536

end Sys2Proof.Machine
end

