-- ==== Sys2Proof/Machine/Flags.lean ====
section
/-!
DEFINITION. Event messages to the fault collector (R415 to R418), the packing of their arguments (R416), reset shadows
(R431), MSI-X vectors (R309), the FAULT_N pad (R428) and changes of power state (R471, R473).
-/

namespace Sys2Proof.Machine

/-- Fault classes (R415). -/
def corrected : Nat := 0
def contained : Nat := 1
def fatal : Nat := 2

/-- Event code: SOURCE × 64 + KIND (R415). -/
def eventCode (source kind : Nat) : Nat := source * 64 + kind

/-- Items of an argument, packed from bit 63 downward, each with its width; a value that is too large saturates (R416). -/
def packArg : List (Nat × Nat) → Nat
  | items => (items.foldl (fun (acc : Nat × Nat) (it : Nat × Nat) =>
      (acc.1 - it.1, acc.2 + min it.2 (2 ^ it.1 - 1) * 2 ^ (acc.1 - it.1))) (64, 0)).2

/-- A 16-bit item, such as a node, port, entry or cause (R416). -/
def i16 (v : Nat) : Nat × Nat := (16, v)

/-- A 32-bit item, such as a time, delay, margin or count (R416). -/
def i32 (v : Nat) : Nat × Nat := (32, v)

/-- A 64-bit item, such as a serial number or an address (R416). -/
def i64 (v : Nat) : Nat × Nat := (64, v)

/-- A signed 32-bit item, saturating. -/
def s32 (v : Int) : Nat × Nat := (32, ofSigned 32 (max (-2147483648) (min 2147483647 v)))

/-- The place of a message in the queue: in arrival order, and in ascending SOURCE order within one tick (R417). -/
def insertMsg : List Msg → Msg → List Msg
  | [], m => [m]
  | x :: l, m =>
    if x.time / tickUnits == m.time / tickUnits && m.source < x.source then m :: x :: l else x :: insertMsg l m

/-- Raise an MSI-X vector on the host link, when BL2 runs as PCI Express; a masked vector becomes pending (R309). -/
def State.raiseVector (s : State) (v : Fin 32) : State :=
  if s.host.pcie && !s.isolated 5 then
    if s.host.table[v].2.2 % 2 == 1 then { s with host := { s.host with pba := putBit s.host.pba v.val true } }
    else s.emit (.msix v.val)
  else s

/-- The vector that an event of a source raises by itself (R309): a change of time STATE or a step, ring state and keeper events, duplex
events, lock conflict or expiry, and faults of the host interface. -/
def eventVector (source kind : Nat) : Option (Fin 32) :=
  if source = 0xB && (kind == 1 || kind == 3) then some 10
  else if source = 0xA then some 11
  else if source = 0x20 then some 12
  else if source = 0x1A then some 30
  else if source = 0x1B then some 31
  else none

/-- A message joins the queue of the collector. One that finds 256 waiting is discarded and counted (R417). -/
def State.queueMsg (s : State) (source kind cls arg : Nat) : State :=
  if s.coll.queue.length < 256 then
    { s with coll := { s.coll with queue := insertMsg s.coll.queue ⟨source, kind, cls, arg, s.ringTime⟩ } }
  else { (s.bump 0x6000 9) with coll := { s.coll with overrunRun := s.coll.overrunRun + 1 } }

/-- A block reports an event, with its vector. In the bench state nothing is recorded (R459). -/
def State.raise (s : State) (source kind cls arg : Nat) : State :=
  if s.val 0x2420 5 = 7 then s
  else match eventVector source kind with
    | some v => (s.queueMsg source kind cls arg).raiseVector v
    | none => s.queueMsg source kind cls arg

/-- Events of the ring ports (R93, R418): source 0x008 EAST, 0x009 WEST. -/
def State.portEvent (s : State) (p : RingPort) (kind cls arg : Nat) : State := s.raise (0x008 + p.num) kind cls arg

/-- Open a reset shadow over the detectors of a list for a time. The cause record is the next record of code `waits`, or
a record already written with number `link` (R431). -/
def State.openShadow (s : State) (codes : List Nat) (dur link waits : Nat) : State :=
  let s1 := { s with coll := { s.coll with
    shadows := s.coll.shadows ++ [Shadow.mk s.coll.nextShadow codes link waits], nextShadow := s.coll.nextShadow + 1 } }
  s1.arm (.shadow s.coll.nextShadow) dur

/-- Detectors that a reset or a training of a ring port shadows (R422, blocks 0 and 1): its LINK_LOSS, CRC_BURST and
DELAY_STEP; TIME_STATE, HOLDOVER_ENTER, DIRECTION_MISMATCH; RESEQ_GAP. -/
def portShadowCodes (p : RingPort) : List Nat :=
  [eventCode (8 + p.num) 1, eventCode (8 + p.num) 11, eventCode (8 + p.num) 10, eventCode 0xB 1, eventCode 0xB 2,
   eventCode 0xB 4, eventCode 0x10 5]

/-- FAULT_N is low while a reaction is latched or the safe state is in force (R428), from a power-on until the end of step 3 (R444),
and where a self-test has failed (R445). -/
def State.faultN (s : State) : Bool :=
  s.coll.faultLatch || s.flag 0x6000 1 || s.val 0x2420 1 == 10 ||
    (decide (s.val 0x2420 1 ≤ 3) && s.val 0x2420 2 != 3)

/-- Drive the FAULT_N pad, and show it in FAULT_N_ASSERTED. -/
def State.driveFaultN (s : State) : State :=
  if s.flag 0x6000 4 == s.faultN then s else (s.setFlag 0x6000 4 s.faultN).drive (.pad 68 (!s.faultN))

/-! ### Power states (R471 to R473) -/

/-- Conditions of PD0 to PD9 in a power state, 4 for hold-up: 0 off, 1 on, 2 clock-gated, 3 retention. -/
def domainsIn (n : Nat) : List Nat :=
  match n with
  | 0 => [1, 1, 1, 1, 1, 1, 1, 1, 1, 1]
  | 1 => [1, 1, 1, 1, 0, 1, 1, 1, 1, 1]
  | 2 => [1, 1, 3, 2, 0, 1, 1, 1, 1, 1]
  | _ => [1, 0, 0, 3, 0, 0, 0, 0, 0, 0]

/-- Count the time spent in S1 to S3 up to now. -/
def State.countPower (s : State) : State :=
  let n := s.val 0x7000 3
  let s1 : State := { s with pw := { s.pw with last := s.uptime } }
  if h : 1 ≤ n ∧ n ≤ 3 then
    let i : Fin 3 := ⟨n - 1, by omega⟩
    let t := s.pw.spent[i] + (s.uptime - s.pw.last)
    ({ s1 with pw := { s1.pw with spent := s1.pw.spent.set i t } } : State).setVal 0x7000 (7 + n) (t / secs 1)
  else s1

/-- Enter a state: its domains, pair B (R104), and USB, which PD9 serves. -/
def State.enterPower (s : State) (n : Nat) : State :=
  let s1 := (domainsIn n).zipIdx.foldl (fun (t : State) p => t.setVal 0x7001 (1 + p.2) p.1) ((s.countPower).setVal 0x7000 3 n)
  ({ s1 with
      sw := { s1.sw with pairBOff := n == 2 || n == 3 }
      pw := { s1.pw with pairB := none, wakeAt := none } } : State).setFlag 0x7020 1 (s1.flag 0x7020 4 && decide (n < 3))

/-- A change of power state, recorded and counted (R473). -/
def State.setPower (s : State) (n : Nat) : State :=
  let old := s.val 0x7000 3
  if old = n then s
  else ((s.enterPower n).bump 0x7000 5).raise 3 1 corrected (packArg [i16 old, i16 n])

/-- A wake to a shallower state (R473). The exit from S3 takes 2.5 ms; those from S1 and S2, of at most 60 µs, are not
modelled (DESIGN CHOICE, log entry 43). -/
def State.wakeTo (s : State) (n : Nat) : State :=
  let old := s.val 0x7000 3
  if old ≤ n || 4 ≤ old then s
  else if old = 3 then
    { s with pw := { s.pw with wakeAt := some (match s.pw.wakeAt with
      | some (t, m) => (t, min m n)
      | none => (s.uptime + usec 2500, n)) } }
  else s.setPower n

end Sys2Proof.Machine
end

