-- ==== Sys2Proof/Machine/Frame.lean ====
section
/-!
DEFINITION. The ring frame as bits (R81): header encoder and decoder, the two CRCs (R88), line size (R63), CORR and
STAMP (R86).
-/

namespace Sys2Proof.Machine

/-- The 32 header bytes as one number, byte 0 most significant (R8, R81). -/
def encodeHeader (h : Header) : BitVec 256 :=
  h.typ ++ h.cls ++ h.path ++ h.tsv ++ h.hops ++ h.locked ++ h.ctlRsv ++
  h.dRing ++ h.dNode ++ h.dMaster ++ h.dRsv ++
  h.sRing ++ h.sNode ++ h.sMaster ++ h.sRsv ++
  h.flow ++ h.seq ++
  h.len ++ h.ackreq ++ h.lossless ++ h.first ++ h.last ++
  h.tag ++ h.stamp ++ h.corr ++ h.hcrc ++ h.rsv

/-- The header that 32 bytes spell (R81). -/
def decodeHeader (w : BitVec 256) : Header where
  typ := w.extractLsb' 252 4
  cls := w.extractLsb' 250 2
  path := w.extractLsb' 249 1
  tsv := w.extractLsb' 248 1
  hops := w.extractLsb' 235 13
  locked := w.extractLsb' 234 1
  ctlRsv := w.extractLsb' 224 10
  dRing := w.extractLsb' 220 4
  dNode := w.extractLsb' 207 13
  dMaster := w.extractLsb' 203 4
  dRsv := w.extractLsb' 192 11
  sRing := w.extractLsb' 188 4
  sNode := w.extractLsb' 175 13
  sMaster := w.extractLsb' 171 4
  sRsv := w.extractLsb' 160 11
  flow := w.extractLsb' 144 16
  seq := w.extractLsb' 128 16
  len := w.extractLsb' 116 12
  ackreq := w.extractLsb' 115 1
  lossless := w.extractLsb' 114 1
  first := w.extractLsb' 113 1
  last := w.extractLsb' 112 1
  tag := w.extractLsb' 96 16
  stamp := w.extractLsb' 64 32
  corr := w.extractLsb' 32 32
  hcrc := w.extractLsb' 16 16
  rsv := w.extractLsb' 0 16

/-- The header's bytes in the order they are sent. -/
def headerBytes (h : Header) : List Byte := beBytes 32 (encodeHeader h).toNat

/-- One byte of the CRC-16 of R88: polynomial 0x1021, most significant bit first. -/
def crc16Byte (c : Nat) (b : Byte) : Nat :=
  (List.range 8).foldl (fun c _ => if c.testBit 15 then (c * 2 % 65536) ^^^ 0x1021 else c * 2 % 65536)
    (c ^^^ (b.toNat * 256))

/-- HCRC: CRC-16 with initial value 0xFFFF (R88). -/
def crc16 (bs : List Byte) : Nat := bs.foldl crc16Byte 0xFFFF

/-- One byte of the reflected CRC-32C of R88: polynomial 0x1EDC6F41, reflected 0x82F63B78. -/
def crc32cByte (c : Nat) (b : Byte) : Nat :=
  (List.range 8).foldl (fun c _ => if c.testBit 0 then (c / 2) ^^^ 0x82F63B78 else c / 2) (c ^^^ b.toNat)

/-- CRC-32C with initial value and final XOR of all ones (R88). -/
def crc32c (bs : List Byte) : Nat := bs.foldl crc32cByte 0xFFFFFFFF ^^^ 0xFFFFFFFF

/-- CRC-32C with initial value 0 and no final XOR (R88). -/
def crc32cRaw (bs : List Byte) : Nat := bs.foldl crc32cByte 0

/-- HCRC over bytes 0 to 27 of a header (R88). -/
def hcrcOf (h : Header) : Nat := crc16 ((headerBytes h).take 28)

end Sys2Proof.Machine
namespace Sys2Proof
open Sys2Proof.Machine in
/-- A header with its HCRC computed over its own bytes 0 to 27. -/
def Header.sealed (h : Header) : Header := { h with hcrc := BitVec.ofNat 16 (hcrcOf h) }

end Sys2Proof
namespace Sys2Proof.Machine

/-- The trailing CRC of a frame the hub originates: over bytes 0 to 31 + LEN (R88). -/
def frameCrc (h : Header) (payload : List Byte) : Nat := crc32c (headerBytes h ++ payload)

/-- The trailing CRC of a frame passed on: adjusted by the XOR difference of the changed bytes only (R88). -/
def adjustCrc (crc : Nat) (old new : Header) (len : Nat) : Nat :=
  crc ^^^ crc32cRaw (((headerBytes old).zipWith (· ^^^ ·) (headerBytes new)) ++ List.replicate len 0#8)

/-- Bytes a frame takes on the line: 48 + LEN, rounded up to a multiple of 4 (R63). -/
def lineBytes (len : Nat) : Nat := (48 + len + 3) / 4 * 4

/-- Cells of a frame in the transit buffer and in the COMB: ceil((36 + LEN) / 128) (R99, R102). -/
def cellsOf (len : Nat) : Nat := (36 + len + 127) / 128

/-- STAMP + CORR in 2^-16 ns, modulo 2^32 ns (R86). -/
def correctedStamp (h : Header) : Nat :=
  (((65536 * h.stamp.toNat : Nat) + h.corr.toInt) % ((2 ^ 32 * 65536 : Nat) : Int)).toNat

/-- A STAMP extended to ns of ring time: the value within −2^31 ns to 2^31 − 1 ns of the reference `now` in ns (R214); seconds
have 48 bits. -/
def extendStamp (now stamp : Nat) : Nat :=
  let d := (stamp + 2 ^ 32 - now % 2 ^ 32) % 2 ^ 32
  (now + d + (if 2 ^ 31 ≤ d then 1000000000 * 2 ^ 48 - 2 ^ 32 else 0)) % (1000000000 * 2 ^ 48)

/-- The corrected stamp of a frame extended by the hub's own ring time (R86, R214), where the frame carries one. -/
def frameTime (now : Nat) (h : Header) : Option Nat :=
  if h.tsv = 1 then some (extendStamp now (correctedStamp h / 65536 % 2 ^ 32)) else none

end Sys2Proof.Machine
namespace Sys2Proof
/-- A stamp taken at the source: whole nanoseconds modulo 2^32 in STAMP, the fraction in CORR (R86). -/
def Header.stampAt (h : Header) (t : Nat) : Header :=
  { h with stamp := BitVec.ofNat 32 (inNs t), corr := BitVec.ofNat 32 (t % 65536) }

/-- Add to CORR, and fold into STAMP when its magnitude reaches 8,192 ns (R86). -/
def Header.addCorr (h : Header) (d : Int) : Header :=
  let c := h.corr.toInt + d
  if 8192 * 65536 ≤ c.natAbs then
    let whole := c.tdiv 65536
    { h with stamp := BitVec.ofInt 32 (h.stamp.toNat + whole), corr := BitVec.ofInt 32 (c - whole * 65536) }
  else { h with corr := BitVec.ofInt 32 c }

/-- The header of a frame this hub builds: every field 0. -/
def Header.zero : Header where
  typ := 0
  cls := 0
  path := 0
  tsv := 0
  hops := 0
  locked := 0
  ctlRsv := 0
  dRing := 0
  dNode := 0
  dMaster := 0
  dRsv := 0
  sRing := 0
  sNode := 0
  sMaster := 0
  sRsv := 0
  flow := 0
  seq := 0
  len := 0
  ackreq := 0
  lossless := 0
  first := 0
  last := 0
  tag := 0
  stamp := 0
  corr := 0
  hcrc := 0
  rsv := 0


/-- Address a header to ring.node.master. -/
def Header.dest (h : Header) (ring node master : Nat) : Header :=
  { h with dRing := BitVec.ofNat 4 ring, dNode := BitVec.ofNat 13 node, dMaster := BitVec.ofNat 4 master }

/-- The header as it leaves by a ring port: PATH 0 from EAST, 1 from WEST (R12). -/
def Header.onPort (h : Header) (p : RingPort) : Header := { h with path := BitVec.ofNat 1 p.num }

/-- HOPS after step 7 of R84. -/
def Header.hopped (h : Header) : Header := { h with hops := if h.hops = 0 then 0 else h.hops - 1 }

/-- A header with TSV set; its stamp is written when the frame is sent (R86). -/
def Header.stamped (h : Header) (b : Bool) : Header := { h with tsv := if b then 1 else 0 }

end Sys2Proof
namespace Sys2Proof.Machine

/-- Frame types (R82). -/
def typData := 0
def typSwarm := 1
def typReadReq := 2
def typWritePosted := 3
def typWriteAcked := 4
def typReadResp := 5
def typAtomic := 6
def typErrnote := 7
def typLock := 8
def typTunnel := 9
def typSync := 0xA
def typCycleMark := 0xB
def typHopMgmt := 0xC
def typCredit := 0xD
def typAxis := 0xE

end Sys2Proof.Machine
end

