-- ==== Sys2Proof/Machine/Fabric.lean ====
section
/-!
DEFINITION. Frames inside the hub: the flow table and its lookup (R105 to R112), quotas and chains (R118 to R120),
origination with shedding, shaping and credit (R124, R197, R204), ring-management frames, and the answers and error
notes of fabric requests (R275, R280, R281).
-/

namespace Sys2Proof.Machine

/-! ### Flow-table entries -/

def FlowEntry.valid (e : FlowEntry) : Bool := e.w0.testBit 0
def FlowEntry.srcRing (e : FlowEntry) : Nat := bitField e.w0 31 28
def FlowEntry.srcNode (e : FlowEntry) : Nat := bitField e.w0 27 15
def FlowEntry.flow (e : FlowEntry) : Nat := bitField e.w1 31 16
def FlowEntry.action (e : FlowEntry) : Nat := bitField e.w1 15 12
def FlowEntry.cls (e : FlowEntry) : Nat := bitField e.w1 11 10
def FlowEntry.lossless (e : FlowEntry) : Bool := e.w1.testBit 9
def FlowEntry.ackreq (e : FlowEntry) : Bool := e.w1.testBit 8
def FlowEntry.outset (e : FlowEntry) : Nat := bitField e.w1 7 0
def FlowEntry.localSel (e : FlowEntry) : Nat := bitField e.w2 31 16
def FlowEntry.hold (e : FlowEntry) : Nat := bitField e.w3 31 22
def FlowEntry.creditLimit (e : FlowEntry) : Nat := bitField e.w3 19 8
def FlowEntry.tsv (e : FlowEntry) : Bool := e.w3.testBit 7

/-- Actions (R110). -/
def actDrop : Nat := 0
def actDeliver : Nat := 1
def actSend : Nat := 2
def actSendSwarm : Nat := 3

def FlowEntry.isDeliver (e : FlowEntry) : Bool := e.valid && e.action == actDeliver
def FlowEntry.isSend (e : FlowEntry) : Bool := e.valid && (e.action == actSend || e.action == actSendSwarm)

def State.flowEntry (s : State) (e : Nat) : FlowEntry := (aget s.sw.flow e).getD {}

def State.setFlow (s : State) (e : Nat) (x : FlowEntry) : State := { s with sw := { s.sw with flow := aput s.sw.flow e x } }

def State.updFlow (s : State) (e : Nat) (f : FlowEntry → FlowEntry) : State := s.setFlow e (f (s.flowEntry e))

/-- The bucket of a key: CRC-32C of ring, node and FLOW, low 11 bits (R106). -/
def flowBucket (ring node flow : Nat) : Nat := crc32c (beBytes 1 ring ++ beBytes 2 node ++ beBytes 2 flow) % 2048

/-- The entry that holds a key, among the eight of its bucket (R106). -/
def State.lookup (s : State) (ring node flow : Nat) : Option Nat :=
  ((List.range 8).map fun i => 8 * flowBucket ring node flow + i).find? fun e =>
    (s.flowEntry e).valid && (s.flowEntry e).srcRing == ring && (s.flowEntry e).srcNode == node &&
      (s.flowEntry e).flow == flow

/-- A SEND or SEND_SWARM entry on this hub's own key. -/
def State.ownSend (s : State) (e : Nat) : Bool :=
  (s.flowEntry e).isSend && (s.flowEntry e).srcRing == s.ring && (s.flowEntry e).srcNode == s.flowNode

/-! ### Occupancy and quotas -/

/-- Outputs named by a set of bits (R97). -/
def outputsOf (set : Nat) : List Output := Output.all.filter fun o => set.testBit o.num

/-- Descriptors and chains held for an output: of queued frames, of frames held by resequencers, and of frames still arriving
(R118, R120, R136). -/
def State.chainsAt (s : State) (o : Output) : List (Option Desc × List Nat) :=
  ((s.egress o).local_.toList.flatten.map fun f => (f.entry, f.chain)) ++
    (s.sw.reseq.map fun r => (r.2.held.map fun h => (h.2.2.filter fun c => c.out == o).map fun c => (h.2.1.entry, c.cells)).flatten).flatten ++
    ([s.east.rx, s.west.rx].map fun x => match x.bind (·.local_) with
      | some l => (l.2.2.filter fun c => c.out == o).map fun c => (l.2.1, c.cells)
      | none => []).flatten

/-- Cells that tunnel endpoints hold until they replay a frame (R287). -/
def State.replayCells (s : State) : List Nat :=
  (s.bridge.endpoints.toList.map fun e => ((e.replay ++ e.offered.map (·.2)).map Replay.cells).flatten).flatten

/-- Cells held for an output (R136). -/
def State.occupancy (s : State) (o : Output) : Nat :=
  ((s.chainsAt o).map fun c => c.2.length).sum + (if o = .field then s.replayCells.length else 0)

/-- COMB cells in use. -/
def State.usedCells (s : State) : List Nat :=
  (Output.all.map fun o => ((s.chainsAt o).map (·.2)).flatten).flatten ++ s.replayCells

/-- The descriptor that a lookup of an entry gives (R108). LOCAL_SEL is a field of DELIVER alone. -/
def State.descOf (s : State) (e : Nat) : Desc :=
  let x := s.flowEntry e
  ⟨e, x.version, x.action, x.cls, x.outset, if x.action = actDeliver then x.localSel else 0, x.credit.epoch⟩

/-- Cells held for an output that draw on the reservation of an entry: those of its present credit epoch (R120, R124). -/
def State.entryCells (s : State) (o : Output) (e : Nat) : Nat :=
  (((s.chainsAt o).filter fun c => c.1.any fun d => d.entry == e && d.epoch == (s.flowEntry e).credit.epoch).map
    fun c => c.2.length).sum

/-- The unused part of the reservations on an output, those of one entry excepted (R120). -/
def State.reserved (s : State) (o : Output) (except : Option Nat) : Nat :=
  ((s.sw.flow.filter fun p => p.2.isDeliver && p.2.lossless && p.2.outset.testBit o.num && some p.1 != except).map
    fun p => p.2.creditLimit - s.entryCells o p.1).sum

def State.quota (s : State) (o : Output) : Nat := s.val 0x2110 (o.num + 1)

/-- Cells for local frames in pair A, less the two spill reserves it holds (R102, R104). -/
def pairACells : Nat := 16384 - 2 * 2048

/-- First cell of pair B, and the number of COMB cells (R102). -/
def pairBFirst : Nat := 16384
def combCells : Nat := 32768

/-- Pair B takes no new cells: it is in retention, or the power controller has asked for that (R104). -/
def State.pairBShut (s : State) : Bool := s.sw.pairBOff || s.pw.pairB.isSome

/-- Cells free for local frames, lowest first, pair A before pair B, beside some about to be taken: at most `n` (R102, R104; the
order is a DESIGN CHOICE, log entry 92). None while PD1 is off. -/
def State.freeList (s : State) (taken : List Nat) (n : Nat) : List Nat :=
  let used := s.usedCells ++ taken
  if s.combOff then []
  else ((((List.range (used.length + n)).map fun i => if i < pairACells then i else i - pairACells + pairBFirst).filter fun c =>
    decide (c < combCells) && !(s.pairBShut && decide (pairBFirst ≤ c)) && !used.contains c).take n)

/-- The output has room for a chain under its quota (R120). -/
def State.underQuota (s : State) (o : Output) (cells : Nat) (entry : Option Nat) : Bool :=
  s.occupancy o + cells + s.reserved o entry ≤ s.quota o

/-- The chain written for an output, if its quota and the free cells admit one (R104, R118, R120, R470). -/
def State.chainFor (s : State) (taken : List Nat) (o : Output) (cells : Nat) (entry : Option Nat) : Option (List Nat) :=
  let l := s.freeList taken cells
  if s.underQuota o (cells) entry && l.length == cells then some l else none

/-- A chain is tail-dropped: counted for the output and the entry; the first drop on a full output raises QUOTA_FULL, a drop below
the quota for want of cells does not (R104, R120). -/
def State.tailDrop (s : State) (o : Output) (cells : Nat) (entry : Option Nat) : State :=
  let s1 := s.bump 0x2150 (o.num + 1)
  let s2 := match entry with
    | some e => s1.updFlow e fun x => { x with drops := (x.drops + 1) % 2 ^ 32 }
    | none => s1
  if (s2.egress o).fullRaised || s.underQuota o cells entry then s2
  else (s2.updEgress o fun g => { g with fullRaised := true }).raise 0x10 2 corrected (packArg [i16 o.num])

/-- QUOTA_FULL may be raised again once occupancy is below 90 % of the quota (R120). -/
def State.noteDrain (s : State) (o : Output) : State :=
  if (s.egress o).fullRaised && s.occupancy o * 10 < s.quota o * 9 then
    s.updEgress o fun g => { g with fullRaised := false }
  else s

/-- The same at every output of a set of chains. -/
def State.noteDrains (s : State) (l : List Chain) : State := l.foldl (fun t c => t.noteDrain c.out) s

/-- Append a frame to the local queue of its class at an output. In S2 a frame for management wakes the hub to S1, for
ENTRY_DELAY at least (R473). -/
def State.enqueue (s : State) (o : Output) (c : Fin 4) (f : QFrame) : State :=
  let s1 := s.updEgress o fun g => { g with
    local_ := g.local_.set c (g.local_[c] ++ [{ f with since := s.uptime, deferred := false }]) }
  if o = .mgmt && s.val 0x7000 3 == 2 then
    { s1.wakeTo 1 with pw := { (s1.wakeTo 1).pw with since := (s1.wakeTo 1).pw.since.set 1 (some s.uptime) } }
  else s1

/-- Write one chain for an output, or drop it. While a ring port is not UP its frames are discarded and counted (R80). -/
def State.writeChain (s : State) (o : Output) (c : Fin 4) (f : QFrame) : State :=
  match o with
  | .east => if s.isUp .east then go s else s.portBump .east 0x13
  | .west => if s.isUp .west then go s else s.portBump .west 0x13
  | _ => go s
where
  go (s : State) : State :=
    match s.chainFor [] o f.cells (f.entry.map (·.entry)) with
    | some l => s.enqueue o c { f with chain := l }
    | none => s.tailDrop o f.cells (f.entry.map (·.entry))

/-! ### Headers of frames this hub builds -/

/-- Positions of the ring map held (R457). -/
def State.positions (s : State) : Nat := s.rs.map.positions.length

/-- HOPS of an originated frame: positions plus 16, at most 8191 (R85); 8191 without a ring map (R450). -/
def State.hops (s : State) : Nat := if s.positions = 0 then 8191 else min 8191 (s.positions + 16)

/-- The header of a frame this hub sends from a master of its own. -/
def State.ownHeader (s : State) (typ cls master flow seq len : Nat) : Header :=
  { Header.zero with
    typ := BitVec.ofNat 4 typ, cls := BitVec.ofNat 2 cls, hops := BitVec.ofNat 13 s.hops,
    sRing := BitVec.ofNat 4 s.ring, sNode := BitVec.ofNat 13 s.node, sMaster := BitVec.ofNat 4 master,
    flow := BitVec.ofNat 16 flow, seq := BitVec.ofNat 16 seq, len := BitVec.ofNat 12 len, first := 1, last := 1 }

/-! ### Ring management frames -/

/-- The ring map names this hub as gateway to a ring, or names none (R16, log entry 93). -/
def State.namedGateway (s : State) (ring : Nat) : Bool :=
  match s.rs.map.gateways.find? fun g => g.1 == ring with
  | some g => g.2 == s.node
  | none => true

/-- Board link of a gateway to a ring (R16). -/
def State.gatewayLink (s : State) (ring : Nat) : Option Output :=
  if s.dx.mode = 3 && ring ≠ s.ring && s.namedGateway ring then
    ([(0, Output.bl0), (1, .bl1), (2, .bl2)].find? fun x =>
      (s.dx.links.toList.getD x.1 {}).up && (s.dx.links.toList.getD x.1 {}).ring == ring).map (·.2)
  else none

/-- Board link by which a gateway passes a frame on: a swarm does not cross a gateway (R24). -/
def State.crossing (s : State) (h : Header) : Option Output :=
  if h.typ.toNat = typSwarm then none else s.gatewayLink h.dRing.toNat

/-- The output that carries what this hub sends towards a ring port: the port; BL0 for the hop inside a duplex pair (R159); in slots 1 to
3 of a wide node the link to slot 0, which sends both ways (R160). -/
def State.ringOutput (s : State) (p : RingPort) : Option Output :=
  if s.dx.mode = 2 && p = (if s.ident.clusterId = 0 then RingPort.east else .west) then
    (if s.dx.links[0].up then some .bl0 else none)
  else if s.dx.mode = 1 && s.ident.clusterId ≠ 0 then
    (if p = .west then none else if s.ident.clusterId = 1 then some .bl0 else if s.ident.clusterId = 2 then some .bl1 else some .bl2)
  else some (Output.ofPort p)

/-- Frames of a ring port reach this hub: the port is UP, or the board link is that stands for it, BL0 inside a duplex pair (R159), the
link to slot 0 in a wide node (R160). -/
def State.hears (s : State) (p : RingPort) : Bool :=
  s.isUp p ||
    (s.dx.mode == 2 && p == (if s.ident.clusterId = 0 then RingPort.east else .west) && s.dx.links[0].up) ||
    (s.dx.mode == 1 && s.ident.clusterId != 0 && p == .east && (s.dx.links.toList.getD (s.ident.clusterId - 1) {}).up)

/-- Queue a frame of the fixed ring-management logic on one ring port, in C0 unless it is AXIS; it takes no cells of the
COMB (DESIGN CHOICE, log entry 8). -/
def State.sendOn (s : State) (p : RingPort) (o : Output) (h : Header) (payload : List Byte) : State :=
  s.enqueue o ⟨h.cls.toNat % 4, Nat.mod_lt _ (by omega)⟩
    { hdr := h.onPort p, payload := payload, arrival := arrivalOf s.ringTime }

/-- The same, on the output that serves the port. -/
def State.sendFixed (s : State) (p : RingPort) (h : Header) (payload : List Byte) : State :=
  match s.ringOutput p with
  | none => s
  | some .east => if s.isUp .east then s.sendOn p .east h payload else s.portBump .east 0x13
  | some .west => if s.isUp .west then s.sendOn p .west h payload else s.portBump .west 0x13
  | some o => s.sendOn p o h payload

/-- Next SEQ of a ring-management flow (R81). -/
def State.takeMgmtSeq (s : State) (flow : Nat) : Nat × State :=
  let n := (aget s.sw.mgmtSeq flow).getD 0
  (n, { s with sw := { s.sw with mgmtSeq := aput s.sw.mgmtSeq flow ((n + 1) % 65536) } })

/-- Send a ring-management frame both ways (R12); never to node 0 (R19). -/
def State.sendMgmt (s : State) (typ cls flow dRing dNode : Nat) (tsv : Bool) (payload : List Byte) : State :=
  if dNode = 0 then s
  else
    let r := s.takeMgmtSeq flow
    let h := ((r.2.ownHeader typ cls 0 flow r.1 payload.length).dest dRing dNode 0).stamped tsv
    (r.2.sendFixed .east h payload).sendFixed .west h payload

/-- A ring-management message in a DATA frame on FLOW 0xFFF4 (R146). -/
def State.sendRingMsg (s : State) (dRing dNode : Nat) (payload : List Byte) : State :=
  s.sendMgmt typData 0 0xFFF4 dRing dNode false payload

/-- Send a HOP_MGMT frame on one port: destination ring.8191.0, HOPS 1 (R90). -/
def State.sendHop (s : State) (p : RingPort) (tsv : Bool) (payload : List Byte) : State :=
  let r := s.takeMgmtSeq 0xFFFF
  let h := { ((r.2.ownHeader typHopMgmt 0 0 0xFFFF r.1 payload.length).dest s.ring 8191 0).stamped tsv with hops := 1 }
  if r.2.isUp p then r.2.sendOn p (Output.ofPort p) h payload else r.2.portBump p 0x13

/-! ### Messages of a duplex pair (R168) -/

/-- The ring port that BL0 of a pair stands for (R159). -/
def State.pairPort (s : State) : RingPort := if s.ident.clusterId = 0 then .east else .west

/-- A HOP_MGMT frame for the partner: PATH 0 from slot 0, PATH 1 from slot 1 (R90, R168). -/
def State.pairHeader (s : State) (len : Nat) : Header × State :=
  let r := s.takeMgmtSeq 0xFFFF
  (({ (r.2.ownHeader typHopMgmt 0 0 0xFFFF r.1 len).dest s.ring 8191 0 with hops := 1 } : Header).onPort s.pairPort, r.2)

/-- Send a hardware message of a pair on BL0 (R168). -/
def State.sendPair (s : State) (bytes : List Byte) : State :=
  if s.dx.links[0].up then
    (let h := s.pairHeader bytes.length
     h.2.sendOn s.pairPort .bl0 h.1 bytes)
  else s

/-! ### Fabric requests and answers -/

/-- Write the ring chains of a frame this hub sends, one each way; a gateway hands a frame for another ring to the link that
leads there (R16; DEDUCED, log entry 57). -/
def State.bothWays (s : State) (c : Fin 4) (f : QFrame) : State :=
  match s.crossing f.hdr with
  | some o => s.writeChain o c f
  | none => [RingPort.east, .west].foldl (fun (t : State) p => match t.ringOutput p with
    | some o => t.writeChain o c { f with hdr := f.hdr.onPort p }
    | none => t) s

/-- Write the two ring chains of a frame of a shared function; a standby holds those of the last 8 µs instead (R165). -/
def State.ringChains (s : State) (c : Fin 4) (f : QFrame) (shared : Bool) : State :=
  if shared && s.standby then
    { s with dx := { s.dx with
        held := (s.dx.held.filter fun (p : Nat × QFrame) => s.uptime < p.1 + usec 8) ++ [(s.uptime, f)] } }
  else s.bothWays c f

/-- A frame on FLOW 0x0000 from a master of this hub, with the next SEQ of its source (R81, R273); a shared function of a pair sends under
the lower number (R165). -/
def State.flow0Frame (s : State) (typ cls srcMaster dRing dNode dMaster tag : Nat) (locked : Bool) (payload : List Byte) :
    QFrame × State :=
  let shared := s.dx.holding && s.node ≠ s.flowNode
  let h0 := (s.ownHeader typ cls srcMaster 0 (if shared then s.dx.sharedSeq else s.sw.reqSeq) payload.length).dest dRing dNode dMaster
  let h := { h0 with
    tag := BitVec.ofNat 16 tag, locked := if locked then 1 else 0
    sNode := if s.dx.holding then BitVec.ofNat 13 s.flowNode else h0.sNode }
  ({ hdr := h, payload := payload, cells := cellsOf payload.length, arrival := arrivalOf s.ringTime },
    if shared then { s with dx := { s.dx with sharedSeq := (s.dx.sharedSeq + 1) % 65536 } }
    else { s with sw := { s.sw with reqSeq := (s.sw.reqSeq + 1) % 65536 } })

/-- Send a frame on FLOW 0x0000 both ways (R273), from a master of this hub; never to node 0 (R19). -/
def State.sendFlow0 (s : State) (typ cls srcMaster dRing dNode dMaster tag : Nat) (locked : Bool) (payload : List Byte) :
    State :=
  if dNode = 0 then s
  else
    let r := s.flow0Frame typ cls srcMaster dRing dNode dMaster tag locked payload
    r.2.ringChains (Fin.ofNat 4 cls) r.1 s.dx.holding

/-- A request is in flight (R279). -/
def State.track (s : State) (p : Pending) : State := { s with bridge := { s.bridge with outstanding := s.bridge.outstanding ++ [p] } }

/-- A request head (R274). -/
def requestHead (offset slot subop len : Nat) : List Byte :=
  beBytes 4 offset ++ beBytes 1 slot ++ beBytes 1 subop ++ beBytes 2 len

/-- The response head (R275). -/
def responseHead (status flags len : Nat) : List Byte := beBytes 1 status ++ beBytes 1 flags ++ beBytes 4 0 ++ beBytes 2 len

/-- The fabric address of an offset of this hub (R18). -/
def State.ownAddress (s : State) (offset : Nat) : Nat :=
  2 ^ 60 * s.ring + 2 ^ 47 * s.node + 2 ^ 32 * s.val 0x1001 3 + offset

/-- The ERRNOTE payload (R280). -/
def errnotePayload (kind typ addr len time : Nat) : List Byte :=
  beBytes 1 kind ++ beBytes 1 typ ++ beBytes 2 0 ++ beBytes 8 addr ++ beBytes 2 len ++ beBytes 2 0 ++
    beBytes 6 (inNs time / 1000000000) ++ beBytes 4 (inNs time % 1000000000) ++ beBytes 6 0

/-- Enter a failure in the far-error log (R281), and raise the initiator's interrupt (R282). -/
def State.farLog (s : State) (time addr master tag kind origin len : Nat) : State :=
  if s.val 0x8310 1 < 32 then
    let s1 := s.bump 0x8310 5
    let i := 0x8320 + (s1.val 0x8310 2 + s1.val 0x8310 1) % 32
    let s2 := (((((((s1.setVal i 1 (time80 time)).setVal i 2 addr).setVal i 3 master).setVal i 4 tag).setVal i 5 kind).setVal
      i 6 origin).setVal i 7 len).setVal i 8 (s1.val 0x8310 5)
    let s3 := s2.setVal 0x8310 1 (s2.val 0x8310 1 + 1)
    if master = 1 then s3.raiseVector 8
    else s3.raise 0x18 1 corrected (2 ^ 47 * (addr / 2 ^ 47) + 2 ^ 43 * (master % 16) + 2 ^ 35 * (kind % 256) + addr % 2 ^ 34)
  else
    let s1 := s.bump 0x8310 4
    s1.raise 0x18 2 corrected (packArg [i32 (s1.val 0x8310 4)])

/-- A posted write has failed (R280): an ERRNOTE to a far master; the log at once for a master of this hub
(DEDUCED, log entry 9). -/
def State.postedFailed (s : State) (rq : Requester) (offset len : Nat) (res : Result) : State :=
  let addr := s.ownAddress offset
  if s.isLocal rq.master then
    s.farLog s.ringTime addr rq.master.num.val rq.tag.val res.code 0 len
  else
    (s.sendFlow0 typErrnote 2 0 rq.master.ring.val rq.master.node.val rq.master.num.val rq.tag.val false
      (errnotePayload res.code typWritePosted addr len s.ringTime)).bump 0x8300 6

/-- A master's fence state is live until it has been idle for RESYNC_IDLE (R107, R284). -/
def State.fenceLive (s : State) (f : FenceState) : Bool := s.uptime < f.lastUse + nsec (s.val 0x2100 4)

/-- Count a failed posted write in the fence state of its master (R284). -/
def State.fenceError (s : State) (m : MasterId) (kind : Nat) : State :=
  { s with bridge := { s.bridge with fences := s.bridge.fences.map fun f =>
      if f.master = m then
        { f with errors := f.errors + 1, firstKind := if f.errors = 0 then kind else f.firstKind }
      else f } }

/-- A part of a host read completes: the completions return in address order (R302). -/
def State.hostPart (s : State) (rq : Requester) (res : Result) (data : List Byte) : State :=
  match s.host.reads.find? fun l => l.any fun (x : HostPart) => x.tag == rq.tag.val && x.data.isNone with
  | none => s.emit (.answer rq res data)
  | some l =>
    let l1 := l.map fun (x : HostPart) => if x.tag = rq.tag.val then { x with data := some (res, data) } else x
    let ready := l1.takeWhile fun (x : HostPart) => x.data.isSome
    let rest := l1.drop ready.length
    let s1 := { s with host := { s.host with
      reads := (s.host.reads.map fun m => if m = l then rest else m).filter fun m => !m.isEmpty } }
    ready.foldl (fun (t : State) x => match x.data with
      | some d => t.emit (.answer { rq with tag := Fin.ofNat 65536 x.tag } d.1 d.2)
      | none => t) s1

/-- A host access ends (R305): a write that succeeds has no answer; one that fails is logged; a read that fails reads all ones. -/
def State.answerHost (s : State) (rq : Requester) (origin addr len : Nat) (res : Result) (data : List Byte) : State :=
  let s1 := if res = .ok then s
    else (s.farLog s.ringTime addr 1 rq.tag.val res.code origin len).bump 0x8500 8
  if origin = 1 then s1.hostPart rq res (if res = .ok then data else List.replicate len 0xFF#8) else s1

/-- No posted write of a master is still incomplete (R283): one that waits for the standby is. -/
def State.fenceClear (s : State) (m : MasterId) : Bool :=
  !s.dx.mirrorWait.any fun w => w.requester.via == .posted && w.requester.master == m

/-- Answer a FENCE (R283, R284): ERRORS and FIRST_KIND since the previous one. A local master gets RESP_FLAGS and the data. -/
def State.answerFence (s : State) (rq : Requester) (fresh : Bool) : State :=
  let f := (s.bridge.fences.find? fun f => f.master == rq.master).getD { master := rq.master }
  let flags := (if f.errors = 0 then 0 else 1) + (if fresh then 2 else 0)
  let data := beBytes 4 f.errors ++ beBytes 1 f.firstKind ++ beBytes 3 0
  let s1 := { s with bridge := { s.bridge with fences := s.bridge.fences.map fun (x : FenceState) =>
    if x.master = rq.master then { x with errors := 0, firstKind := 0 } else x } }
  if s1.isLocal rq.master then s1.emit (.answer rq .ok (beBytes 1 flags ++ data))
  else
    s1.sendFlow0 typReadResp rq.cls.val 0 rq.master.ring.val rq.master.node.val rq.master.num.val rq.tag.val false
      (responseHead 0 flags 8 ++ data)

/-- Answer the fences whose posted writes have completed. -/
def State.settleFences (s : State) : State :=
  let ready := s.bridge.fenceWait.filter fun rq => s.fenceClear rq.master
  ready.foldl (fun (t : State) rq => t.answerFence rq false)
    { s with bridge := { s.bridge with fenceWait := s.bridge.fenceWait.filter fun rq => !s.fenceClear rq.master } }

/-- Answer a request on a window (R275, R280, R305): a completion to a far master, an answer to a local one, nothing for
a posted write that succeeds. -/
def State.answer (s : State) (rq : Requester) (offset len : Nat) (res : Result) (data : List Byte) : State :=
  match rq.via with
  | .posted => if res = .ok then s else (s.postedFailed rq offset len res).fenceError rq.master res.code
  | .host o => s.answerHost rq o.val (s.ownAddress offset) len res data
  | _ =>
    if s.isLocal rq.master then s.emit (.answer rq res (if res = .ok then data else []))
    else
      let d := if res = .ok then data else []
      s.sendFlow0 typReadResp rq.cls.val 0 rq.master.ring.val rq.master.node.val rq.master.num.val rq.tag.val false
        (responseHead res.code 0 d.length ++ d)

/-! ### Swarms, shedding and shapers -/

/-- This hub is a member of a swarm (R117, R138). -/
def State.inSwarm (s : State) (id : Nat) : Bool := (s.val 0x2130 (1 + id / 64)).testBit (id % 64)

/-- The level at which SHED sheds a flow: the lowest level of an entry naming it, 0 for none (R204). -/
def State.shedLevelOf (s : State) (flow : Nat) : Nat :=
  ((List.range 16).map fun i => s.val 0x2230 (1 + i)).foldl
    (fun acc w => if bitField w 31 16 = flow && w % 4 != 0 && (acc = 0 || w % 4 < acc) then w % 4 else acc) 0

/-- The hub sheds an entry now (R204); C0 and C1 entries are not shed. -/
def State.sheds (s : State) (e : Nat) : Bool :=
  let x := s.flowEntry e
  2 ≤ x.cls && s.shedLevelOf x.flow != 0 && s.shedLevelOf x.flow ≤ s.val 0x2200 8

/-- Entry `k` of SHED names a C0 or C1 entry or a flow of which this hub has no SEND or SEND_SWARM entry (R204). -/
def State.shedsNothing (s : State) (k : Nat) : Bool :=
  match s.lookup s.ring s.flowNode (bitField (s.val 0x2230 (1 + k)) 31 16) with
  | some e => !((s.flowEntry e).isSend && 2 ≤ (s.flowEntry e).cls)
  | none => true

/-- SHED_IGNORED counts an entry of SHED that sheds nothing when the ring's level comes to its own, from a level of `old`
(R204; DESIGN CHOICE, log entry 116). -/
def State.countIgnored (s : State) (old : Nat) (ks : List Nat) : State :=
  ks.foldl (fun (t : State) k =>
    let level := t.val 0x2230 (1 + k) % 4
    if level != 0 && old < level && level ≤ t.val 0x2200 8 && t.shedsNothing k then t.bump 0x2230 0x12 else t) s

/-- Tokens are counted in bytes × 8·10^6 × 65536, so that RATE kbit/s fills RATE of them in one unit of time (R198). -/
def tokenScale : Int := 8000000 * 65536

/-- Stored tokens of a shaper and the ring time they stand at. -/
def State.shaperState (s : State) (i : Nat) : Int × Nat := (aget s.sw.shapers i).getD (0, s.ringTime)

/-- Tokens of a shaper now, at most BURST (R198). -/
def State.tokens (s : State) (i : Nat) : Int :=
  min ((s.val (0x2300 + i) 4 : Nat) * tokenScale)
    ((s.shaperState i).1 + ((s.val (0x2300 + i) 3 * (s.ringTime - (s.shaperState i).2) : Nat) : Int))

/-- The shaper that paces a target, if one does (R197). -/
def State.shaperOf (s : State) (kind target : Nat) : Option Nat :=
  (List.range 256).find? fun i => s.val (0x2300 + i) 1 == kind && s.val (0x2300 + i) 2 == target

/-- A frame of `bytes` line bytes is eligible at a shaper: tokens at least the smaller of its size and BURST, and the
shaper is not waiting on the wheel (R198). -/
def State.eligible (s : State) (i bytes : Nat) : Bool :=
  !s.sw.onWheel.contains i && ((min bytes (s.val (0x2300 + i) 4) : Nat) : Int) * tokenScale ≤ s.tokens i

/-- Take a frame's line bytes from the tokens at its release (R198). -/
def State.takeTokens (s : State) (i bytes : Nat) : State :=
  ({ s with sw := { s.sw with shapers := aput s.sw.shapers i (s.tokens i - (bytes : Int) * tokenScale, s.ringTime) } }).bump
    (0x2300 + i) 6

/-- Width of a wheel slot (R199). -/
def State.slotWidth (s : State) : Nat := nsec (10 * 2 ^ s.val 0x22F1 1)

/-- Enter a shaper on the wheel for a ring time: the slot that contains it or the next, within the span of 2,048 slots
(R198, R199). A wait beyond the span takes the last slot and counts. -/
def State.enterWheel (s : State) (i t : Nat) : State :=
  let w := s.slotWidth
  let wanted := (t + w - 1) / w * w
  let last := (s.ringTime / w + 2047) * w
  let s1 := if last < wanted then s.bump (0x2300 + i) 7 else s
  { (s1.armRing (.wheel i) (min wanted last)) with
    sw := { s1.sw with
      onWheel := if s1.sw.onWheel.contains i then s1.sw.onWheel else s1.sw.onWheel ++ [i]
      wheelSince := aput s1.sw.wheelSince i s1.uptime } }

/-- The head of a paced queue is not eligible: the shaper waits for the ring time at which its tokens suffice (R198). -/
def State.shaperWait (s : State) (i bytes : Nat) : State :=
  if s.sw.onWheel.contains i then s
  else
    let need := ((min bytes (s.val (0x2300 + i) 4) : Nat) : Int) * tokenScale - s.tokens i
    s.enterWheel i (s.ringTime + (need.toNat + s.val (0x2300 + i) 3 - 1) / s.val (0x2300 + i) 3)

/-! ### Local origination -/

/-- Credit of a lossless SEND entry in cells (R123). -/
def Credit.available (c : Credit) : Nat := (c.limit + c.freed + 2 ^ 32 - c.consumed % 2 ^ 32) % 2 ^ 32

/-- What keeps a frame in its originator's queue. -/
inductive Gate where
  | go | wait | discard
  deriving DecidableEq, Repr

/-- The entry as the lookup of a frame found it: a frame that waits keeps its contents (R105, R114, R197; log entry 91). -/
def State.lookedUp (s : State) (o : Offer) : FlowEntry := o.look.getD (s.flowEntry o.entry)

/-- A frame on a lossless entry has the credit it needs (R123). -/
def State.credited (s : State) (o : Offer) : Bool :=
  let y := s.flowEntry o.entry
  !((s.lookedUp o).lossless && y.lossless) || (y.credit.live && cellsOf o.payload.length ≤ y.credit.available)

/-- Shedding, shaping and credit of a frame on one of this hub's SEND or SEND_SWARM entries (R124, R197, R204). A shaper passes
nothing while its entry is no SEND or SEND_SWARM entry (R200). -/
def State.gate (s : State) (o : Offer) : Gate :=
  if s.sheds o.entry then (if (s.lookedUp o).lossless then .wait else .discard)
  else
    let shaped := match s.shaperOf 1 o.entry with
      | some i => (s.flowEntry o.entry).isSend && s.eligible i (lineBytes o.payload.length)
      | none => true
    if shaped && s.credited o then .go else .wait

/-- SEQ of a frame that leaves (R81): the next of its source and FLOW, which a frame whose entry has taken another key since its
lookup brings with it. -/
def State.offerSeq (s : State) (o : Offer) : Nat :=
  let x := s.lookedUp o
  let y := s.flowEntry o.entry
  if x.w0 / 2 ^ 15 = y.w0 / 2 ^ 15 ∧ x.flow = y.flow then y.nextSeq else x.nextSeq

/-- Count a frame accepted on an entry: FRAMES, the next SEQ of the key it has, CONSUMED (R81, R110, R123). -/
def State.countSend (s : State) (o : Offer) (cells : Nat) : State :=
  let x := s.lookedUp o
  s.updFlow o.entry fun y => { y with
    nextSeq := if x.w0 / 2 ^ 15 = y.w0 / 2 ^ 15 ∧ x.flow = y.flow then (y.nextSeq + 1) % 65536 else y.nextSeq
    frames := (y.frames + 1) % 2 ^ 32
    credit := if x.lossless && y.lossless then { y.credit with consumed := (y.credit.consumed + cells) % 2 ^ 32 } else y.credit }

/-- The header of a frame on a SEND, SEND_SWARM or DELIVER entry on this hub's own key (R81, R83, R110). A member of a pair sends its
own events in its own name (R165). -/
def State.offerHeader (s : State) (o : Offer) : Header :=
  let x := s.lookedUp o
  let typ := if x.action = actSendSwarm then typSwarm else o.typ.val
  { (s.ownHeader typ x.cls o.org.master x.flow (s.offerSeq o) o.payload.length) with
    sNode := BitVec.ofNat 13 (if o.org = .collector then s.node else s.flowNode), first := if o.first then 1 else 0, last := if o.last then 1 else 0 }

/-- The frame of an offer, with the descriptor of its lookup. -/
def State.offerFrame (s : State) (o : Offer) (h : Header) : QFrame :=
  let x := s.lookedUp o
  { hdr := h, payload := o.payload, cells := cellsOf o.payload.length, arrival := arrivalOf s.ringTime
    entry := some ⟨o.entry, x.version, x.action, x.cls, x.outset, if x.action = actDeliver then x.localSel else 0,
      (s.flowEntry o.entry).credit.epoch⟩ }

/-- Write the chains of a frame on one of this hub's SEND or SEND_SWARM entries (R111, R118): EAST with PATH 0, WEST with
PATH 1, and the tap. The entry's stall time starts again (R124). -/
def State.launchSend (s : State) (o : Offer) : State :=
  let x := s.lookedUp o
  let h := { ((s.offerHeader o).stamped x.tsv) with
    dRing := BitVec.ofNat 4 (bitField x.w2 31 28), dNode := BitVec.ofNat 13 (bitField x.w2 27 15),
    dMaster := BitVec.ofNat 4 (bitField x.w2 14 11),
    ackreq := if x.ackreq then 1 else 0, lossless := if x.lossless then 1 else 0 }
  let f := s.offerFrame o h
  let c : Fin 4 := Fin.ofNat 4 x.cls
  let s1 := s.countSend o f.cells
  let s2 := match s1.shaperOf 1 o.entry with
    | some i => s1.takeTokens i (lineBytes o.payload.length)
    | none => s1
  let s3 := s2.ringChains c f (o.org != .collector)
  let s4 := if s3.armed (.creditStall o.entry) then s3.arm (.creditStall o.entry) (nsec (s3.val 0x2100 7)) else s3
  let member := x.action = actSend || s4.inSwarm (bitField x.w2 27 15)
  let taps := outputsOf (x.outset / 4 * 4)
  if member then
    if taps.isEmpty && x.action = actSendSwarm then s4.bump 0x2150 0x13
    else taps.foldl (fun t out => t.writeChain out c f) s4
  else s4

/-- Write the chains of a frame on a DELIVER entry on this hub's own key: local ports only, no ring journey (R111). -/
def State.launchDeliver (s : State) (o : Offer) : State :=
  let x := s.lookedUp o
  let f := s.offerFrame o ((s.offerHeader o).dest s.ring s.flowNode 0)
  (outputsOf x.outset).foldl (fun t out => t.writeChain out (Fin.ofNat 4 x.cls) f) (s.countSend o f.cells)

/-- The switch core takes no local traffic while block 6 is isolated (R422). -/
def State.coreIsolated (s : State) : Bool := s.isolated 6

/-- A frame of the collector that is not originated counts in NOTIFY_DROPS (R424). -/
def State.dropNote (s : State) (o : Offer) : State := if o.org = .collector then s.bump 0x6000 0xF else s

/-- Try the frame at the head of an originator's queue: sent, discarded, or still waiting. In S3 nothing is originated (R474). A
frame that lacks credit starts the entry's stall time (R124). -/
def State.tryOffer (s : State) (o : Offer) : State × Bool :=
  let x := s.lookedUp o
  if s.coreIsolated || (s.combOff && (o.org = .collector || s.val 0x7000 3 == 3)) then (s.dropNote o, true)
  else if o.org = .collector && o.look.isNone && !s.ownSend o.entry then (s.dropNote o, true)
  else if !x.valid then (s.bump 0x2150 0x15, true)
  else if x.action = actDrop then (s.bump 0x2150 0x14, true)
  else if x.action = actDeliver then (s.launchDeliver o, true)
  else
    match s.gate o with
    | .go => (s.launchSend o, true)
    | .discard => ((s.bump 0x2230 0x11).dropNote o, true)
    | .wait =>
      let s2 := match s.shaperOf 1 o.entry with
        | some i => if s.eligible i (lineBytes o.payload.length) then s else s.shaperWait i (lineBytes o.payload.length)
        | none => s
      let s3 := if !s2.credited o && !s2.sheds o.entry && !s2.armed (.creditStall o.entry) then
        s2.arm (.creditStall o.entry) (nsec (s2.val 0x2100 7)) else s2
      (s3, false)

/-- A frame joins its originator's queue; it keeps what its lookup found. -/
def State.keepWaiting (s : State) (o : Offer) : State :=
  { s with sw := { s.sw with waiting := s.sw.waiting ++ [{ o with look := some (s.lookedUp o) }] } }

/-- Present a frame: behind the frames its originator already has waiting, or at once (R124). -/
def State.present (s : State) (o : Offer) : State :=
  if s.sw.waiting.any fun w => w.org == o.org then s.keepWaiting o
  else
    let r := s.tryOffer o
    if r.2 then r.1 else r.1.keepWaiting o

/-- Go through the waiting frames once, oldest first; a frame that still waits holds back those of its originator. -/
def pumpList : List Offer → List Originator → State → List Offer × State
  | [], _, s => ([], s)
  | o :: l, stuck, s =>
    if stuck.contains o.org then
      let r := pumpList l stuck s
      (o :: r.1, r.2)
    else
      let t := s.tryOffer o
      if t.2 then pumpList l stuck t.1
      else
        let r := pumpList l (o.org :: stuck) t.1
        (o :: r.1, r.2)

/-- Frames an originator has waiting. -/
def State.waitingOf (s : State) (g : Originator) : Nat := (s.sw.waiting.filter fun o => o.org == g).length

/-- Indices of a DMA ring of the host wrap at SIZE (R307). -/
def State.ringSize (s : State) (r : Fin 8) : Nat := s.val (0x8530 + r.val) 3

def State.setDma (s : State) (r : Fin 8) (x : DmaRing) : State := { s with host := { s.host with rings := s.host.rings.set r x } }

/-- A ring's vector is raised, and its moderation starts again (R308). -/
def State.ringVector (s : State) (r : Fin 8) : State :=
  ((s.setDma r { s.host.rings[r] with done := 0 }).disarm (.coalesce r.val)).raiseVector (Fin.ofNat 32 r.val)

/-- A descriptor is done (R307, R308): HEAD moves on and is written back, and the ring's vector follows its moderation. -/
def State.ringDone (s : State) (r : Fin 8) (now : Bool) : State :=
  let o := 0x8530 + r.val
  let x := s.host.rings[r]
  let head := (x.head + 1) % s.ringSize r
  let s1 := s.setDma r { x with head := head, done := x.done + 1, busy := false, irq := false }
  let s2 := if s.val o 5 = 0 then s1 else s1.emit (.dma (s.val o 5) (leBytes 4 head))
  if now || s.val o 7 ≤ x.done + 1 then s2.ringVector r
  else if s2.armed (.coalesce r.val) then s2
  else s2.arm (.coalesce r.val) (nsec (s.val o 6))

/-- The transmit descriptor of a class whose frame has left the host's origination queue is done (R307). -/
def State.hostHeads (s : State) : State :=
  (List.finRange 4).foldl (fun (t : State) c =>
    let r : Fin 8 := Fin.ofNat 8 c.val
    if t.host.rings[r].busy && t.waitingOf (.host c) = 0 then
      (t.bump (0x8530 + c.val) 8).ringDone r t.host.rings[r].irq
    else t) s

/-- Admit what can now leave its originator's queue (R123, R198, R204). The stall time of an entry that nothing waits for ends. -/
def State.pump (s : State) : State :=
  let r := pumpList s.sw.waiting [] s
  let idle := (s.sw.waiting.map (·.entry)).filter fun e => !r.1.any fun o => o.entry == e
  (idle.foldl (fun (t : State) e => t.disarm (.creditStall e)) { r.2 with sw := { r.2.sw with waiting := r.1 } }).hostHeads

/-- The ring's shed level here becomes `level` (R204): the time a frame is held by shedding does not count towards
CREDIT_STALL_LIMIT, so the stall time of an entry shed now stops and starts again when shedding ends. -/
def State.atShedLevel (s : State) (level : Nat) : State :=
  let s1 := (s.setVal 0x2200 8 level).countIgnored (s.val 0x2200 8) (List.range 16)
  let shed := (s1.sw.waiting.map (·.entry)).filter s1.sheds
  (shed.foldl (fun (t : State) e => t.disarm (.creditStall e)) s1).pump

/-- A local originator presents a frame on a FLOW: one lookup on this hub's own key (R105). -/
def State.originate (s : State) (org : Originator) (typ : Fin 16) (flow : Nat) (payload : List Byte) (first last : Bool) :
    State :=
  match s.lookup s.ring s.flowNode flow with
  | none => s.bump 0x2150 0x15
  | some e => s.present { org := org, typ := typ, entry := e, payload := payload, first := first, last := last }

/-- A field port, worker or collector presents a frame on the entry an object names; 0xFFFF names none. -/
def State.originateOn (s : State) (org : Originator) (typ : Fin 16) (entry : Nat) (payload : List Byte) : State :=
  if entry = 0xFFFF then s else s.present { org := org, typ := typ, entry := entry, payload := payload }

end Sys2Proof.Machine
end

