-- ==== Sys2Proof/Machine/Operands.lean ====
section
/-!
DEFINITION. Operand forms: what a fabric offset names (R20, R503), the access checkers (R504, R505), the checks of a
dictionary request in their order (R38), and the transports of dictionary answers (R51, R54).
-/

namespace Sys2Proof.Machine

/-! ### The local offset map and the access checkers -/

/-- Targets of the access checkers (R503); none at 0x6000_0000 and above and in holes of the map. -/
def targetOf (offset : Nat) : Option Nat :=
  if offset < 0x10000000 then (if 0x07010000 ≤ offset && offset < 0x07016000 then some 23 else some 0)
  else if offset < 0x10080000 then some (1 + offset / 0x10000 % 8)
  else if 0x10100000 ≤ offset && offset < 0x10180000 then some (9 + offset / 0x10000 % 8)
  else if 0x10200000 ≤ offset && offset < 0x10280000 then some 17
  else if 0x10300000 ≤ offset && offset < 0x10310000 then some 18
  else if 0x20000000 ≤ offset && offset < 0x30000000 then some 19
  else if 0x30000000 ≤ offset && offset < 0x40000000 then some 20
  else if 0x40000000 ≤ offset && offset < 0x50000000 then some 21
  else if 0x50000000 ≤ offset && offset < 0x60000000 then some 22
  else none

/-- Rights of an access table (R504, R509). -/
inductive Right where
  | read | write | atomicLock | update
  deriving DecidableEq, Repr

/-- The bit of a right in MATCH (R504). -/
def Right.matchBit : Right → Nat
  | .read => 17 | .write => 16 | .atomicLock => 15 | .update => 14

/-- The bit of a right in DEFAULT_RIGHTS (R509). -/
def Right.defaultBit : Right → Nat
  | .read => 3 | .write => 2 | .atomicLock => 1 | .update => 0

/-- One table entry covers an access (R505). -/
def entryMatches (s : State) (mt rg : Nat) (m : MasterId) (lo hi : Nat) : Bool :=
  let nodeIn (n : Nat) := bitField mt 59 47 ≤ n && n ≤ bitField mt 46 34
  mt.testBit 0 && (mt.testBit 1 || s.isLocal m || bitField mt 63 60 == m.ring.val) &&
    (if s.isLocal m then nodeIn 0 || nodeIn s.node else nodeIn m.node.val) &&
    (bitField mt 33 18).testBit m.num.val && bitField rg 63 32 ≤ lo && hi ≤ bitField rg 31 0

/-- What the tables say of an access (R505, steps 4 and 5), for given table values. -/
def tableRights (s : State) (value : Nat → Nat → Nat) (target : Nat) (m : MasterId) (right : Right) (lo hi : Nat) : Bool :=
  match (List.range 64).find? fun k => entryMatches s (value (0x7100 + target) (1 + k)) (value (0x7100 + target) (0x41 + k)) m lo hi with
  | some k => (value (0x7100 + target) (1 + k)).testBit right.matchBit
  | none => (value (0x7100 + target) 0x81).testBit right.defaultBit

/-- Reads that the own USB port always has (R501): objects 0x1000–0x1001, 0x6000–0x6011, 0x6200–0x62FF, the recorder. -/
def serviceRead (offset : Nat) : Bool :=
  (0x01000000 ≤ offset && offset < 0x01002000) || (0x06000000 ≤ offset && offset < 0x06012000) ||
    (0x06200000 ≤ offset && offset < 0x06300000) || (0x30000000 ≤ offset && offset < 0x40000000)

/-- A master is master 0 of the keeper or of the backup keeper of this ring (R505): KEEPER_NODE and BACKUP_NODE. -/
def State.isKeeperMaster (s : State) (m : MasterId) : Bool :=
  m.num.val == 0 && m.ring.val == s.ring &&
    (m.node.val == s.val 0x2401 1 || m.node.val == s.val 0x2401 2)

/-- The access checker of a target lets an access pass (R505); RELEASE_NUMBER is served over USB while both ring ports are
REFUSED (R43). -/
def State.permits (s : State) (rq : Requester) (target : Nat) (right : Right) (lo hi : Nat) : Bool :=
  (s.isLocal rq.master && rq.master.num.val == 0) ||
  (right == .read && s.isLocal rq.master && rq.master.num.val == 2 && serviceRead lo) ||
  (right == .write && rq.via == .usb && lo == 0x01001080 && s.portIs .east .refused && s.portIs .west .refused) ||
  (s.isKeeperMaster rq.master && ((target == 0 && right == .read) || (right == .write && lo / 0x1000 == 0x2420 && lo / 16 % 256 == 9))) ||
  tableRights s s.val target rq.master right lo hi

/-- A refused access counts in REFUSALS and raises ACCESS_REFUSED (R505). -/
def State.refuse (s : State) (rq : Requester) (target lo : Nat) : State :=
  (s.bump (0x7100 + target) 0x82).raise (0x090 + target) 1 corrected
    (packArg [i16 rq.master.node.val, i16 rq.master.num.val, i32 lo])

/-- The window offset of an object's slot (R20). -/
def objOffset (key : Nat) : Nat := 0x1000 * (key / 256) + 16 * (key % 256)

/-- The target whose checker guards an object: 23 for the update objects, else 0 (R503). -/
def objTarget (key : Nat) : Nat := if 0x7010 ≤ key / 256 && key / 256 ≤ 0x7015 then 23 else 0

/-- The right a write of an object needs (R504, R507). -/
def writeRight (key : Nat) : Right := if objTarget key = 23 then .update else .write

/-! ### Dictionary requests -/

/-- A STR value: printable ASCII up to its first 0x00 (R34). -/
def strOk (bs : List Byte) : Bool := (bs.takeWhile fun b => b != 0#8).all fun b => 0x20 ≤ b.toNat && b.toNat ≤ 0x7E

/-- The value that written bytes spell for a type. -/
def valueOf (ty : OType) (bs : List Byte) : Nat :=
  match ty with
  | .str => leNat (bs.takeWhile fun b => b != 0#8)
  | _ => leNat bs

/-- The value is one of the type (R34). -/
def typeOk (ty : OType) (bs : List Byte) : Bool :=
  match ty with
  | .bool => leNat bs ≤ 1
  | .time80 => leNat bs % 2 ^ 32 < 1000000000
  | .str => strOk bs
  | _ => true

/-- The length a write of the type must have (R37, R52). -/
def lengthOk (ty : OType) (n : Nat) : Bool :=
  match ty with
  | .str => 1 ≤ n && n ≤ 16
  | .dom => false
  | _ => n == ty.size

/-! ### Commit groups (R45 to R48) -/

def inSpan (lo hi x : Nat) : Bool := lo ≤ x && x ≤ hi

/-- The commit object of the group that the RWS members of an index belong to, by the chapters' own rules. -/
def groupOf (index : Nat) : Option Nat :=
  if index == 0x2110 then some 0x2111
  else if index == 0x2200 then some 0x2201
  else if inSpan 0x2300 0x23FF index || index == 0x22F1 then some 0x22F0
  else if index == 0x3030 then some 0x3031
  else if inSpan 0x8200 0x821F index then some (index + 0x20)
  else if inSpan 0x8510 0x851F index then some 0x8520
  else if inSpan 0x8530 0x8537 index then some 0x8538
  else if inSpan 0x4008 0x400F index then some (index + 8)
  else if inSpan 0x4028 0x402F index then some (index + 0x10)
  else if inSpan 0x4108 0x410F index || inSpan 0x4200 0x4207 index then some (index + 8)
  else if inSpan 0x4300 0x4303 index || inSpan 0x5110 0x5113 index then some (index + 4)
  else if inSpan 0x5000 0x501F index then some (index + 0x20)
  else if index == 0x5100 then some 0x5101
  else if inSpan 0x7100 0x7117 index then some 0x7118
  else none

/-- Every commit object of the dictionary. -/
def commitObjects : List Nat :=
  [0x2111, 0x2201, 0x22F0, 0x3031, 0x8520, 0x8538, 0x5101, 0x7118] ++ (List.range 32).map (0x8220 + ·) ++
    (List.range 8).map (0x4010 + ·) ++ (List.range 8).map (0x4038 + ·) ++ (List.range 8).map (0x4110 + ·) ++
    (List.range 8).map (0x4208 + ·) ++ (List.range 4).map (0x4304 + ·) ++ (List.range 32).map (0x5020 + ·) ++
    (List.range 4).map (0x5114 + ·)

def State.group (s : State) (g : Nat) : GroupState := (aget s.groups g).getD {}

def State.setGroup (s : State) (g : Nat) (x : GroupState) : State := { s with groups := aput s.groups g x }

/-- STATE of a commit object (R46): 0 IDLE, 1 STAGED, 2 PENDING. -/
def GroupState.code (g : GroupState) : Nat := if g.pending.isSome then 2 else if g.owner.isSome then 1 else 0

/-- The value a set gives an object: its own, else the active one (R47). -/
def State.setValue (s : State) (set : List (Nat × Nat)) (i j : Nat) : Nat := (aget set (objKey i j)).getD (s.val i j)

/-- The staged view of an object (R49): staged, pending, or active. -/
def State.stagedValue (s : State) (key : Nat) : Nat :=
  match groupOf (key / 256) with
  | some g =>
    match (s.group g).pending with
    | some set => s.setValue set (key / 256) (key % 256)
    | none => s.setValue (s.group g).staged (key / 256) (key % 256)
  | none => s.val (key / 256) (key % 256)

/-- Steps 8 and 9 of R38 for a member of a group. -/
def State.groupCheck (s : State) (rq : Requester) (g : Nat) : Result :=
  match (s.group g).owner with
  | some m => if m = rq.master then (if (s.group g).pending.isSome then .stagedPending else .ok) else .inUse
  | none => if (s.group g).pending.isSome then .stagedPending else .ok

/-- Stage a value; the first one claims the group for 10 s (R45). -/
def State.stage (s : State) (rq : Requester) (g key v : Nat) : State :=
  let x := s.group g
  (s.setGroup g { x with staged := aput x.staged key v, owner := some rq.master }).arm (.claim g) (secs 10)

/-- The claim ends and what is staged is discarded (R45). -/
def State.discardStaged (s : State) (g : Nat) : State :=
  (s.setGroup g { s.group g with staged := [], owner := none }).disarm (.claim g)

/-- Store a set's values as the active ones. -/
def State.storeSet (s : State) (set : List (Nat × Nat)) : State :=
  set.foldl (fun t kv => t.setVal (kv.1 / 256) (kv.1 % 256) kv.2) s

/-- An unsaved change of a persistent value: a save starts 2 s after the first one (R40). -/
def State.noteSave (s : State) : State :=
  let s1 := if s.val 0x1010 1 == 2 then s else s.setVal 0x1010 1 1
  if s1.armed .save then s1 else s1.arm .save (secs 2)

/-- The row of an object says that it is persistent. -/
def keyPersistent (key : Nat) : Bool :=
  match objRow? (key / 256) (key % 256) with
  | some r => r.persistent
  | none => false

def State.noteChange (s : State) (key : Nat) : State := if keyPersistent key then s.noteSave else s

/-- A pending set takes effect: its values become active, STATE returns to IDLE, APPLY_COUNT rises (R47). The block's
own consequences are its chapter's. -/
def State.applySet (s : State) (g : Nat) : State :=
  match (s.group g).pending with
  | none => s
  | some set =>
    let x := s.group g
    let s1 := (s.storeSet set).setGroup g { x with pending := none, applyCount := (x.applyCount + 1) % 2 ^ 32 }
    if set.any fun kv => keyPersistent kv.1 then s1.noteSave else s1

/-! ### Dictionary requests -/

/-- The hub runs from USB alone (R459). -/
def State.bench (s : State) : Bool := s.val 0x2420 5 == 7

/-- Steps 1 to 4 of R38: the checker, a management restart, the index, the subindex. -/
def State.checkObject (s : State) (rq : Requester) (key : Nat) (right : Right) : Result :=
  if !s.permits rq (objTarget key) right (objOffset key) (objOffset key + 15) then .accessDenied
  else if s.mgmt.restarting then .busyRetry
  else if (objBlock? (key / 256)).isNone then .noObject
  else if (objRow? (key / 256) (key % 256)).isNone then .noSub
  else .ok

/-- Count and report an access that the checker of the object window refuses (R505). -/
def State.noteRefusal (s : State) (rq : Requester) (key : Nat) (right : Right) : State :=
  if s.permits rq (objTarget key) right (objOffset key) (objOffset key + 15) then s
  else s.refuse rq (objTarget key) (objOffset key)

/-- A named entry is a SEND or SEND_SWARM entry on this hub's own key, or none is named. -/
def State.sendRef (s : State) (v : Nat) : Result := if v == 0xFFFF || s.ownSend v then .ok else .range

/-- The block whose reset or isolation a source's reactions order (R422). -/
def blockOf (source : Nat) : Option Nat :=
  if source == 8 || source == 9 then some (source - 8)
  else if inSpan 0x1C 0x1E source then some (source - 0x1C + 2)
  else if source == 0x1B then some 5
  else if source == 0x10 then some 6
  else if source == 2 then some 7
  else if inSpan 0x40 0x57 source then some (source - 0x40 + 8)
  else if source == 0x58 then some 32
  else if source == 0x59 then some 33
  else if inSpan 0x60 0x7F source then some (34 + (source - 0x60) / 8)
  else if inSpan 0x80 0x8F source then some (34 + (source - 0x80) / 4)
  else none

/-- The write checks of a reaction word (R420). -/
def reactionOk (source v : Nat) : Bool :=
  let bit (k : Nat) : Bool := v.testBit k || v.testBit (16 + k) || v.testBit (32 + k)
  v.testBit 32 && v / 2 ^ 48 == 0 && (List.range 7).all (fun k => !bit (9 + k)) &&
    (!bit 4 || (blockOf source).isSome) && (!bit 5 || ((blockOf source).isSome && blockOf source != some 7))

/-- Two rate overrides may not name one code (R441). -/
def State.overrideClash (s : State) (sub v : Nat) : Bool :=
  v != 0 && (List.range 64).any fun k => k + 1 != sub && s.val 0x6011 (k + 1) != 0 &&
    s.val 0x6011 (k + 1) / 65536 == v / 65536

/-- Step 5 of R38: the role an object's chapter asks for, and the bench state (R459). -/
def State.roleCheck (s : State) (rq : Requester) (key : Nat) : Result :=
  if s.bench then
    (if keyPersistent key || key == objKey 0x1001 8 ||
        (commitObjects.contains (key / 256) && key / 256 != 0x8538 && key % 256 == 1) then .ok else .accessDenied)
  else if key == objKey 0x1001 1 || (0x241004 ≤ key && key ≤ 0x241006) || key == 0x220001 || key == 0x220002 ||
      key == objKey 0x3010 5 then
    (if s.isKeeper then .ok else .readOnly)
  else if key == objKey 0x3010 4 then (if s.isKeeper && s.val 0x3010 1 == 1 then .ok else .readOnly)
  else if key == objKey 0x2420 9 then
    (if s.val 0x2420 5 == 2 && s.isKeeperMaster rq.master then .ok else .accessDenied)
  else .ok

/-- Members in slot 1 that the JOIN_REQs held name, by position. -/
def State.isSlot1 (s : State) (p : Nat) : Bool :=
  s.rs.joins.any fun j => j.position == p && j.flags.testBit 1 && j.flags.testBit 2

/-- The refusals of COMMISSION beyond the keeper's role (R456). -/
def State.commissionCheck (s : State) (v : Nat) : Result :=
  let slots := ((List.range s.rs.counted).filter s.isSlot1).length
  if v ≠ 0x6E756D62 then .range
  else if s.val 0x2400 1 ≠ 0 then .busyRetry
  else if s.rs.map.version ≠ 0 then .inUse
  else if 8190 < 1 + s.val 0x2410 4 * (s.rs.counted - 1) + slots then .range
  else .ok

/-- A write of ACTIVATE (R494, R498): slot s on this hub, or the pair sequence on the primary of a PROTECTED pair whose partner's
running mirror version the image takes. Whether the partner holds the same image is checked with the command. -/
def State.activateCheck (s : State) (v : Nat) : Result :=
  let i := 0x7011 + v % 16
  if v != 0x10 && v != 0x11 && v != 0x20 && v != 0x21 then .range
  else if s.val i 1 != 3 then .imageRefused
  else if v / 16 = 1 then .ok
  else match s.up.heads[(Fin.ofNat 2 v)] with
    | some h =>
      if h.typ == 0x10 && s.val 0x8110 1 == 1 && s.val 0x8110 2 == 1 && decide (h.mirrorMin ≤ s.dx.links[0].mirrorVersion) &&
        decide (s.dx.links[0].mirrorVersion ≤ h.mirrorVersion) then .ok else .imageRefused
    | none => .imageRefused

/-- Step 7 of R38: conditions on a value beyond the range of its own row. -/
def State.valueCheck (s : State) (key v : Nat) : Result :=
  let i := key / 256
  let j := key % 256
  if i == 0x3001 && j == 5 then (if v < s.val 0x3001 6 then .ok else .range)
  else if i == 0x3001 && j == 6 then (if s.val 0x3001 5 < v then .ok else .range)
  else if i == 0x3010 && j == 5 then (if s.val 0x3010 1 == 2 then .range else .ok)
  else if inSpan 0x4000 0x4007 i && j == 3 then (if v == 1 && s.val i 4 == 0 then .range else .ok)
  else if i == 0x8501 then (if v % 0x400000 == 0 && v < 0x60000000 then .ok else .range)
  else if (inSpan 0x4000 0x4007 i && j == 6) || (inSpan 0x4100 0x4107 i && j == 6) || (inSpan 0x5040 0x505F i && j == 2) ||
      (i == 0x6000 && j == 0xD) then s.sendRef v
  else if i == 0x3110 then (if v ≤ s.wag.reports.length then .ok else .range)
  else if inSpan 0x3200 0x3203 i && j ≤ 3 then
    let member (k m : Nat) : Nat := if 0x3200 + k = i && m = j then v else s.val (0x3200 + k) m
    let own := i % 256
    (if member own 1 == 1 && (List.range 4).any fun k => k != own && member k 1 == 1 &&
        (member k 2 == member own 2 || member k 3 == member own 3) then .inUse else .ok)
  else if inSpan 0x3210 0x321F i && j == 1 then
    (if v != 0xFF && (List.range 16).any fun k => 0x3210 + k != i && s.val (0x3210 + k) 1 == v then .inUse else .ok)
  else if i == 0x7010 && j == 4 then s.activateCheck v
  else if i == 0x7010 && j == 9 then
    (let n := if s.val 0x7010 0xA == 3 then 4 else 8
     if v < 2 ^ n && (v == 0 || s.up.channels.any fun c => c.typ == s.val 0x7010 0xA) then .ok else .range)
  else if i == 0x7014 && j == 2 then
    (if v == 0xFFFF || ((s.flowEntry v).isDeliver && (s.flowEntry v).outset.testBit 6) then .ok else .range)
  else if i == 0x7014 && j == 1 then
    (if v == 0xFFFF || ((s.flowEntry v).isDeliver && (s.flowEntry v).outset.testBit 6) then .ok else .range)
  else if i == 0x8110 && j == 4 then (if s.val 0x8110 2 == 1 then .ok else .busyRetry)
  else if i == 0x8310 && j == 3 then (if v ≤ s.val 0x8310 1 then .ok else .range)
  else if i == 0x1001 && j == 8 then
    (if v != 0x66726565 then .range else if s.isKeeper || s.isBackup then .inUse else .ok)
  else if i == 0x1010 && j == 4 then (if v == 0x64666C74 then .ok else .range)
  else if i == 0x6000 && j == 3 then
    (if v != 0x73616665 then .range
     else if s.flag 0x6000 1 && (!s.coll.safeN || (s.val 0x6000 2).testBit 3) then .busyRetry else .ok)
  else if i == 0x6001 && j == 2 then (if v < 38 && s.isolated v then .ok else .range)
  else if i == 0x6010 && j == 6 then (if v == 0x63727973 then .ok else .range)
  else if i == 0x6201 && j == 2 then (if v ≤ s.val 0x6201 1 then .ok else .range)
  else if i == 0x7000 && j == 6 then (if v == 0x72657374 then .ok else .range)
  else if i == 0x2410 && j == 5 then s.commissionCheck v
  else if i == 0x6011 then
    (if s.flag 0x6000 7 then .busyRetry else if v != 0 && v % 256 == 0 then .range
     else if s.overrideClash j v then .inUse else .ok)
  else if inSpan 0x6100 0x6107 i then
    (if s.flag 0x6000 7 then .busyRetry else if reactionOk (i % 256 * 128 + j - 1) v then .ok else .range)
  else .ok

/-- All checks of a write, in the order of R38. -/
def State.checkWrite (s : State) (rq : Requester) (key : Nat) (bytes : List Byte) : Result :=
  match s.checkObject rq key (writeRight key), objRow? (key / 256) (key % 256) with
  | .ok, some r =>
    if r.acc == .const || r.acc == .ro then .readOnly
    else match s.roleCheck rq key with
      | .ok =>
        if !lengthOk r.ty bytes.length then .typeLength
        else if !typeOk r.ty bytes || !r.range.holds (valueOf r.ty bytes) then .range
        else match s.valueCheck key (valueOf r.ty bytes), groupOf (key / 256) with
          | .ok, some g => if r.acc == .rws then s.groupCheck rq g else .ok
          | e, _ => e
      | e => e
  | .ok, none => .noSub
  | e, _ => e

/-- The value that bytes written to an object spell; the reserved bits of a SHED entry are not kept (R9, R209). -/
def writtenValue (key : Nat) (bytes : List Byte) : Nat :=
  match objRow? (key / 256) (key % 256) with
  | some r => if key / 256 == 0x2230 then valueOf r.ty bytes &&& 0xFFFF0003 else valueOf r.ty bytes
  | none => 0

/-- The effect of a write that only stores the value. -/
def storeFx (key v : Nat) (s : State) : State := s.setVal (key / 256) (key % 256) v

/-- A write of one object after its checks: an RWS member is staged, any other write has its own effect (R37, R45). A
request that fails changes nothing but the checker's counts (R38). In the bench state a value is only stored, RELEASE_NUMBER apart
(R459). -/
def State.writeCore (s : State) (rq : Requester) (key : Nat) (bytes : List Byte) (fx : Nat → State → State) :
    State × Result :=
  match s.checkWrite rq key bytes with
  | .ok =>
    let fx := if s.bench && key != objKey 0x1001 8 then storeFx key else fx
    match objRow? (key / 256) (key % 256), groupOf (key / 256) with
    | some r, some g =>
      if r.acc == .rws then (s.stage rq g key (writtenValue key bytes), .ok)
      else ((fx (writtenValue key bytes) s).noteChange key, .ok)
    | _, _ => ((fx (writtenValue key bytes) s).noteChange key, .ok)
  | e => (s.noteRefusal rq key (writeRight key), e)

/-! ### Answers -/

/-- The header of a transfer response (R51, R52). -/
def transferHeader (op res key session len pos : Nat) : List Byte :=
  beBytes 1 (op + 0x80) ++ beBytes 1 res ++ beBytes 2 (key / 256) ++ beBytes 1 key ++ beBytes 1 session ++ beBytes 2 len ++
    beBytes 4 pos

/-- A transfer response on USB with the code it ends in (R54, R500). -/
def State.usbAnswer (s : State) (tag code : Nat) (body : List Byte) : State :=
  ((s.bump 0x7020 3).emit (.usb 0x81 (beBytes 2 0x8100 ++ beBytes 2 tag ++ beBytes 8 (Config.usbTarget tag).toNat ++ body))).setVal 0x1020 9 code

/-- Send a transfer response (R50, R54, R500): a READ_RESP with STATUS OK, or a USB message of KIND 0x81, whose TARGET is open
(DESIGN CHOICE, log entry 10). -/
def State.answerTransfer (s : State) (rq : Requester) (res : Result) (body : List Byte) : State :=
  match rq.via with
  | .usb => s.usbAnswer rq.tag.val res.code body
  | _ =>
    if s.isLocal rq.master then s.emit (.answer rq res body)
    else s.sendFlow0 typReadResp rq.cls.val 0 rq.master.ring.val rq.master.node.val rq.master.num.val rq.tag.val false
      (responseHead 0 0 body.length ++ body)

/-- The CiA 301 abort code of a result (R58). -/
def abortCode : Result → Nat
  | .ok => 0 | .noObject => 0x06020000 | .noSub => 0x06090011 | .accessDenied => 0x06010000 | .readOnly => 0x06010002
  | .typeLength => 0x06070010 | .range => 0x06090030 | .inUse => 0x08000021 | .busyRetry => 0x08000022
  | .commitInconsistent => 0x06040043 | .stagedPending => 0x08000022 | .lockConflict => 0x08000000 | .lockExpired => 0x08000000
  | .farTimeout => 0x05040000 | .nodeUnreachable => 0x08000000 | .versionRetiring => 0x08000022 | .noTarget => 0x06020000
  | .imageRefused => 0x08000020

/-- The SDO server of a CAN port has a response to send (R55). -/
def State.sdoSend (s : State) (n : Fin 8) (data : List Byte) : State :=
  let p := s.can[n]
  { s with can := s.can.set n { p with reply := some (p.next, data), next := p.next + 1 } }

/-- Bytes 1 to 3 of an SDO frame: index and subindex. -/
def sdoMux (key : Nat) : List Byte := leBytes 2 (key / 256) ++ leBytes 1 key

/-- The bytes of an abort (R55). -/
def sdoAbortBytes (key abort : Nat) : List Byte := [0x80#8] ++ sdoMux key ++ leBytes 4 abort

/-- The bytes that end a download (R55): `op` is the first; a segment's names no object. -/
def sdoDoneBytes (op key : Nat) : List Byte :=
  leBytes 1 op ++ (if op = 0x60 then sdoMux key else List.replicate 3 0) ++ List.replicate 4 0

/-- An answer to a dictionary request has not been given yet. -/
def State.dictWaits (s : State) : Bool := s.dx.mirrorWait.any fun w => w.offset < 0x10000000

/-- An answer joins those that wait; no answer overtakes that of an earlier request (R536). -/
def State.queueAnswer (s : State) (rq : Requester) (op key session pos : Nat) (res : Result) (data : List Byte) : State :=
  { s with dx := { s.dx with mirrorWait := s.dx.mirrorWait ++ [{
      number := 65536, requester := rq, offset := objOffset key, len := data.length, result := res, op := op, data := data
      session := session, pos := pos, acked := true, fixed := false : MirrorWait }] } }

/-- A response of the SDO server for an object, in its turn (R55, R536); one that waits keeps its bytes, under operation 0. -/
def State.sdoReply (s : State) (n : Fin 8) (key : Nat) (data : List Byte) : State :=
  if s.dictWaits then s.queueAnswer { master := s.localMaster 3, tag := 0, via := .sdo n, cls := 3 } 0 key 0 0 .ok data
  else s.sdoSend n data

/-- The server's abort of a request, with the result it stands for (R55 to R57). -/
def State.sdoAbort (s : State) (n : Fin 8) (key abort code : Nat) : State :=
  (s.setVal 0x1020 (n.val + 1) code).sdoReply n key (sdoAbortBytes key abort)

/-- The response to a download that ends (R55). -/
def State.sdoDone (s : State) (n : Fin 8) (op key : Nat) (res : Result) : State :=
  if res = .ok then s.sdoReply n key (sdoDoneBytes op key) else s.sdoAbort n key (abortCode res) res.code

/-- An answer of the SDO server whose turn has come. -/
def State.sdoTurn (s : State) (n : Fin 8) (op key : Nat) (res : Result) (data : List Byte) : State :=
  if res = .ok then s.sdoSend n (if op = 0 then data else sdoDoneBytes op key)
  else (s.setVal 0x1020 (n.val + 1) res.code).sdoSend n (sdoAbortBytes key (abortCode res))

/-- The answer to a request to one object, on the transport it came by. -/
def State.sayObj (s : State) (rq : Requester) (op key session pos : Nat) (res : Result) (data : List Byte) : State :=
  match rq.via with
  | .transfer | .usb => s.answerTransfer rq res (transferHeader op res.code key session data.length pos ++ data)
  | .sdo n => s.sdoTurn n op key res data
  | _ => s.answer rq (objOffset key) data.length res data

/-- Answer a request to one object, in its turn (R536). -/
def State.answerObj (s : State) (rq : Requester) (op key session pos : Nat) (res : Result) (data : List Byte) : State :=
  match rq.via with
  | .sdo n => s.sdoDone n op key res
  | _ => if s.dictWaits then s.queueAnswer rq op key session pos res data else s.sayObj rq op key session pos res data

/-! ### Mirrored changes of a duplex pair (R163, R167) -/

/-- KIND and data of a change in MIRROR (R168). The spec names the kinds and lays out no data: the offset, then the bytes; of a window
a byte that tells what is done there (DESIGN CHOICE, log entry 105). -/
def changeBytes (c : MirrorChange) : Nat × List Byte :=
  match c with
  | .dict offset value => (0, beBytes 4 offset.toNat ++ value)
  | .commit index mode => (1, beBytes 2 index.toNat ++ beBytes 1 mode.val)
  | .write offset b => (2, beBytes 1 0 ++ beBytes 4 offset.toNat ++ b)
  | .applyAt time offset b => (2, beBytes 1 1 ++ beBytes 4 offset.toNat ++ beBytes 8 time.toNat ++ b)
  | .read offset len => (2, beBytes 1 2 ++ beBytes 4 offset.toNat ++ beBytes 2 len.val)
  | .lock m b => (2, beBytes 1 3 ++ beBytes 4 m.word ++ b)
  | .block offset b => (3, beBytes 4 offset.toNat ++ b)

/-- The change that a MIRROR payload carries. -/
def mirrorOf (b : List Byte) : Option MirrorChange :=
  let d := b.drop 8
  let at4 (k : Nat) : BitVec 32 := BitVec.ofNat 32 (beAt d k 4)
  if beAt b 6 2 ≠ d.length then none
  else match beAt b 4 1, beAt d 0 1 with
    | 0, _ => some (.dict (at4 0) (d.drop 4))
    | 1, _ => some (.commit (BitVec.ofNat 16 (beAt d 0 2)) (Fin.ofNat 3 (beAt d 2 1)))
    | 2, 0 => some (.write (at4 1) (d.drop 5))
    | 2, 1 => some (.applyAt (BitVec.ofNat 64 (beAt d 5 8)) (at4 1) (d.drop 13))
    | 2, 2 => some (.read (at4 1) (Fin.ofNat 4096 (beAt d 5 2)))
    | 2, 3 => some (.lock (MasterId.ofWord (beAt d 1 4)) (d.drop 5))
    | 3, _ => some (.block (at4 0) (d.drop 4))
    | _, _ => none

/-- The parts in which a change travels: MIRROR holds up to 2,040 bytes of data (R168). -/
def changeParts (c : MirrorChange) : List MirrorChange :=
  match c with
  | .write o b => if b.length ≤ 2035 then [c] else [.write o (b.take 2032), .write (o + 2032) (b.drop 2032)]
  | .block o b => if b.length ≤ 2036 then [c] else [.block o (b.take 2032), .block (o + 2032) (b.drop 2032)]
  | _ => [c]

/-- Send a change to the standby, each part under a number of its own (R167, R168). -/
def State.sendMirror (s : State) (c : MirrorChange) : State :=
  (changeParts c).foldl (fun (t : State) x =>
    ({ t with dx := { t.dx with mirrorNo := (t.dx.mirrorNo + 1) % 65536 } } : State).sendPair
      (beBytes 1 0x12 ++ beBytes 1 0 ++ beBytes 2 t.dx.mirrorNo ++ beBytes 1 (changeBytes x).1 ++ beBytes 1 0 ++
        beBytes 2 (changeBytes x).2.length ++ (changeBytes x).2)) s

/-- Objects that each member of a pair serves itself (R163). -/
def memberOwn (index sub : Nat) : Bool :=
  inSpan 0x1000 0x1001 index || inSpan 0x2000 0x2021 index || inSpan 0x2400 0x2420 index || inSpan 0x6000 0x70FF index ||
    (inSpan 0x8000 0x8FFF index && !(index == 0x8110 && 4 ≤ sub && sub ≤ 9))

/-- Member-own targets of a duplex pair (R163). -/
def memberTarget (offset : Nat) : Bool :=
  offset / 0x10000000 == 3 || (offset < 0x10000000 && memberOwn (offset / 0x1000) (offset / 16 % 256))

/-- Serve a request to a shared target of a pair: its response carries the pair's lower node number (R165). -/
def State.sharedAt (s : State) (offset : Nat) (k : State → State) : State :=
  if s.paired && !memberTarget offset then
    let t := k { s with dx := { s.dx with holding := true } }
    { t with dx := { t.dx with holding := false } }
  else k s

/-- This hub is the primary of a pair whose standby takes changes over (R167). -/
def State.mirroring (s : State) : Bool :=
  s.val 0x8110 1 == 1 && (s.val 0x8110 2 == 1 || (s.dx.links[0].up && (s.val 0x8110 2 == 2 || s.val 0x8110 2 == 3)))

/-- Send a change to the standby and hold its answer until the MIRROR_ACK of its last part (R167). -/
def State.mirror (s : State) (c : MirrorChange) (rq : Requester) (op offset len : Nat) (reply : List Byte := []) : State :=
  let s1 := s.sendMirror c
  let n := (s1.dx.mirrorNo + 65535) % 65536
  (({ s1 with dx := { s1.dx with mirrorWait := s1.dx.mirrorWait ++ [{
      number := n, requester := rq, offset := offset, len := len, result := .ok, op := op, data := reply : MirrorWait }] } } :
    State).bump 0x8110 0xF).arm (.mirrorAck n) (usec 100)

/-- Answer a write: a change of shared state is mirrored first (R167). -/
def State.answerWrite (s : State) (rq : Requester) (op key : Nat) (res : Result) (bytes : List Byte) : State :=
  if res = .ok && s.mirroring && !memberOwn (key / 256) (key % 256) then
    s.mirror (if commitObjects.contains (key / 256) && key % 256 == 1 then .commit (BitVec.ofNat 16 (key / 256)) (Fin.ofNat 3 (leNat bytes))
      else .dict (BitVec.ofNat 32 (objOffset key)) bytes) rq op (objOffset key) bytes.length
  else s.answerObj rq op key 0 0 res []

/-- A write whose answer waits for the standby: what takes it back, if management restarts first (R31; log entry 109). -/
def State.noteOld (s : State) (before : State) (key : Nat) : State :=
  if s.dx.mirrorWait.length ≤ before.dx.mirrorWait.length then s
  else
    let acc := (objRow? (key / 256) (key % 256)).map (·.acc)
    let mark (w : MirrorWait) : MirrorWait :=
      if w.acked then w
      else if acc = some .rw then { w with old := some (before.val (key / 256) (key % 256)), fixed := false }
      else if acc = some .rws then { w with fixed := false } else w
    { s with dx := { s.dx with mirrorWait := s.dx.mirrorWait.dropLast ++ (s.dx.mirrorWait.getLast?.map mark).toList } }

/-- A whole write request to one object: checks, effect, answer (R37, R38). -/
def State.objectWrite (s : State) (rq : Requester) (key : Nat) (bytes : List Byte) (fx : Nat → State → State) : State :=
  let r := s.writeCore rq key bytes fx
  (r.1.answerWrite rq 2 key r.2 bytes).noteOld s key


end Sys2Proof.Machine
end

