-- ==== Sys2Proof/Machine/RingOps.lean ====
section
/-!
DEFINITION. Ring-wide operations that several families share: the time state and the slew (R212, R219, R222), the cycle
and its boundaries (R189), the ring map and the shape of the ring (R143 to R145), the keeper role (R148 to R156).
-/

namespace Sys2Proof.Machine

/-! ### Ring time -/

/-- Time states (R222). -/
inductive TimeState where
  | unset | coarse | fine | single | holdover | keeper
  deriving DecidableEq, Repr

def TimeState.code : TimeState → Nat
  | .unset => 0 | .coarse => 1 | .fine => 2 | .single => 3 | .holdover => 4 | .keeper => 5

def State.timeState (s : State) : Nat := s.val 0x3000 2

/-- STATE is FINE, SINGLE, HOLDOVER or KEEPER: the hub has time to act on (R228). -/
def State.timeGood (s : State) : Bool := 2 ≤ s.timeState

/-- Integer square root, bit by bit. -/
def isqrtLoop : Nat → Nat → Nat → Nat
  | 0, _, r => r
  | k + 1, n, r => isqrtLoop k n (if (r + 2 ^ k) * (r + 2 ^ k) ≤ n then r + 2 ^ k else r)

def isqrt (n : Nat) : Nat := isqrtLoop 40 n 0

/-- The formulas of R223 in ps, rounded to the nearest (DEDUCED from the example at 2.1431, log entry 14). -/
def estTwo (hE hW : Nat) : Nat :=
  (isqrt (57600000000 * (hE * hW) / (hE + hW)) + 1500 * (hE * hW) / (hE + hW) + 1500000 + 500) / 1000

def estOne (h : Nat) : Nat := (isqrt (57600000000 * h) + 750 * h + 1500000 + 500) / 1000

/-- Magnitude in ps of the offset not yet slewed in. -/
def State.leftPs (s : State) : Nat := s.tu.left.natAbs / 2 ^ 32 * 1000 / 65536

/-- EST_ERROR (R222, R223), in ps, saturating. -/
def State.estError (s : State) : Nat :=
  min 0xFFFFFFFF (match s.timeState with
    | 0 => 0xFFFFFFFF
    | 1 => 1000000
    | 2 => estTwo s.tu.east.hops s.tu.west.hops + s.leftPs
    | 3 => estOne (if s.tu.east.ramp < s.val 0x3001 4 then s.tu.west.hops else s.tu.east.hops) + s.leftPs
    | 4 =>
      let ms := (s.uptime - s.tu.lastValid) / msec 1
      s.tu.holdEst + s.leftPs + (if s.val 0x3000 4 == 2 then 50 * ms + 5 * ms * ms / 2000 else 2 * ms)
    | _ => 0)

/-- A change of time state (R222): recorded, and the host's vector 10 (R309). -/
def State.setTimeState (s : State) (n : TimeState) : State :=
  if s.timeState = n.code then s
  else
    let s1 := s.setVal 0x3000 2 n.code
    s1.raise 0xB 1 corrected (packArg [i16 s.timeState, i16 n.code, i32 s1.estError])

/-- Take a new frequency source (R216). -/
def State.setFreqSource (s : State) (n : Nat) : State :=
  if s.val 0x3000 4 == n then s else (s.setVal 0x3000 4 n).bump 0x3002 8

/-- SLEW_LIMIT in 2^-32 of nominal (R233). -/
def State.slewLimit (s : State) : Int := (s.val 0x3001 1 * 2 ^ 32 / 1000000000 : Nat)

/-- Slew out an offset (2^-16 ns) over one cycle, as far as SLEW_LIMIT allows (R219). -/
def State.startSlew (s : State) (offset : Int) : State :=
  let l : Int := (nsec s.cyc.length : Nat)
  let r := max (-s.slewLimit) (min s.slewLimit ((-offset * 2 ^ 32).tdiv l))
  { s with tu := { s.tu with slew := r, left := offset * 2 ^ 32, slewEnd := s.ringTime + nsec s.cyc.length } }

/-- Drop what has not been slewed in (R226). -/
def State.stopSlew (s : State) : State := { s with tu := { s.tu with slew := 0, left := 0 } }

/-- One core tick of ring time (R212): 2.5 ns plus the rate correction; what the slew has not removed by the end of its
cycle is carried into the next (R219). -/
def State.timeTick (s : State) : State :=
  let step : Int := (tickUnits : Nat) * (s.tu.slew + s.tu.held) + s.tu.acc
  let whole := step.fdiv (2 ^ 32)
  let s1 := { s with
    uptime := s.uptime + tickUnits, ringTime := s.ringTime + (tickUnits + whole).toNat,
    tu := { s.tu with acc := step - whole * 2 ^ 32, left := s.tu.left + (tickUnits : Nat) * s.tu.slew } }
  if s1.tu.slew != 0 && s1.tu.slewEnd ≤ s1.ringTime then s1.startSlew (s1.tu.left.tdiv (2 ^ 32)) else s1

/-- Ring time moves by a step (R221): deadlines in ring time keep the moments they name. -/
def State.jump (s : State) (d : Int) : State := { s with ringTime := (s.ringTime + d : Int).toNat }

/-! ### The cycle -/

def State.cycleNumber (s : State) : Nat := s.val 0x2200 4

/-- Active cycle length in 2^-16 ns. -/
def State.cycleUnits (s : State) : Nat := nsec s.cyc.length

/-- The realigned cycle that the next boundary opens (R191): not yet where the mark opened the cycle that is still to come. -/
def State.realignNow (s : State) : Option Realign := s.cyc.realign.filter fun r => r.number != (s.val 0x2200 4 + 2) % 2 ^ 32

/-- The next boundary (R189, R191). -/
def State.nextBoundary (s : State) : Nat :=
  match s.realignNow with
  | some r => r.boundary
  | none => s.cyc.current + s.cycleUnits

/-- Start of the open window (R189). -/
def State.openStart (s : State) : Nat := s.cyc.current + s.cycleUnits * s.cyc.pct / 100

/-- Number of the first boundary of the current cycle train at least 4 ms ahead (R192). -/
def State.cycleAhead (s : State) : Nat :=
  let t := s.ringTime + msec 4
  (s.cycleNumber + (t - s.cyc.current + s.cycleUnits - 1) / s.cycleUnits) % 2 ^ 32

/-- The later of two cycle numbers. -/
def laterCycle (a b : Nat) : Nat := if (b + 2 ^ 32 - a) % 2 ^ 32 < 2 ^ 31 then b else a

/-- Set the deadline of the next boundary. -/
def State.armBoundary (s : State) : State := s.armRing .boundary s.nextBoundary

/-- Set the deadline of the open window (R189). -/
def State.armOpen (s : State) : State := s.armRing .openWindow s.openStart

/-- The hub takes a cycle that the boundary `b` of number `n` opens. -/
def State.enterCycle (s : State) (n b length pct : Nat) : State :=
  (({ s with cyc := { s.cyc with
      have_ := true, boundary0 := b, number0 := n, current := b, length := length, pct := pct } }.setVal 0x2200 4 n).setVal
    0x2200 5 (time80 b)).armBoundary.armOpen

/-! ### Ring map -/

/-- HOLDOVER follows HOLDOVER_AFTER cycles without a valid SYNC, counted from the last one with 1 % to spare (R220; DESIGN
CHOICE, log entry 28). -/
def State.armHoldover (s : State) : State := s.arm .holdover (s.val 0x3001 3 * s.cycleUnits * 101 / 100)

/-- The keeper knows its backup by the number that the map gives it (R182). -/
def State.nameBackup (s : State) : State :=
  match s.rs.map.positions.find? fun (p : MapPos) => s.isKeeper && s.rs.backupSerial != 0 && p.serial == s.rs.backupSerial with
  | some p => s.setVal 0x2401 2 p.node
  | none => s

/-- Replace the ring map held, with the objects that describe it (R460). -/
def State.setMap (s : State) (m : RingMap) : State :=
  (((({ s with rs := { s.rs with map := m } } : State).nameBackup.setVal 0x2410 1 m.version).setVal 0x2410 2 m.positions.length).setVal 0x2410 3
    (m.positions.filter fun (p : MapPos) => p.node != 0).length).noteSave

/-- Place of a hub on the ring map: by its number, else by its serial. -/
def State.placeOf (s : State) (node serial : Nat) : Option Nat :=
  (s.rs.map.positions.findIdx? fun (p : MapPos) => node != 0 && p.node == node).or
    (s.rs.map.positions.findIdx? fun (p : MapPos) => serial != 0 && p.serial == serial)

def State.ownPlace (s : State) : Option Nat := s.placeOf s.node s.ident.serial

/-- Hops in the down-hop set that have a place on the map. -/
def State.downPlaces (s : State) : List Nat := s.rs.down.filterMap (·.index)

/-- Positions reached going east (hop p joins p and p + 1) or west from a place, without a down hop. -/
def runEast (n : Nat) (down : List Nat) : Nat → Nat → Nat
  | 0, _ => 0
  | k + 1, p => if down.contains p then 0 else 1 + runEast n down k ((p + 1) % n)

def runWest (n : Nat) (down : List Nat) : Nat → Nat → Nat
  | 0, _ => 0
  | k + 1, p => if down.contains ((p + n - 1) % n) then 0 else 1 + runWest n down k ((p + n - 1) % n)

/-- How far this hub reaches eastward and westward. -/
def State.reachEast (s : State) (p : Nat) : Nat := runEast s.positions s.downPlaces (s.positions - 1) p
def State.reachWest (s : State) (p : Nat) : Nat := runWest s.positions s.downPlaces (s.positions - 1) p

/-- This hub can reach a place of the ring map (R144). -/
def State.reaches (s : State) (q : Nat) : Bool :=
  match s.ownPlace with
  | none => s.rs.down.isEmpty
  | some p =>
    (q + s.positions - p) % s.positions ≤ s.reachEast p || (p + s.positions - q) % s.positions ≤ s.reachWest p

/-- A node is on the ring map and not cut off (R19, R145). Without a map every node is taken to be reachable. -/
def State.reachesNode (s : State) (node : Nat) : Bool :=
  s.positions == 0 ||
    match s.placeOf node 0 with
    | some q => s.reaches q
    | none => false

/-- A hub is reachable, by its number or serial; one that has no place on the map is taken to be reachable. -/
def State.reachesHub (s : State) (node serial : Nat) : Bool :=
  match s.placeOf node serial with
  | some q => s.reaches q
  | none => true

/-- The ring state (R144): 0 CLOSED, 1 LINE, 2 PARTITIONED. Without a place on a map the cuts alone decide: one cut, or
two with a hub in common, leave a line (DESIGN CHOICE, log entry 15). -/
def State.ringShape (s : State) : Nat :=
  if s.rs.down.isEmpty then 0
  else match s.ownPlace with
    | some _ =>
      if (List.range s.positions).all fun q =>
          s.reaches q || (s.downPlaces.contains q && s.downPlaces.contains ((q + s.positions - 1) % s.positions))
      then 1 else 2
    | none =>
      match s.rs.down with
      | [_] => 1
      | [a, b] => if a.east == b.west || b.east == a.west then 1 else 2
      | _ => 2

/-- Nodes reachable, this hub included. -/
def State.reachable (s : State) : Nat :=
  match s.ownPlace with
  | some p => min s.positions (s.reachEast p + s.reachWest p + 1)
  | none => max 1 s.positions

/-- Node number at a distance east or west of this hub. -/
def State.nodeAt (s : State) (i : Nat) : Nat := (s.rs.map.positions.getD (i % max 1 s.positions) { node := 0 }).node

/-! ### Keeper role -/

def State.term (s : State) : Nat := s.val 0x2401 3

/-- Ranks are compared on priority, then on serial (R147). -/
def outranks (pa sa pb sb : Nat) : Bool := pb < pa || (pa == pb && sb < sa)

/-- The highest-ranked reachable hub other than this one, which may be backup (R151): number and serial. -/
def State.bestBackup (s : State) : Option MapPos :=
  (s.rs.map.positions.filter fun p =>
      p.serial != 0 && p.prio != 0 && p.serial != s.ident.serial && s.reachesHub p.node p.serial).foldl
    (fun acc p => match acc with
      | none => some p
      | some q => if outranks p.prio p.serial q.prio q.serial then some p else acc) none

/-- The priority with which the keeper holds its role: that of the moment it took it, or 0 once it gives it up (R150). -/
def State.keptPriority (s : State) : Nat := if s.rs.resigning then 0 else s.rs.keeperPrio

/-- KEEPER_ANNOUNCE (R146). -/
def State.announcePayload (s : State) : List Byte :=
  beBytes 2 0x0200 ++ beBytes 8 s.ident.serial ++ beBytes 2 s.node ++ beBytes 2 (s.val 0x2401 2) ++
    beBytes 8 s.rs.backupSerial ++ beBytes 1 (s.val 0x2401 4) ++ beBytes 1 s.keptPriority ++ beBytes 4 s.term ++ beBytes 4 0

/-- Send KEEPER_ANNOUNCE and wait 1 s for the next one (R146). -/
def State.announce (s : State) : State := (s.sendRingMsg s.ring 8191 s.announcePayload).arm .announce (secs 1)

/-- Appoint the backup keeper and announce it (R151). A keeper whose KEEPER_PRIORITY is 0 hands over to it (R150). -/
def State.appointBackup (s : State) : State :=
  let b := s.bestBackup
  let node := match b with
    | some p => p.node
    | none => 0
  let serial := match b with
    | some p => p.serial
    | none => 0
  let s1 := { s.setVal 0x2401 2 node with rs := { s.rs with
    backupSerial := serial, resigning := b.isSome && s.val 0x1001 5 == 0 } }
  let s2 := if b.isSome && serial != s.rs.backupSerial then
    s1.raise 0xA 6 corrected (packArg [i16 s.node, i16 node, i32 s.term]) else s1
  s2.announce

/-- The keeper begins to acquire the reference that REFERENCE selects (R227). -/
def State.startReference (s : State) : State :=
  if s.val 0x3010 1 = 0 then (s.setVal 0x3010 6 0).disarm .extLoss
  else (s.setVal 0x3010 6 1).arm .extLoss (nsec (s.val 0x3010 0xA))

/-- A hub that is not keeper steers to nothing; its frequency follows the ring from the next valid SYNC (R215, R227). -/
def State.stopReference (s : State) : State :=
  { (s.setVal 0x3010 6 0).disarm .extLoss with tu := { s.tu with held := 0 } }

/-- This hub takes the keeper role in time and cycle: its ring time goes on, what is not slewed in is dropped, and it is
its own frequency source (R153, R226); with no cycle yet, ring time 0 is BOUNDARY_0 of cycle 0 (R189). It plans within
1 s (R202). -/
def State.takeTimeRole (s : State) : State :=
  let s1 := ((s.stopSlew.setFreqSource 3).setTimeState .keeper).disarm .holdover
  let s2 := ({ s1 with tu := { s1.tu with extFirst := true }, rs := { s1.rs with markAwaited := false } } : State).startReference
  let s3 := if s2.cyc.have_ then s2
    else
      let l := s2.val 0x2200 1
      let n := s2.ringTime / nsec l
      { s2.enterCycle (n % 2 ^ 32) (n * nsec l) l (s2.val 0x2200 2) with cyc := { (s2.enterCycle (n % 2 ^ 32) (n * nsec l) l
          (s2.val 0x2200 2)).cyc with boundary0 := 0, number0 := 0 } }
  s3.arm .replan 0

/-- Take the keeper role (R148, R153, R155): `island` for a segment that reaches neither keeper nor backup. -/
def State.takeKeeper (s : State) (island : Bool) (newTerm : Nat) : State :=
  let old := s.rs.keeperSerial
  let s1 := ((((s.setVal 0x1001 4 1).setVal 0x2401 1 s.node).setVal 0x2401 3 newTerm).setFlag 0x2401 4 island).setVal
    0x2401 0xA old
  let s2 := { (s1.setVal 0x2401 8 0) with
    rs := { s1.rs with
      keeperSerial := s.ident.serial, keeperPrio := s.val 0x1001 5, noKeeper := false, election := none, resigning := false } }
  ((((s2.disarm .electRound2).disarm .electDecision).disarm .electRestart).disarm .lossGuard).takeTimeRole

/-- This hub is the backup and may take the keeper role: a hub with priority 0 never does (R147). -/
def State.mayKeep (s : State) : Bool := s.isBackup && s.val 0x1001 5 != 0

/-- Keeper loss at the backup (R153): it takes the role with the next TERM, announces, appoints and takes up the keeper's duties from
the copies it holds; incomplete ones leave a gap (R151). -/
def State.keeperTakeover (s : State) : State :=
  let old := s.rs.keeperSerial
  let t := (s.term + 1) % 2 ^ 32
  let s1 := (s.takeKeeper (s.flag 0x2401 4) t).bump 0x2401 6
  let s2 : State := { s1 with rs := { s1.rs with gap := s.val 0x2401 8 == 1 } }
  ((s2.raise 0xA 7 contained (packArg [i32 (old % 2 ^ 32), i32 t])).appointBackup).arm .mapUpdate (secs 10)

/-- This hub is eligible for a keeper role (R147). -/
def State.eligibleKeeper (s : State) : Bool := s.val 0x1001 5 != 0

/-- ELECT of a round (R146). -/
def State.sendElect (s : State) (round : Nat) : State :=
  s.sendRingMsg s.ring 8191 (beBytes 2 0x0100 ++ beBytes 8 s.ident.serial ++ beBytes 1 (s.val 0x1001 5) ++
    beBytes 1 (if s.node = 0 then 0 else 1) ++ beBytes 2 s.node ++ beBytes 1 round ++ beBytes 1 0)

/-- This hub's own ELECT, as one that it ranks. -/
def State.ownBid (s : State) : Bid := ⟨s.val 0x1001 5, s.ident.serial, s.node⟩

/-- Start an election at E (R148). -/
def State.startElection (s : State) : State :=
  let s1 := (s.bump 0x2401 7).disarm .discovery
  let s2 := { s1 with rs := { s1.rs with election := some (if s.eligibleKeeper then [s.ownBid] else []) } }
  let s3 := if s.eligibleKeeper then (s2.sendElect 1).arm .electRound2 (msec 10) else s2
  (s3.arm .electDecision (msec 30)).arm .electRestart (msec 100)

/-! ### Hop reports and the ring state -/

/-- What keeper loss the shape of the ring shows (R152, R155). -/
def State.checkKeeperReach (s : State) : State :=
  if s.isKeeper || s.rs.keeperSerial = 0 then
    (if s.isKeeper && s.rs.backupSerial != 0 && !s.reachesHub (s.val 0x2401 2) s.rs.backupSerial then s.appointBackup else s)
  else if s.reachesHub (s.val 0x2401 1) s.rs.keeperSerial then s
  else if s.mayKeep then s.keeperTakeover
  else if (s.rs.backupSerial = 0 || !s.reachesHub (s.val 0x2401 2) s.rs.backupSerial) && s.rs.election.isNone then
    s.startElection
  else s

/-- Deferred planned retrains start 1 s after the ring is closed again, EAST before WEST (R74, R75). -/
def State.armDeferred (s : State) : State :=
  [RingPort.east, RingPort.west].foldl
    (fun t p => if (t.port p).deferred.isEmpty then t else t.arm (.deferredRetrain p) (secs 1)) s

/-- Derive the ring state again and report its change (R144, R145). -/
def State.updateRing (s : State) : State :=
  let shape := s.ringShape
  let s1 := (s.setVal 0x2400 2 s.rs.down.length).setVal 0x2400 3 s.reachable
  let p := s.ownPlace.getD 0
  let s2 := if shape = 0 then (s1.setVal 0x2400 4 0).setVal 0x2400 5 0
    else (s1.setVal 0x2400 4 (s.nodeAt (p + s.positions - s.reachWest p))).setVal 0x2400 5 (s.nodeAt (p + s.reachEast p))
  let s3 := if s.val 0x2400 1 = shape then s2
    else
      let t := (s2.setVal 0x2400 1 shape).setVal 0x2400 6 (time80 s.ringTime)
      let downArg := packArg [i32 s.rs.down.length, i32 s.reachable]
      match shape with
      | 0 => (t.raise 0xA 2 corrected downArg).armDeferred
      | 1 => ((t.raise 0xA 1 corrected downArg).disarm (.deferredRetrain .east)).disarm (.deferredRetrain .west)
      | _ => (((t.bump 0x2400 7).raise 0xA 3 contained (packArg [i16 (t.val 0x2400 4), i16 (t.val 0x2400 5)])).disarm
          (.deferredRetrain .east)).disarm (.deferredRetrain .west)
  s3.checkKeeperReach

/-- Place of a hop on the map by the serials of its ends, else the place it had. -/
def State.hopIndex (s : State) (h : DownHop) : Option Nat :=
  match s.placeOf 0 h.west, s.placeOf 0 h.east with
  | some q, _ => some q
  | none, some q => some ((q + s.positions - 1) % s.positions)
  | none, none => h.index

/-- Take over another ring map: the hops in the sets move to their places on it, and the ring state follows (R143, R144, R460). -/
def State.adoptMap (s : State) (m : RingMap) : State :=
  let t := s.setMap m
  let place (h : DownHop) : DownHop := { h with index := t.hopIndex h }
  ({ t with rs := { t.rs with down := t.rs.down.map place, slow := t.rs.slow.map place } } : State).updateRing

/-- Two reports name the same hop. -/
def sameHop (a b : DownHop) : Bool :=
  (a.index.isSome && a.index == b.index) || (a.west != 0 && a.east != 0 && a.west == b.west && a.east == b.east)

/-- Take a hop report (R143): state 0 DOWN, 1 UP at 2.5, 2 UP at 5.0 Gbit/s. A change of rate makes the keeper plan
(R202). -/
def State.takeReport (s : State) (serial node port state partner : Nat) : State :=
  let here := s.placeOf node serial
  let n := s.positions
  let h : DownHop := if port = 0 then ⟨serial, partner, here, s.uptime⟩
    else ⟨partner, serial, here.map fun q => (q + n - 1) % n, s.uptime⟩
  let wasSlow := s.rs.slow.any (sameHop h)
  let down := s.rs.down.filter fun d => !sameHop h d
  let slow := s.rs.slow.filter fun d => !sameHop h d
  let s1 := { s with
    rs := { s.rs with
      down := if state = 0 then down ++ [h] else down
      slow := if state = 1 then slow ++ [h] else slow }
    cyc := { s.cyc with
      overflowed := if (state = 1) == wasSlow then s.cyc.overflowed
        else s.cyc.overflowed.filter fun k => some k != h.index } }
  let s2 := if s.isKeeper && (state = 1) != wasSlow && state != 0 then s1.arm .replan 0 else s1
  s2.updateRing

/-- Send HOP_REPORT for a port, and take it in this hub's own set (R143; DEDUCED, log entry 16). -/
def State.sendHopReport (s : State) (p : RingPort) : State :=
  let st := if s.isUp p then (s.port p).rate.num else 0
  let s1 := s.sendRingMsg s.ring 8191 (beBytes 2 0x0300 ++ beBytes 8 s.ident.serial ++ beBytes 2 s.node ++ beBytes 1 p.num ++
    beBytes 1 st ++ beBytes 8 (s.portVal p 7) ++ beBytes 2 0)
  let s2 := if s.portVal p 1 == 1 && !s.isUp p then s1.arm (.hopReport p) (secs 1) else s1.disarm (.hopReport p)
  s2.takeReport s.ident.serial s.node p.num st (s.portVal p 7)

end Sys2Proof.Machine
end

