-- ==== Sys2Proof/Machine/Copies.lean ====
section
/-!
DEFINITION. The two settings copies in NOR: their CRC, which of them is valid and newest, and format versions (R33, R40, R44).
-/

namespace Sys2Proof.Machine

/-- The bytes of MAP (R460). -/
def mapBytes (m : RingMap) : List Byte :=
  leBytes 4 m.version ++ leBytes 2 m.positions.length ++ leBytes 1 m.ring ++ leBytes 1 m.stride ++ leBytes 8 0 ++
    (m.positions.map fun p => leBytes 2 p.node ++ leBytes 2 (if p.pass then 1 else 0)).flatten

/-- The bytes of a settings copy under its CRC; the spec does not give their order (DESIGN CHOICE, log entry 110). -/
def setBytes (x : SavedSet) : List Byte :=
  let words (l : List (Nat × List Nat)) : List Byte := (l.map fun p => leBytes 2 p.1 ++ (p.2.map (leBytes 8)).flatten).flatten
  leBytes 4 x.seq ++ leBytes 4 x.release ++ (x.objs.map fun p => leBytes 3 p.1 ++ leBytes 16 p.2).flatten ++ words x.flow ++
    words x.waggles ++ words x.banks ++ leBytes 2 x.node ++ mapBytes x.ringMap ++
    (x.storage.map fun p => leBytes 1 p.1 ++ leBytes 2 p.2.vendor ++ leBytes 4 p.2.device ++ leBytes 4 p.2.checksum ++ p.2.data).flatten

/-- A settings copy with its CRC-32C (R40). -/
def sealSet (x : SavedSet) : SavedSet := { x with crc := crc32c (setBytes x) }

/-- A settings copy that is valid: its CRC matches (R40). -/
def validSet (x : Option SavedSet) : Option SavedSet := x.filter fun y => y.crc == crc32c (setBytes y)

/-- Copy B is the valid copy with the higher sequence number (R40), in the order of a number that wraps (DEDUCED, log
entry 110). -/
def Settings.newestB (x : Settings) : Bool :=
  match validSet x.copyA, validSet x.copyB with
  | some a, some b => (b.seq + 2 ^ 32 - a.seq) % 2 ^ 32 < 2 ^ 31
  | none, some _ => true
  | _, none => false

/-- The valid settings copy with the higher sequence number (R40). -/
def Settings.newest (x : Settings) : Option SavedSet := validSet (if x.newestB then x.copyB else x.copyA)

/-- A management image is on trial (R495). -/
def State.onTrial (s : State) : Bool := s.val 0x7011 1 == 6 || s.val 0x7012 1 == 6

/-- The copy that a save writes: the older one, true for B; on trial the one that the previous image did not write last (R40,
R495). With no valid copy it is A. -/
def State.saveToB (s : State) : Bool :=
  if s.onTrial then !s.up.oldCopy else (validSet s.settings.copyA).isSome && !s.settings.newestB

/-- What an interruption leaves of the two copies: the one being written is lost (R40). -/
def State.cutSave (s : State) : Settings :=
  let a := if s.settings.writing.isSome && !s.saveToB then none else s.settings.copyA
  let b := if s.settings.writing.isSome && s.saveToB then none else s.settings.copyB
  { copyA := a, copyB := b }

/-- An object has the same format version in two releases of the management firmware (R44). -/
def sameFormat (a b key : Nat) : Bool :=
  Config.formatVersion (BitVec.ofNat 32 a) key == Config.formatVersion (BitVec.ofNat 32 b) key

/-- Every persistent object (R40). -/
def persistentKeys : List Nat :=
  (objBlocks.map fun b => ((List.range' b.lo (b.hi - b.lo + 1)).map fun i =>
    (((b.rows.filter fun r => r.persistent).map fun r => (List.range' r.s0 (r.s1 - r.s0 + 1)).map (objKey i)).flatten)).flatten).flatten

end Sys2Proof.Machine
end

