-- ==== Sys2Proof/Machine/SwitchOps.lean ====
section
/-!
DEFINITION. The switch core's inner operations: transit partitions and admission (R98, R99), the fit test and the order of
egress (R186 to R188, R194), resequencers (R125 to R130), sending a frame on a line (R86, R88, R201) and freeing cells of
lossless flows (R122).
-/

namespace Sys2Proof.Machine

/-! ### Line rates -/

/-- Time on the line of a number of bytes at an output, in 2^-16 ns (R62, R194): 5.0 or 2.5 Gbit/s, 10.0 on a board
link. -/
def State.lineTime (s : State) (o : Output) (bytes : Nat) : Nat :=
  let t5 := 524288 * bytes / 5
  match o with
  | .east => if s.east.rate = .fallback then 2 * t5 else t5
  | .west => if s.west.rate = .fallback then 2 * t5 else t5
  | _ => t5 / 2

/-- An output with time gates and fit test: EAST, WEST and board links in board-link mode (R195). -/
def State.gated (s : State) (o : Output) : Bool :=
  match o with
  | .east | .west | .bl0 | .bl1 => true
  | .bl2 => !s.pcieMode
  | _ => false

/-- A gated output has a line that carries frames now. -/
def State.lineUp (s : State) (o : Output) : Bool :=
  match o with
  | .east => s.isUp .east
  | .west => s.isUp .west
  | .bl0 => s.dx.links[0].up
  | .bl1 => s.dx.links[1].up
  | .bl2 => s.dx.links[2].up && !s.pcieMode
  | _ => false

/-- The fit test (R194) for a frame of a class. -/
def State.fits (s : State) (o : Output) (cls len : Nat) : Bool :=
  cls < 2 || (s.openStart ≤ s.ringTime &&
    s.ringTime + s.lineTime o (lineBytes len) + s.lineTime o 64 ≤ s.nextBoundary)

/-! ### Transit partitions -/

/-- The partition of an output, as TRANSIT_DROP and the DROPS counters number them (R98): 0 EAST, 1 WEST, 2 all board links. -/
def partitionOf : Output → Nat
  | .east => 0
  | .west => 1
  | _ => 2

/-- Frames in transit of a partition: those that wait for an output and those still arriving, in cut-through too; cells and cells of
the spill reserve of each (R98). Requests held in S3 stand in the board-link partition (R474). -/
def State.transitFrames (s : State) (o : Output) : List (Nat × Nat) :=
  ((Output.all.filter fun q => partitionOf q == partitionOf o).map fun q =>
      (s.egress q).transit.toList.flatten.map fun f => (f.cells, f.spill)).flatten ++
    ([s.east.rx, s.west.rx].map fun x => match x with
      | some r =>
        if (r.transit ++ (r.cut.map (·.1)).toList).any fun q => partitionOf q == partitionOf o then
          [(cellsOf r.hdr.len.toNat, r.spill)] else []
      | none => []).flatten ++
    (if partitionOf o = 2 then s.pw.held.map fun h => (h.1.cells, 0) else [])

/-- Cells that the frames of a partition hold, and those among them in the spill reserve (R98, R136). -/
def State.transitCells (s : State) (o : Output) : Nat := ((s.transitFrames o).map (·.1)).sum
def State.spillCells (s : State) (o : Output) : Nat := ((s.transitFrames o).map (·.2)).sum

/-- Cells of the EAST and WEST partitions (R98). -/
def partitionCells : Nat := 896

/-- The limit of a partition for a class (R99); without PD1 there is no spill reserve. -/
def State.transitLimit (s : State) (o : Output) (cls : Nat) : Nat :=
  if partitionOf o < 2 then
    if s.combOff then (if cls < 2 then partitionCells else 768) else (if cls < 2 then 2944 else 2560)
  else if cls < 2 then 256 else 192

/-- Cells that a frame draws from the spill reserve: those its partition has no room for (R98). -/
def State.spillFor (s : State) (o : Output) (cells : Nat) : Nat :=
  if partitionOf o < 2 then cells - (partitionCells - (s.transitCells o - s.spillCells o)) else 0

/-- Admit a transit frame of a class and size for an output with the spill it draws, or count its discard (R99, R137). -/
def State.admitTransit (s : State) (o : Output) (cls cells : Nat) : State × Option Nat :=
  let after := s.transitCells o + cells
  let spill := s.spillFor o cells
  if after ≤ s.transitLimit o cls then
    let s1 := if 0 < spill then s.bump 0x2120 3 else s
    let s2 := if partitionOf o < 2 && s1.val 0x2120 (8 + partitionOf o) < after then
      s1.setVal 0x2120 (8 + partitionOf o) after else s1
    (s2, some spill)
  else
    ((s.bump 0x2120 (4 + partitionOf o)).raise 0x10 1 corrected
      (packArg [i16 (partitionOf o), i32 (s.transitCells o)]), none)

/-- A transit frame joins the transit queue of its class (R187). -/
def State.enqueueTransit (s : State) (o : Output) (f : QFrame) : State :=
  let c : Fin 4 := Fin.ofNat 4 f.hdr.cls.toNat
  (s.updEgress o fun g => { g with
    transit := g.transit.set c (g.transit[c] ++ [{ f with since := s.uptime, deferred := false }]) }).bump 0x2120 2

/-- PD1 goes off: frames that hold cells of a spill reserve in the COMB are lost, counted as what the COMB loses (R98, R470, R474). -/
def State.dropSpilled (s : State) (count : State → Output → State) : State :=
  [Output.east, .west].foldl (fun (t : State) o =>
    let lost := ((t.egress o).transit.toList.flatten.filter fun f => 0 < f.spill).length
    (List.range lost).foldl (fun (u : State) _ => count u o)
      (t.updEgress o fun g => { g with transit := g.transit.map fun l => l.filter fun f => f.spill = 0 })) s

/-- A transit frame is admitted and stored for an output, or discarded; one whose output carries no frames is discarded, and counted
at a ring port (R80, R99). -/
def State.storeTransit (s : State) (o : Output) (f : QFrame) : State :=
  if !s.lineUp o then
    match o with
    | .east => s.portBump .east 0x13
    | .west => s.portBump .west 0x13
    | _ => s
  else
    let a := s.admitTransit o f.hdr.cls.toNat f.cells
    match a.2 with
    | some spill => a.1.enqueueTransit o { f with spill := spill }
    | none => a.1

/-! ### Sending -/

/-- The header a transit frame leaves with (R86, R87): link delay of the port it came by and residence, or no stamp where
that port's time path is not ready. -/
def State.onward (s : State) (inPort : Option RingPort) (stamp : Nat) (h : Header) : Header :=
  if h.tsv = 0 then h.sealed
  else match inPort with
    | some p =>
      if s.timePathReady p then (h.addCorr ((s.linkDelay p : Nat) + ((s.ringTime : Int) - stamp))).sealed
      else ({ h with tsv := 0, stamp := 0, corr := 0 } : Header).sealed
    | none => (h.addCorr ((s.ringTime : Int) - stamp)).sealed

/-- The header a local frame leaves with: its own transmit stamp where TSV is set (R86). -/
def State.departing (s : State) (h : Header) : Header :=
  if h.tsv = 0 then h.sealed else (h.stampAt s.ringTime).sealed

/-- What a frame's payload takes from the transmit stamp of its own START word: the origin of a SYNC (R217), the start time of a
RETRAIN_ACK, 10 µs later (R90). -/
def State.departingPayload (s : State) (h : Header) (payload : List Byte) : List Byte :=
  if h.typ.toNat = typSync then
    beBytes 6 (inNs s.ringTime / 1000000000) ++ beBytes 4 (inNs s.ringTime % 1000000000) ++ beBytes 2 (s.ringTime % 65536) ++
      payload.drop 12
  else if h.typ.toNat = typHopMgmt && beAt payload 0 1 = 6 then
    let start := s.ringTime + usec 10
    payload.take 8 ++ beBytes 4 (inNs start / 1000000000) ++ beBytes 4 (inNs start % 1000000000)
  else payload

/-- Count a frame's line bytes in the load of its cycle (R201). -/
def State.countLoad (s : State) (o : Output) (cls len : Nat) : State :=
  let b := lineBytes len
  s.updEgress o fun g => { g with
    sent0 := if cls = 0 then g.sent0 + b else g.sent0,
    sent1 := if cls = 1 then g.sent1 + b else g.sent1,
    sent23 := if 2 ≤ cls then g.sent23 + b else g.sent23,
    c1Late := g.c1Late || (cls == 1 && s.cyc.have_ && decide (s.openStart ≤ s.ringTime)) }

/-- What a HOP_MGMT frame that leaves begins at its own end: t1 of a DELAY_REQ and the 100 µs for its answer (R91, R92), the start
that a RETRAIN_ACK names (R90). -/
def State.noteHopSent (s : State) (o : Output) (h : Header) (payload : List Byte) : State :=
  let p : RingPort := if o = .west then .west else .east
  if h.typ.toNat ≠ typHopMgmt then s
  else if beAt payload 0 1 = 2 then
    match (s.port p).exchange with
    | some (n, none) =>
      if n = beAt payload 2 2 then
        (s.updPort p fun e => { e with exchange := some (n, some s.ringTime) }).arm (.delayResp p) (usec 100)
      else s
    | _ => s
  else if beAt payload 0 1 = 6 && (s.port p).agreed.isSome then s.armRing (.retrainStart p) (s.ringTime + usec 10)
  else s

/-- Put a frame on the line of an output, which it began to occupy `ago` before now: it occupies the line for its line bytes. -/
def State.putOnLine (s : State) (o : Output) (h : Header) (payload : List Byte) (crc : Option Nat) (poison : Bool) (ago : Nat) :
    State :=
  let s1 := (s.emit (.line o h payload crc poison)).updEgress o fun g => { g with
    busy := false, freeAt := max s.uptime (s.uptime + s.lineTime o (lineBytes payload.length) - ago) }
  let s2 := match o with
    | .east => s1.portBump .east 2
    | .west => s1.portBump .west 2
    | _ => s1
  (s2.countLoad o h.cls.toNat payload.length).noteHopSent o h payload

/-- The trailing CRC of a frame that leaves with a header: computed for a frame of this hub, adjusted for one that came by a line
(R88). -/
def departingCrc (f : QFrame) (h : Header) (payload : List Byte) : Nat :=
  match f.came with
  | some (old, crc) => adjustCrc crc old h payload.length
  | none => frameCrc h payload

/-- End the onward copy of a frame in cut-through (R89): with POISON where the frame is bad, with no CRC where its input ended. An
output that has left UP meanwhile sends nothing (R80). -/
def State.endCut (s : State) (r : RxFrame) (payload : List Byte) (crc : Option Nat) (poison : Bool) : State :=
  match r.cut with
  | some (o, h, began) =>
    if s.lineUp o then
      s.putOnLine o h payload (crc.map fun c => adjustCrc c r.raw h payload.length) poison (s.uptime - began)
    else match o with
      | .east => s.portBump .east 0x13
      | .west => s.portBump .west 0x13
      | _ => s
  | none => s

/-! ### Lossless flows at the destination -/

/-- CREDIT grants of the entries of one source (R121, R122). -/
def State.grantOf (s : State) (e : Nat) : List Byte :=
  let x := s.flowEntry e
  beBytes 2 x.flow ++ beBytes 2 x.credit.epoch ++
    beBytes 1 ((if x.lossless then 2 else 0) + (if x.credit.ackDue then 1 else 0)) ++ beBytes 1 0 ++
    beBytes 2 x.credit.acked ++ beBytes 2 x.creditLimit ++ beBytes 2 0 ++ beBytes 4 x.credit.freed

/-- A grant of an entry has been sent: the refresh of a lossless one is due within 10 ms (R122). -/
def State.granted (s : State) (e : Nat) : State :=
  let s1 := s.updFlow e fun y => { y with credit := { y.credit with granted := y.credit.freed, ackDue := false } }
  let s2 := s1.disarm (.creditInterval e)
  if (s.flowEntry e).lossless then s2.arm (.creditRefresh e) (msec 10) else s2

/-- Send the grants of entries that share a source, up to 64 in a CREDIT frame (R121, R122). -/
def State.sendGrants (s : State) (ring node : Nat) (es : List Nat) : State :=
  (List.range ((es.length + 63) / 64)).foldl (fun (t : State) i =>
    let l := (es.drop (64 * i)).take 64
    l.foldl State.granted (t.sendMgmt typCredit 0 0xFFF3 ring node false
      (beBytes 2 l.length ++ beBytes 2 0 ++ (l.map t.grantOf).flatten))) s

/-- Send the grants of entries: those of one source together (R122). -/
def State.grantAll (s : State) (es : List Nat) : State :=
  let src (e : Nat) : Nat × Nat := ((s.flowEntry e).srcRing, (s.flowEntry e).srcNode)
  ((es.map src).eraseDups).foldl (fun (t : State) k => t.sendGrants k.1 k.2 (es.filter fun e => src e == k)) s

/-- Send the grant of one DELIVER entry to its source. -/
def State.sendGrant (s : State) (e : Nat) : State := s.grantAll [e]

/-- New credit epochs of entries, and their grants (R122). -/
def State.newEpochs (s : State) (es : List Nat) : State :=
  let sec := inNs s.ringTime / 1000000000 % 65536
  (es.foldl (fun (t : State) e => t.updFlow e fun y =>
    let ep := if y.credit.begun && y.credit.epoch = sec then (sec + 1) % 65536 else sec
    { y with credit := { y.credit with epoch := ep, freed := 0, granted := 0, live := true, begun := true } }) s).grantAll es

/-- A frame has the source and FLOW of an entry's key as it is now. -/
def FlowEntry.keyOf (x : FlowEntry) (h : Header) : Bool :=
  x.srcRing == h.sRing.toNat && x.srcNode == h.sNode.toNat && x.flow == h.flow.toNat

/-- A frame of an entry has left its output: cells of a lossless flow are freed (R121, R122), those of each chain (log entry 94). -/
def State.freeCells (s : State) (f : QFrame) : State :=
  match f.entry with
  | some d =>
    let x := s.flowEntry d.entry
    if x.isDeliver && x.lossless && x.keyOf f.hdr then
      let s1 := s.updFlow d.entry fun y => { y with
        credit := { y.credit with freed := (y.credit.freed + f.chain.length) % 2 ^ 32 } }
      let grown := ((s1.flowEntry d.entry).credit.freed + 2 ^ 32 - x.credit.granted) % 2 ^ 32
      if x.creditLimit ≤ 4 * grown then s1.sendGrant d.entry
      else if s1.armed (.creditInterval d.entry) then s1 else s1.arm (.creditInterval d.entry) (nsec (s1.val 0x2100 6))
    else s
  | none => s

/-- Note the acknowledgement that a delivered frame asks for (R122). -/
def State.noteAck (s : State) (f : QFrame) : State :=
  match f.entry with
  | some d =>
    if f.hdr.ackreq = 1 && d.action = actDeliver && (s.flowEntry d.entry).keyOf f.hdr then
      let s1 := s.updFlow d.entry fun y => { y with credit := { y.credit with ackDue := true, acked := f.hdr.seq.toNat } }
      if s1.armed (.creditInterval d.entry) then s1 else s1.arm (.creditInterval d.entry) (nsec (s1.val 0x2100 6))
    else s
  | none => s

/-! ### Resequencers (R125 to R130) -/

/-- Advance NEXT over numbers, each marked released or skipped. -/
def Reseq.mark (r : Reseq) (released : Bool) : Reseq :=
  { r with next := (r.next + 1) % 65536, record := (r.record * 2 + (if released then 1 else 0)) % 2 ^ 256 }

def Reseq.skipTo (r : Reseq) (n : Nat) : Reseq :=
  { r with next := n, record := (r.record * 2 ^ min 256 ((n + 65536 - r.next) % 65536)) % 2 ^ 256 }

/-- Held frames whose SEQ equals NEXT, one after the other. -/
def Reseq.drain : Nat → Reseq → Reseq × List (QFrame × List Chain)
  | 0, r => (r, [])
  | k + 1, r =>
    match r.held with
    | (q, f, o) :: l =>
      if q = r.next then
        let x := ({ r with held := l } : Reseq).mark true
        let y := Reseq.drain k x
        (y.1, (f, o) :: y.2)
      else (r, [])
    | [] => (r, [])

/-- The place of a held frame: rising distance from NEXT. -/
def insertHeld (next : Nat) : List (Nat × QFrame × List Chain) → Nat × QFrame × List Chain →
    List (Nat × QFrame × List Chain)
  | [], x => [x]
  | y :: l, x =>
    if (x.1 + 65536 - next) % 65536 < (y.1 + 65536 - next) % 65536 then x :: y :: l else y :: insertHeld next l x

/-- What a deadline does (R127): the state, the frames released, the numbers skipped. -/
def Reseq.expire (r : Reseq) : Reseq × List (QFrame × List Chain) × Nat :=
  match r.held with
  | (q, _, _) :: _ =>
    let x := Reseq.drain 33 (r.skipTo q)
    (x.1, x.2, (q + 65536 - r.next) % 65536)
  | [] => (r, [], 0)

/-- All held frames in order, the numbers between them skipped (R115, R126 Jump). -/
def Reseq.flush : Nat → Reseq → Reseq × List (QFrame × List Chain) × Nat
  | 0, r => (r, [], 0)
  | k + 1, r =>
    if r.held.isEmpty then (r, [], 0)
    else
      let x := r.expire
      let y := Reseq.flush k x.1
      (y.1, x.2.1 ++ y.2.1, x.2.2 + y.2.2)

/-- What the state decides on a good copy (R126). -/
inductive Decision where
  | release | hold | duplicate | late | stale | jump
  deriving DecidableEq, Repr

def Reseq.decide (r : Reseq) (seq : Nat) : Decision :=
  let d := (seq + 65536 - r.next) % 65536
  if d = 0 then .release
  else if d ≤ 255 then (if r.held.any fun h => h.1 == seq then .duplicate else .hold)
  else if d ≤ 32767 then .jump
  else if d ≤ 65279 then .stale
  else if r.record.testBit (65535 - d) then .duplicate
  else .late

end Sys2Proof.Machine
namespace Sys2Proof

/-- Key of a resequencer in the switch's table. -/
def ReseqId.key : ReseqId → Nat
  | .entry e => e.val
  | .request ring node => 65536 + 8192 * ring.val + node.val

/-- The entry that a resequencer's events name (R127, R133). -/
def ReseqId.entryNo : ReseqId → Nat
  | .entry e => e.val
  | .request _ _ => 0xFFFF

end Sys2Proof
namespace Sys2Proof.Machine

def State.reseq (s : State) (id : ReseqId) : Option Reseq := aget s.sw.reseq id.key

def State.setReseq (s : State) (id : ReseqId) (r : Reseq) : State :=
  { s with sw := { s.sw with reseq := aput s.sw.reseq id.key r } }

def State.dropReseq (s : State) (id : ReseqId) : State :=
  (({ s with sw := { s.sw with reseq := adel s.sw.reseq id.key } } : State).disarm (.holdDeadline id)).disarm (.resyncIdle id)

/-- Release a frame into the output queues of its written chains (R125), in the class of its descriptor (R108). -/
def State.releaseFrame (s : State) (f : QFrame) (chains : List Chain) : State :=
  let c : Fin 4 := Fin.ofNat 4 (match f.entry with
    | some d => d.cls
    | none => f.hdr.cls.toNat)
  let s1 := chains.foldl (fun t x => t.enqueue x.out c { f with chain := x.cells }) s
  let s2 := match f.entry with
    | some d => s1.updFlow d.entry fun x => { x with frames := (x.frames + 1) % 2 ^ 32 }
    | none => s1
  s2.noteAck f

def State.releaseAll (s : State) (l : List (QFrame × List Chain)) : State := l.foldl (fun t x => t.releaseFrame x.1 x.2) s

/-- Count skipped numbers; the first in a whole second raises RESEQ_GAP (R126, R127). -/
def State.countGaps (s : State) (id : ReseqId) (n : Nat) : State :=
  if n = 0 then s
  else
    let s1 := s.addVal 0x2150 0xD n
    let s2 := match id with
      | .entry e => s1.updFlow e.val fun x => { x with gaps := min 0xFFFF (x.gaps + n) }
      | .request _ _ => s1
    if s2.sw.gapRaised then s2
    else ({ s2 with sw := { s2.sw with gapRaised := true } } : State).raise 0x10 5 corrected (packArg [i16 id.entryNo, i32 n])

/-- The hold time of a state (R127). -/
def State.holdTime (s : State) (id : ReseqId) : Nat :=
  match id with
  | .entry e => if (s.flowEntry e.val).hold = 0 then nsec (s.val 0x2100 1) else usec (s.flowEntry e.val).hold
  | .request _ _ => nsec (s.val 0x2100 1)

/-- Free hold places of the hub (R128). -/
def State.holdFree (s : State) : Nat := 4096 - (s.sw.reseq.map fun r => r.2.held.length).sum

/-- Store a state after a decision, release what it gave out, count its gaps, and keep its deadline only while frames are
held. -/
def State.settleReseq (s : State) (id : ReseqId) (r : Reseq) (out : List (QFrame × List Chain)) (gaps : Nat) : State :=
  let s1 := ((s.setReseq id r).releaseAll out).countGaps id gaps
  if r.held.isEmpty then s1.disarm (.holdDeadline id) else s1

/-- Act as at the deadline (R127): frames still held get a new one. Each such act counts in HOLD_EXPIRIES (log entry 96). -/
def State.expireHold (s : State) (id : ReseqId) (r : Reseq) : State :=
  let x := r.expire
  let s1 := (s.settleReseq id x.1 x.2.1 x.2.2).bump 0x2150 0xF
  if x.1.held.isEmpty then s1 else s1.arm (.holdDeadline id) (s.holdTime id)

/-- Hold a copy, with the deadline of R127 or R130: its arrival is the moment at which it is found good (log entry 95). -/
def State.holdCopy (s : State) (id : ReseqId) (r : Reseq) (seq : Nat) (f : QFrame) (chains : List Chain) (fresh : Bool) :
    State :=
  let r1 := { r with held := insertHeld r.next r.held (seq, f, chains) }
  let s1 := s.setReseq id r1
  let heal := nsec (s.val 0x2100 2)
  if r.held.isEmpty then s1.arm (.holdDeadline id) (if fresh && heal != 0 then heal else s.holdTime id)
  else if fresh && heal != 0 then
    match s.deadline (.holdDeadline id) with
    | some d => s1.arm (.holdDeadline id) (max (d.at_ - s.uptime) heal)
    | none => s1.arm (.holdDeadline id) heal
  else s1

/-- Take a good copy through R126 and R128 once the state has room. A copy that is discarded frees its cells. -/
def State.decideCopy (s : State) (id : ReseqId) (r : Reseq) (seq : Nat) (f : QFrame) (chains : List Chain) (fresh : Bool) :
    State :=
  match r.decide seq with
  | .release =>
    let x := Reseq.drain 33 (r.mark true)
    s.settleReseq id x.1 ((f, chains) :: x.2) 0
  | .duplicate => ((s.setReseq id r).bump 0x2150 0xA).noteDrains chains
  | .late =>
    let s1 := ((s.setReseq id r).bump 0x2150 0xB).noteDrains chains
    match id with
    | .entry e => s1.updFlow e.val fun x => { x with late := min 0xFFFF (x.late + 1) }
    | .request _ _ => s1
  | .stale => ((s.setReseq id r).bump 0x2150 0xC).noteDrains chains
  | .jump =>
    let x := Reseq.flush 33 r
    let n := (seq + 65536 - x.1.next) % 65536
    (s.settleReseq id ((x.1.skipTo seq).mark true) (x.2.1 ++ [(f, chains)]) (x.2.2 + n)).bump 0x2150 0xE
  | .hold =>
    if s.holdFree = 0 && r.held.isEmpty then
      let n := (seq + 65536 - r.next) % 65536
      s.settleReseq id ((r.skipTo seq).mark true) [(f, chains)] n
    else s.holdCopy id r seq f chains fresh

/-- A resequencer records a SEQ as released: its copies are discarded at their header (R125). -/
def State.knownSeq (s : State) (id : ReseqId) (seq : Nat) : Bool :=
  match s.reseq id with
  | some r => r.decide seq == .duplicate && decide (65280 ≤ (seq + 65536 - r.next) % 65536)
  | none => false

/-- A copy of a flow has come by a ring port, or by none: its port was heard, and RESYNC_IDLE runs again (R125, R129). -/
def Reseq.heard (r : Reseq) (now : Nat) (p : Option RingPort) : Reseq := { r with
  lastCopy := now
  seenEast := if p = some .east then some now else r.seenEast
  seenWest := if p = some .west then some now else r.seenWest }

/-- A copy whose SEQ has been released is discarded at its header (R125). -/
def State.dropKnown (s : State) (id : ReseqId) (p : Option RingPort) : State :=
  let s1 := (s.arm (.resyncIdle id) (nsec (s.val 0x2100 4))).bump 0x2150 0xA
  match s1.reseq id with
  | some r => s1.setReseq id (r.heard s.uptime p)
  | none => s1

/-- A good copy reaches its resequencer (R125 to R130), with the chains that were written. -/
def State.resequence (s : State) (id : ReseqId) (p : Option RingPort) (f : QFrame) (chains : List Chain) : State :=
  let seq := f.hdr.seq.toNat
  let idle := nsec (s.val 0x2100 3)
  let seen (x : Option Nat) : Bool := match x with
    | some t => s.uptime - t ≤ idle
    | none => false
  let s1 := s.arm (.resyncIdle id) (nsec (s.val 0x2100 4))
  match s1.reseq id with
  | none =>
    s1.settleReseq id ((⟨(seq + 1) % 65536, 1, [], none, none, s.uptime⟩ : Reseq).heard s.uptime p) [(f, chains)] 0
  | some r =>
    let fresh := match p with
      | some .east => !seen r.seenEast
      | some .west => !seen r.seenWest
      | none => false
    let r1 := r.heard s.uptime p
    if r1.decide seq = .hold && (r1.held.length = 32 || s1.holdFree = 0) then
      let s2 := if s1.holdFree = 0 then (s1.bump 0x2150 0x10).raise 0x10 6 corrected (packArg [i16 id.entryNo]) else s1
      let s3 := if r1.held.isEmpty then s2.setReseq id r1 else s2.expireHold id r1
      s3.decideCopy id ((s3.reseq id).getD r1) seq f chains fresh
    else s1.decideCopy id r1 seq f chains fresh

/-! ### Order of egress (R186 to R188) -/

/-- A frame chosen to leave: from the transit or the local queue of a class. -/
structure Choice where
  cls : Fin 4
  transit : Bool
  deriving DecidableEq, Repr

/-- The head of a class at an output: transit before local (R187). -/
def Egress.headOf (g : Egress) (c : Fin 4) : Option (Bool × QFrame) :=
  match g.transit[c], g.local_[c] with
  | f :: _, _ => some (true, f)
  | [], f :: _ => some (false, f)
  | [], [] => none

/-- Take the head of a class away. -/
def Egress.take (g : Egress) (c : Fin 4) (transit : Bool) : Egress :=
  if transit then { g with transit := g.transit.set c (g.transit[c].drop 1) }
  else { g with local_ := g.local_.set c (g.local_[c].drop 1) }

/-- The head of a class may start now: its queue shaper lets it (R197; never transit, never C0) and, at a gated output, it
passes the fit test. -/
def State.mayStart (s : State) (o : Output) (c : Fin 4) (h : Bool × QFrame) : Bool :=
  (h.1 || c.val = 0 || (match s.shaperOf 2 (o.num * 4 + c.val) with
    | some i => s.eligible i (lineBytes h.2.payload.length)
    | none => true)) && (!s.gated o || s.fits o c.val h.2.payload.length)

/-- The class of deficit round robin that sends next (R188): its turn, its deficits and the class chosen. -/
def drr : Nat → Nat × Nat → Nat → (Nat → Option Nat) → (Nat → Bool) → Nat → Nat → Option (Nat × Nat × Nat × Nat)
  | 0, _, _, _, _, _, _ => none
  | k + 1, (w2, w3), turn, bytes, ok, d2, d3 =>
    if !(ok 2 || ok 3) then none
    else
      let c := 2 + turn % 2
      let d := if c = 2 then d2 else d3
      match bytes c with
      | some b =>
        if ok c && b ≤ d then some (c, turn % 2, if c = 2 then d2 - b else d2, if c = 2 then d3 else d3 - b)
        else if c = 3 then drr k (w2, w3) 0 bytes ok (d2 + 128 * w2) (d3 + 128 * w3)
        else drr k (w2, w3) 1 bytes ok d2 d3
      | none =>
        if c = 3 then drr k (w2, w3) 0 bytes ok (d2 + 128 * w2) (128 * w3)
        else drr k (w2, w3) 1 bytes ok 0 d3

/-- The shaper of a queue whose local head is not eligible waits on the wheel (R198). -/
def State.noteShaper (s : State) (o : Output) (c : Fin 4) : State :=
  match (s.egress o).headOf c, s.shaperOf 2 (o.num * 4 + c.val) with
  | some (false, f), some i =>
    if s.eligible i (lineBytes f.payload.length) then s else s.shaperWait i (lineBytes f.payload.length)
  | _, _ => s

/-- Note the head frames that the fit test keeps back, each once (R194), and shapers that wait (R198). -/
def State.noteHeads (s : State) (o : Output) : State :=
  [(2 : Fin 4), 3].foldl (fun t0 c =>
    let t := t0.noteShaper o c
    match (t.egress o).headOf c with
    | some (tr, f) =>
      if t.gated o && !f.deferred && !t.fits o c.val f.payload.length then
        let set1 (l : List QFrame) : List QFrame := match l with
          | x :: r => { x with deferred := true } :: r
          | [] => []
        let t2 := t.updEgress o fun g =>
          if tr then { g with transit := g.transit.set c (set1 g.transit[c]) }
          else { g with local_ := g.local_.set c (set1 g.local_[c]) }
        t2.bump (0x2220 + min o.num 2) 6
      else t
    | none => t) (s.noteShaper o 1)

/-- No class may start: an emptied class loses its deficit (R188). -/
def Egress.idleDeficits (g : Egress) : Egress := { g with
  deficit2 := if (g.headOf 2).isNone then 0 else g.deficit2
  deficit3 := if (g.headOf 3).isNone then 0 else g.deficit3 }

/-- Choose the next frame of an output (R186): its class, where it stands, the frame, and the output after the choice. -/
def State.choose (s : State) (o : Output) : Option (Choice × QFrame × Egress) :=
  let g := s.egress o
  let try_ (c : Fin 4) : Option (Choice × QFrame × Egress) :=
    match g.headOf c with
    | some h => if s.mayStart o c h then some (⟨c, h.1⟩, h.2, g.take c h.1) else none
    | none => none
  match try_ 0, try_ 1 with
  | some x, _ => some x
  | none, some x => some x
  | none, none =>
    let bytes (n : Nat) : Option Nat := (g.headOf (Fin.ofNat 4 n)).map fun h => lineBytes h.2.payload.length
    let ok (n : Nat) : Bool := match g.headOf (Fin.ofNat 4 n) with
      | some h => s.mayStart o (Fin.ofNat 4 n) h
      | none => false
    match drr 64 (s.val 0x2210 1, s.val 0x2210 2) g.turn bytes ok g.deficit2 g.deficit3 with
    | some (c, turn, d2, d3) =>
      match g.headOf (Fin.ofNat 4 c) with
      | some h => some (⟨Fin.ofNat 4 c, h.1⟩, h.2,
          { g.take (Fin.ofNat 4 c) h.1 with turn := turn, deficit2 := d2, deficit3 := d3 })
      | none => none
    | none => none

/-- Tokens of the queue shaper of a local class head that leaves (R197, R198). -/
def State.chargeQueue (s : State) (o : Output) (c : Choice) (f : QFrame) : State :=
  if c.transit || c.cls.val = 0 then s
  else match s.shaperOf 2 (o.num * 4 + c.cls.val) with
    | some i => s.takeTokens i (lineBytes f.payload.length)
    | none => s

end Sys2Proof.Machine
end

