-- ==== Sys2Proof/Machine/PortLink.lean ====
section
/-!
DEFINITION. The ring ports (ch. 03): enabling, training, refusals, margins, fallback and up-rate, retrains, link loss,
neighbours and link delay.
-/

namespace Sys2Proof.Machine

/-! ### Moves of a ring port -/

/-- Send a HOP_MGMT frame at once, ahead of a port that is about to leave UP (R79). -/
def State.sendHopNow (s : State) (p : RingPort) (payload : List Byte) : State :=
  let r := s.takeMgmtSeq 0xFFFF
  let h := { ((r.2.ownHeader typHopMgmt 0 0 0xFFFF r.1 payload.length).dest s.ring 8191 0) with hops := 1 }
  ((r.2.emit (.line (Output.ofPort p) (h.onPort p).sealed payload (some (frameCrc (h.onPort p).sealed payload)) false)).portBump p 2)

/-- Frames that wait for a port that has left UP are discarded and counted (R80). -/
def State.flushPort (s : State) (p : RingPort) : State :=
  let g := s.egress (Output.ofPort p)
  let n := g.transit.toList.flatten.length + g.local_.toList.flatten.length
  (s.setEgress (Output.ofPort p) { g with
    transit := Vector.replicate 4 [], local_ := Vector.replicate 4 [], busy := false, freeAt := s.uptime }).addVal (0x2010 + p.num) 0x13 n

/-- A frame whose end has not arrived when its port leaves UP: its onward copy ends with POISON, its chains are freed (R80, R89). -/
def State.cutRx (s : State) (p : RingPort) : State :=
  match (s.port p).rx with
  | none => s
  | some r =>
    let s1 := (s.updPort p fun e => { e with rx := none }).endCut r [] none true
    match r.local_ with
    | some l => s1.noteDrains l.2.2
    | none => s1

/-- A port leaves UP, or moves between states other than UP (R68, R80, R91): no frame is taken or sent, the time path is
not ready, and a frequency taken from it is held (R215). -/
def State.leaveUp (s : State) (p : RingPort) (st : PortState) : State :=
  let wasUp := s.isUp p
  let s1 := ((s.cutRx p).setPortState p st).updPort p fun e => { e with
    delays := [], rejects := [], exchange := none, requested := none, agreed := none, asked := none, slowSince := none,
    slowMargins := [], crcTimes := [], upSince := none, phyToo := false, cap := if wasUp then none else e.cap }
  let s2 := [Alarm.marginTick p, .neighbour p, .delayReq p, .delayResp p, .fallbackHold p, .retrainStart p].foldl
    State.disarm s1
  let s3 := ((s2.setDelayVal p 8 0).setDelayVal p 2 0).flushPort p
  let s4 := if s3.val 0x3000 4 == p.num && !s3.isKeeper then s3.setFreqSource 2 else s3
  if wasUp then s4.sendHopReport p else s4

/-- Start a training attempt from DETECT (R68); a training shadows the port's detectors for 150 ms (R422). -/
def State.enterDetect (s : State) (p : RingPort) (waits : Nat) : State :=
  (((s.leaveUp p .detect).disarm (.trainRetry p)).arm (.detect p) (msec 20)).openShadow (portShadowCodes p) (msec 150) 0 waits

/-- A ring port that the cluster mode uses, whose transit buffer has passed its self-test, and that is not isolated (R159, R422,
R445). -/
def State.portAllowed (s : State) (p : RingPort) : Bool :=
  !(s.val 0x2420 4).testBit 2 && !s.isolated p.num &&
    match s.dx.mode with
    | 1 => s.ident.clusterId == 0
    | 2 => if s.ident.clusterId == 0 then p == .west else p == .east
    | _ => true

/-- Start training on an enabled port (R68, R447). -/
def State.startPort (s : State) (p : RingPort) : State :=
  if s.portVal p 1 == 1 && s.portAllowed p && s.portIs p .down then (s.enterDetect p 0).arm (.hopReport p) (secs 1) else s

/-- Both ring ports train together (R447). -/
def State.startPorts (s : State) : State := (s.startPort .east).startPort .west

/-- A failed training is counted and recorded with the last margins (R68, R93). -/
def State.countFail (s : State) (p : RingPort) (m : Margins) : State :=
  let run := (s.port p).failRun + 1
  let s1 := (s.portBump p 0x12).updPort p fun e => { e with failRun := run, running := none }
  s1.portEvent p 6 (if run < 10 then corrected else contained) (packArg [i32 m.v, i32 m.h])

/-- A full training fails (R68): it is tried again after 1 s. -/
def State.trainFail (s : State) (p : RingPort) (m : Margins) : State :=
  (((s.countFail p m).leaveUp p .detect).disarm (.detect p)).arm (.trainRetry p) (secs 1)

/-- A fast retrain fails (R68): full training from DETECT follows at once. -/
def State.fastFail (s : State) (p : RingPort) (m : Margins) : State := (s.countFail p m).enterDetect p 0

/-- The first port UP starts keeper discovery (R448). -/
def State.startDiscovery (s : State) : State :=
  if s.rs.keeperSerial == 0 && s.rs.election.isNone && !s.armed .discovery then
    let s1 := if s.val 0x2420 1 == 4 then s.setVal 0x2420 1 5 else s
    (s1.arm .discovery (nsec (s.val 0x2420 7))).arm .keeperQuery 0
  else s

/-- A port goes UP at a rate (R68, R91, R143, R448); another rate asks for a new baseline of MARGIN_V (R467). -/
def State.goUp (s : State) (p : RingPort) (rate : LineRate) : State :=
  let s1 := s.updPort p fun e => { e with
    rate := rate, failRun := 0, running := none, upSince := some s.uptime, rebaseV := e.rebaseV || e.rate != rate,
    slowSince := if rate = .fallback then some s.uptime else none, slowMargins := [], cap := none, phyToo := false }
  let s2 := ((s1.setPortVal p 6 0).setPortState p .up)
  let s3 := ((s2.arm (.marginTick p) (msec 100)).arm (.neighbour p) 0).arm (.delayReq p) 0
  (s3.sendHopReport p).startDiscovery

/-- Slot that holds a ring PHY image which has been verified or is being activated (R497). -/
def State.phySlot (s : State) : Option (Fin 2) :=
  (List.finRange 2).find? fun k => s.val (0x7011 + k.val) 2 == 0x11 && (s.val (0x7011 + k.val) 1 == 3 || s.val (0x7011 + k.val) 1 == 4)

/-- A retrain for a PHY image has ended UP: the port runs the new image, and when both do, it goes into the PHY area and its slot
becomes EMPTY (R497). -/
def State.phyLoaded (s : State) (p : RingPort) : State :=
  match s.phySlot with
  | none => s
  | some k =>
    let v := s.val (0x7011 + k.val) 3
    let runs := match p with
      | .east => (some v, s.up.phyRuns.2)
      | .west => (s.up.phyRuns.1, some v)
    let s1 : State := { s with up := { s.up with phyRuns := runs } }
    let s2 := if p = .east && s1.up.phy.isSome then s1.arm .phyWest (secs 1) else s1
    if runs == (some v, some v) then
      let s3 : State := { (s2.disarm .phyWest).disarm .phyEast with
        ident := { s2.ident with phyVersion := v }
        up := { s2.up with phyRuns := (none, none), phy := none, heads := s2.up.heads.set k none } }
      ([1, 2, 3, 4, 5, 6].foldl (fun (t : State) j => t.setVal (0x7011 + k.val) j 0) s3).raise 5 3 corrected
        (packArg [i16 k.val, i16 0x11, i32 v])
    else s2

/-- A port fails to train on a new PHY image: it keeps the image of the PHY area (R497). -/
def State.phyFailed (s : State) (p : RingPort) : State :=
  if s.phySlot.isSome then s.raise 5 6 contained (packArg [i16 0x11, i16 p.num]) else s

/-- Two crossed requests make one retrain: the lower rate, and full before fast (R76); its reason is that of the request at the
fallback rate, this end's first (log entry 97). -/
def mergeRetrain (a b : Retrain) : Retrain :=
  ⟨if a.rate = .fallback ∨ b.rate = .fallback then .fallback else .full, a.full || b.full,
    if a.rate = .fallback then a.reason else b.reason⟩

/-- A retrain at no more than both ends permit (R69, R94). -/
def State.permitted (s : State) (p : RingPort) (r : Retrain) : Retrain :=
  if s.portVal p 2 = 1 || (s.port p).partnerRate = .fallback then { r with rate := .fallback } else r

/-- Ask the partner for a retrain (R72, R90). -/
def State.requestRetrain (s : State) (p : RingPort) (r : Retrain) : State :=
  (s.updPort p fun e => { e with requested := some r }).sendHop p false
    (beBytes 2 0x0500 ++ beBytes 1 r.rate.num ++ beBytes 1 (if r.full then 1 else 0) ++ beBytes 1 r.reason ++ beBytes 3 0)

/-- Agree on a retrain: RETRAIN_ACK, which takes its start time when it leaves, 10 µs later (R76, R90). -/
def State.ackRetrain (s : State) (p : RingPort) (r0 : Retrain) : State :=
  let r := s.permitted p r0
  (s.updPort p fun e => { e with
      requested := none, asked := none, agreed := some r
      phyToo := r.reason == 3 || e.requested.any (·.reason == 3) || e.asked.any (·.reason == 3) }).sendHop p false
    (beBytes 2 0x0600 ++ beBytes 1 r.rate.num ++ beBytes 1 (if r.full then 1 else 0) ++ beBytes 1 r.reason ++ beBytes 3 0 ++
      beBytes 8 0)

/-- A hop of the ring other than this port's own is down (R74). -/
def State.otherHopDown (s : State) (p : RingPort) : Bool :=
  s.rs.down.any fun h =>
    !(match p with
      | .east => h.west == s.ident.serial
      | .west => h.east == s.ident.serial)

/-- The other port has a retrain of its own under way, or its time path is not ready yet (R75). -/
def State.otherPortBusy (s : State) (p : RingPort) : Bool :=
  let e := s.port p.other
  e.requested.isSome || e.agreed.isSome || e.running.isSome || (s.isUp p.other && !s.timePathReady p.other)

/-- A planned retrain (R74, R75): at once, together with one asked for and not yet agreed, or deferred. -/
def State.plannedRetrain (s : State) (p : RingPort) (r : Retrain) : State :=
  if s.otherHopDown p || s.otherPortBusy p || (s.port p).agreed.isSome || (s.port p).running.isSome then
    s.updPort p fun e => { e with deferred := e.deferred ++ [r] }
  else match (s.port p).requested with
    | some q => s.requestRetrain p (mergeRetrain q r)
    | none => s.requestRetrain p r

/-- The time path of a port is ready: the partner's request that waits for it at the other port is granted, and deferred retrains go
on (R74, R75). -/
def State.resumeRetrains (s : State) (p : RingPort) : State :=
  let s1 := match (s.port p.other).asked with
    | some r => if s.otherPortBusy p.other then s else s.ackRetrain p.other r
    | none => s
  [p.other, p].foldl (fun (t : State) q =>
    if (t.port q).deferred.isEmpty || t.armed (.deferredRetrain q) || t.otherHopDown q then t else t.arm (.deferredRetrain q) 0) s1

/-- A payload of a HOP_MGMT frame taken on an UP port, of this SUBTYPE and of the LEN its table gives (R90, R538). -/
def State.takeHop (s : State) (p : RingPort) (f : TakenFrame) (sub len : Nat) (k : List Byte → State) : State :=
  if !s.isUp p || beAt f.payload 0 1 != sub then s
  else if f.payload.length != len then s.portBump p 6
  else k f.payload

/-! ### Rows -/

/-- What a write of PORT_ENABLE does. -/
def portEnableFx (p : RingPort) (v : Nat) (s : State) : State :=
  let t1 := s.setPortVal p 1 v
  if v = 1 then t1.startPort p
  else
    let t2 := if t1.isUp p then t1.sendHopNow p (beBytes 4 0x07000000) else t1
    let t3 := ((t2.leaveUp p .down).disarm (.detect p)).disarm (.trainRetry p)
    (t3.disarm (.hopReport p)).updPort p fun e => { e with failRun := 0, deferred := [], running := none }

/-- PORT_ENABLE (R79). -/
def execPortEnable (rq : Requester) (p : RingPort) (value : List Byte) (s : State) : Outc :=
  done (s.objectWrite rq (objKey (0x2000 + p.num) 1) value (portEnableFx p))

/-- A detected partner is sent this end's identity in TRAIN words (R69). -/
def State.sendIdentity (s : State) (p : RingPort) : State :=
  s.emit (.identity p s.ident.serial s.ring s.node (s.portVal p 2))

/-- PARTNER_DETECTED (R68, R69): a refused port stays in REFUSED while it looks for its partner. -/
def execPartnerDetected (p : RingPort) (s : State) : Outc :=
  done (if s.portIs p .detect && s.armed (.detect p) then ((s.disarm (.detect p)).setPortState p .orient).sendIdentity p
  else if s.portIs p .refused && s.armed (.detect p) then (s.disarm (.detect p)).sendIdentity p
  else s)

/-- DETECT_TIMEOUT (R68): a refused port that finds no partner has lost the cause of its refusal. -/
def execDetectTimeout (p : RingPort) (s : State) : Outc :=
  done (s.onDue (.detect p) fun t =>
    (if t.portIs p .refused then (t.setPortVal p 6 0).setPortState p .detect else t).arm (.trainRetry p) (secs 1))

/-- TRAINING_RETRY (R68, R69): from DETECT after a failure; a refused port makes a DETECT pass every 1 s. -/
def execTrainingRetry (p : RingPort) (s : State) : Outc :=
  done (s.onDue (.trainRetry p) fun t => if t.portIs p .refused then t.arm (.detect p) (msec 20) else t.enterDetect p 0)

/-- The reason, if any, to refuse the hop (R69). -/
def State.refusal (s : State) (p partnerPort : RingPort) (serial : BitVec 64) (ring : Fin 16) (node : Fin 8192) : Nat :=
  if partnerPort = p then 1
  else if serial.toNat = s.ident.serial then 2
  else if s.rs.stored != 0 && node.val != 0 && ring.val != s.ring then 3
  else 0

/-- ORIENT_IDENTITY (R69, R467): one event and one count for a refusal that lasts, which TRAIN words carry to the partner. -/
def execOrientIdentity (p partnerPort : RingPort) (serial : BitVec 64) (ring : Fin 16) (node : Fin 8192) (permits : LineRate)
    (s : State) : Outc :=
  done (if s.portIs p .orient || (s.portIs p .refused && !s.armed (.detect p) && !s.armed (.trainRetry p)) then
    let s0 := s.updPort p fun e => { e with rebase := e.rebase || (s.portVal p 7 != 0 && s.portVal p 7 != serial.toNat) }
    let s1 := (s0.setPortVal p 7 serial.toNat).setPortVal p 8 (2 ^ 28 * ring.val + 2 ^ 15 * node.val + partnerPort.num)
    let reason := s1.refusal p partnerPort serial ring node
    if reason = 0 then
      ((s1.updPort p fun e => { e with partnerRate := permits }).setPortVal p 6 0).setPortState p .equalise
    else
      let s2 := if s1.portVal p 6 == reason then s1
        else ((s1.setPortVal p 6 reason).portBump p 0x11).portEvent p (2 + reason) contained serial.toNat
      ((s2.setPortState p .refused).emit (.refuseHop p reason)).arm (.trainRetry p) (secs 1)
  else s)

/-- The margins that let a port in at the full rate (R70), and at the fallback rate. -/
def State.entryFull (s : State) (p : RingPort) (m : Margins) : Bool :=
  s.portVal p 0xD + 12 ≤ m.v && s.portVal p 0xE + 60 ≤ m.h

def entryFallback (m : Margins) : Bool := 40 ≤ m.v && 150 ≤ m.h

/-- EQUALISE_DONE (R70, R76): the full rate only where both ends and the retrain that ordered the training permit it. The fallback
figures are those this end measures (DESIGN CHOICE, log entry 17). -/
def execEqualiseDone (p : RingPort) (ownFull partnerFull ownFallback : Margins) (s : State) : Outc :=
  done (if s.portIs p .equalise then
    let loaded := if (s.port p).phyToo then s.phyLoaded p else s
    if s.portVal p 2 == 2 && (s.port p).partnerRate = .full && (s.port p).cap != some .fallback && s.entryFull p ownFull &&
        s.entryFull p partnerFull then
      loaded.goUp p .full
    else if entryFallback ownFallback then loaded.goUp p .fallback
    else (if (s.port p).phyToo then s.phyFailed p else s).trainFail p ownFallback
  else s)

/-- A margin stays below its threshold (R72). -/
def State.marginLow (s : State) (p : RingPort) (m : Margins) : Bool := m.v < s.portVal p 0xD || m.h < s.portVal p 0xE

/-- The margins of the last 24 h that no later one undercuts, newest first: their minimum is that of all (R73). -/
def addMargins (now : Nat) (m : Margins) (l : List (Nat × Margins)) : List (Nat × Margins) :=
  (now, m) :: l.filter fun x => decide (now < x.1 + secs 86400) && (decide (x.2.v < m.v) || decide (x.2.h < m.h))

/-- MARGIN_UPDATE (R71): the minimum of the last 100 ms. With it come the coded blocks with an invalid header since the last one
(R95; DESIGN CHOICE, log entry 98). -/
def execMarginUpdate (p : RingPort) (m : Margins) (blocks : Fin 65536) (s : State) : Outc :=
  done (s.onDue (.marginTick p) fun t =>
    if !t.isUp p then t
    else
      let low := (t.port p).rate = .full && t.marginLow p m
      let least (x : Option Nat) (v : Nat) : Option Nat := some (match x with
        | some d => min d v
        | none => v)
      let t1 := (((t.addVal (0x2010 + p.num) 0xC blocks.val).setPortVal p 9 m.v).setPortVal p 0xA m.h).updPort p fun e => { e with
        dayV := least e.dayV m.v, dayH := least e.dayH m.h
        slowMargins := if e.slowSince.isSome then addMargins t.uptime m e.slowMargins else [] }
      let t2 := if !low then t1.disarm (.fallbackHold p)
        else if t1.armed (.fallbackHold p) then t1 else t1.arm (.fallbackHold p) (nsec (t1.portVal p 0xF))
      (t2.sendHop p false (beBytes 2 0x0400 ++ beBytes 2 m.v ++ beBytes 2 m.h ++ beBytes 1 (t2.port p).rate.num ++
        beBytes 1 (if low then 1 else 0))).arm (.marginTick p) (msec 100))

/-- MARGIN (R90). -/
def execMargin (p : RingPort) (f : TakenFrame) (s : State) : Outc :=
  done (s.takeHop p f 4 8 fun b => (s.setPortVal p 0xB (beAt b 2 2)).setPortVal p 0xC (beAt b 4 2))

/-- FALLBACK_HOLD_EXPIRY (R72, R74): a planned retrain to 2.5 Gbit/s. -/
def execFallbackHoldExpiry (p : RingPort) (s : State) : Outc :=
  done (s.onDue (.fallbackHold p) fun t =>
    if t.isUp p && (t.port p).rate = .full then t.plannedRetrain p ⟨.fallback, false, 0⟩ else t)

/-- The retrain that bytes 2 to 4 of a RETRAIN_REQ or RETRAIN_ACK name (R90). -/
def retrainOf (b : List Byte) : Retrain := ⟨LineRate.ofNum (beAt b 2 1), beAt b 3 1 == 1, beAt b 4 1⟩

/-- RETRAIN_REQ (R75, R76): the partner's planned retrain waits while this hub's other port is busy (log entry 99). -/
def execRetrainReq (p : RingPort) (f : TakenFrame) (s : State) : Outc :=
  done (s.takeHop p f 5 8 fun b =>
    let r := retrainOf b
    let planned := r.reason = 1 || r.reason = 2 || r.reason = 3
    match (s.port p).requested with
    | none =>
      if planned && s.otherPortBusy p then s.updPort p fun e => { e with asked := some r } else s.ackRetrain p r
    | some q => if s.portVal p 7 < s.ident.serial then s.ackRetrain p (mergeRetrain q r) else s)

/-- The ring time nearest this hub's own that the low 64 bits of a ring time name (R90). -/
def State.nearTime (s : State) (sec ns : Nat) : Nat :=
  nsec (1000000000 * (2 ^ 32 * (inNs s.ringTime / 1000000000 / 2 ^ 32) + sec) + ns)

/-- RETRAIN_ACK (R90). -/
def execRetrainAck (p : RingPort) (f : TakenFrame) (s : State) : Outc :=
  done (s.takeHop p f 6 16 fun b =>
    (s.updPort p fun e => { e with
        requested := none, asked := none, agreed := some (retrainOf b)
        phyToo := beAt b 4 1 == 3 || e.requested.any (·.reason == 3) }).armRing (.retrainStart p)
      (s.nearTime (beAt b 8 4) (beAt b 12 4)))

/-- FAST_RETRAIN_START (R72, R76, R77): a fall to 2.5 Gbit/s is recorded; the shadow opens, but for a retrain that a block reset
ordered, whose shadow is that reset's (R431). A staged PHY image that is being activated is loaded at any retrain (R75). -/
def execFastRetrainStart (p : RingPort) (s : State) : Outc :=
  done (s.onDue (.retrainStart p) fun t =>
    match (t.port p).agreed with
    | none => t
    | some r =>
      let m := packArg [i32 (t.portVal p 9), i32 (t.portVal p 0xA)]
      let phy := (t.port p).phyToo || t.up.phy.isSome
      let t1 := if r.reason = 0 then (t.portBump p 0xF).portEvent p 7 corrected m else t
      let cause := if r.reason = 0 then eventCode (8 + p.num) 7 else 0
      if r.full then (t1.enterDetect p cause).updPort p fun e => { e with cap := some r.rate, phyToo := phy }
      else
        let t2 := ((t1.portBump p 0xE).leaveUp p .fastRetrain).updPort p fun e => { e with running := some r, phyToo := phy }
        if r.reason = 4 then t2 else t2.openShadow (portShadowCodes p) (msec 2) 0 cause)

/-- A fast retrain has reached UP: the port runs the PHY image it loaded (R497). -/
def State.retrained (s : State) (p : RingPort) (rate : LineRate) : State :=
  (if (s.port p).phyToo then s.phyLoaded p else s).goUp p rate

/-- FAST_RETRAIN_DONE (R68, R73, R497): the margins that both ends measure at the chosen rate, or none where it failed. -/
def execFastRetrainDone (p : RingPort) (margins : Option (Margins × Margins)) (s : State) : Outc :=
  done (if !s.portIs p .fastRetrain then s
  else match (s.port p).running, margins with
    | some r, some (own, partner) =>
      match r.rate with
      | .fallback => if entryFallback own then s.retrained p .fallback else s.fastFail p own
      | .full =>
        if r.reason = 1 then
          if s.entryFull p own && s.entryFull p partner then
            ((s.portBump p 0x10).portEvent p 8 corrected (packArg [i32 own.v, i32 own.h])).retrained p .full
          else
            let s1 := ((s.portEvent p 9 corrected (packArg [i32 own.v, i32 own.h])).arm (.uprateWait p)
              (secs (7 * 24 * 3600))).portBump p 0xE
            (s1.updPort p fun e => { e with running := some ⟨.fallback, false, 0⟩ }).openShadow (portShadowCodes p) (msec 2) 0
              (eventCode (8 + p.num) 9)
        else s.retrained p .full
    | some r, none =>
      if (s.port p).phyToo && s.phySlot.isSome then
        ((s.phyFailed p).updPort p fun e => { e with running := some { r with reason := 2 }, phyToo := false }).portBump p 0xE
      else s.fastFail p ⟨s.portVal p 9, s.portVal p 0xA⟩
    | none, _ => s)

/-- What a write to RETRAIN does (R94): nothing on a port that is not UP. -/
def retrainFx (p : RingPort) (v : Nat) (s : State) : State :=
  if s.isUp p then
    s.plannedRetrain p (s.permitted p ⟨if v = 2 then .full else (s.port p).rate, v == 2, 2⟩)
  else s

def State.writeRetrain (s : State) (rq : Requester) (p : RingPort) (kind : Nat) : State :=
  s.objectWrite rq (objKey (0x2000 + p.num) 0x10) (leBytes 1 kind) (retrainFx p)

/-- RETRAIN_FAST (R94). -/
def execRetrainFast (rq : Requester) (p : RingPort) (s : State) : Outc := done (s.writeRetrain rq p 1)

/-- RETRAIN_FULL (R94). -/
def execRetrainFull (rq : Requester) (p : RingPort) (s : State) : Outc := done (s.writeRetrain rq p 2)

/-- What a write of MAX_RATE does (R74). -/
def maxRateFx (p : RingPort) (v : Nat) (s : State) : State :=
  let t := s.setPortVal p 2 v
  if s.isUp p && s.portVal p 2 != v then t.plannedRetrain p (t.permitted p ⟨.full, false, 2⟩) else t

/-- MAX_RATE (R74, R94). -/
def execMaxRate (rq : Requester) (p : RingPort) (value : List Byte) (s : State) : Outc :=
  done (s.objectWrite rq (objKey (0x2000 + p.num) 2) value (maxRateFx p))

/-- DEFERRED_RETRAIN (R74, R75). -/
def execDeferredRetrain (p : RingPort) (s : State) : Outc :=
  done (s.onDue (.deferredRetrain p) fun t =>
    match (t.port p).deferred with
    | r :: l =>
      if !t.isUp p then t.updPort p fun e => { e with deferred := [] }
      else if t.otherHopDown p || t.otherPortBusy p || (t.port p).agreed.isSome || (t.port p).running.isSome then t
      else (t.updPort p fun e => { e with deferred := l }).plannedRetrain p (if r.reason = 0 then r else t.permitted p r)
    | [] => t)

/-- LINK_LOSS (R78); in training, the training fails (R68). -/
def execLinkLoss (p : RingPort) (s : State) : Outc :=
  done (if s.isUp p then
    ((s.portBump p 0xD).portEvent p 1 contained (s.portVal p 7)).enterDetect p (eventCode (8 + p.num) 1)
  else if s.portIs p .fastRetrain then s.fastFail p ⟨s.portVal p 9, s.portVal p 0xA⟩
  else if s.portIs p .orient || s.portIs p .equalise then s.trainFail p ⟨s.portVal p 9, s.portVal p 0xA⟩
  else s)

/-- DISABLE (R79). -/
def execDisable (p : RingPort) (f : TakenFrame) (s : State) : Outc :=
  done (s.takeHop p f 7 4 fun _ =>
    (s.portEvent p 2 corrected (s.portVal p 7)).enterDetect p (eventCode (8 + p.num) 2))

/-- NEIGHBOUR_SEND (R90). -/
def execNeighbourSend (p : RingPort) (s : State) : Outc :=
  done (s.onDue (.neighbour p) fun t =>
    (t.sendHop p false (beBytes 2 0x0100 ++ beBytes 8 t.ident.serial ++ beBytes 1 p.num ++ beBytes 1 t.ring ++
      beBytes 2 t.node ++ beBytes 1 (t.val 0x1001 4) ++ beBytes 1 (t.portVal p 2) ++ beBytes 4 t.ident.phyVersion ++
      beBytes 4 0)).arm (.neighbour p) (secs 1))

/-- NEIGHBOUR (R90). -/
def execNeighbour (p : RingPort) (f : TakenFrame) (s : State) : Outc :=
  done (s.takeHop p f 1 24 fun b =>
    ((s.setPortVal p 7 (beAt b 2 8)).setPortVal p 8
      (2 ^ 28 * (beAt b 11 1 % 16) + 2 ^ 15 * (beAt b 12 2 % 8192) + beAt b 10 1 % 2)).updPort p
      fun e => { e with partnerRate := LineRate.ofNum (beAt b 15 1) })

/-- The filter of a port holds 16 accepted measurements (R91). -/
def State.delayFull (s : State) (p : RingPort) : Bool := (s.port p).delays.length == 16

/-- A rejected measurement, or none at all; the eighth in a row restarts the filter (R92). -/
def State.rejectDelay (s : State) (p : RingPort) (v : Option Nat) : State :=
  let s1 := (s.setDelayVal p 6 (s.delayVal p 6 + 1)).updPort p fun e => { e with rejects := v :: e.rejects }
  if (s1.port p).rejects.length < 8 then s1
  else
    let newest := ((s1.port p).rejects.filterMap id).headD 0xFFFFFFFF
    let s2 := s1.portEvent p 10 corrected (packArg [i32 (s1.linkDelay p), i32 newest])
    (((s2.updPort p fun e => { e with rejects := [], delays := [] }).setDelayVal p 2 0).setDelayVal p 8 0).arm (.delayReq p)
      (usec 100)

/-- Send the next DELAY_REQ (R91): t1 is its stamp when the egress sends it, and its 100 µs begin then (R92). -/
def State.sendDelayReq (s : State) (p : RingPort) : State :=
  let n := (s.port p).nextExchange
  let s1 := s.updPort p fun e => { e with nextExchange := (n + 1) % 65536, exchange := some (n, none) }
  (s1.sendHop p true (beBytes 2 0x0200 ++ beBytes 2 n ++ beBytes 4 0)).arm (.delayReq p)
    (if s1.delayFull p then nsec (s1.delayVal p 1) else usec 100)

/-- DELAY_REQ_SEND (R91, R92): one exchange at a time. One that has had no answer for 100 µs is rejected first; the next waits for
one that has not had them yet. -/
def execDelayReqSend (p : RingPort) (s : State) : Outc :=
  done (s.onDue (.delayReq p) fun t =>
    if (t.port p).exchange.isNone then t.sendDelayReq p
    else if t.due (.delayResp p) then
      (((t.disarm (.delayResp p)).updPort p fun e => { e with exchange := none }).rejectDelay p none).sendDelayReq p
    else match t.deadline (.delayResp p) with
      | some d => t.arm (.delayReq p) (d.at_ - t.uptime)
      | none => t.arm (.delayReq p) (usec 100))

/-- DELAY_REQ (R90, R91). -/
def execDelayReq (p : RingPort) (f : TakenFrame) (s : State) : Outc :=
  done (s.takeHop p f 2 8 fun b =>
    s.sendHop p true (beBytes 2 0x0300 ++ beBytes 2 (beAt b 2 2) ++ beBytes 4 (inNs f.stamp) ++ beBytes 2 (f.stamp % 65536) ++
      beBytes 6 0))

/-- An accepted measurement (R91): the mean, the last and the spread of the last 16; fractions of 2^-16 ns are cut off (log
entry 100). -/
def State.acceptDelay (s : State) (p : RingPort) (v : Nat) : State :=
  let ds := (v :: (s.port p).delays).take 16
  let s1 := s.updPort p fun e => { e with delays := ds, rejects := [] }
  let s2 := (((s1.setDelayVal p 2 (ds.sum / ds.length)).setDelayVal p 3 v).setDelayVal p 4
    (ds.foldl max 0 - ds.foldl min v)).setDelayVal p 5 (s1.delayVal p 5 + 1)
  if ds.length == 16 && !s2.timePathReady p then
    ((s2.setDelayVal p 8 1).arm (.delayReq p) (nsec (s2.delayVal p 1))).resumeRetrains p
  else s2

/-- DELAY_RESP (R91, R92). -/
def execDelayResp (p : RingPort) (f : TakenFrame) (s : State) : Outc :=
  done (s.takeHop p f 3 16 fun b =>
    match (s.port p).exchange with
    | some (n, some t1) =>
      if n = beAt b 2 2 then
        let wrap : Int := (2 ^ 32 * 65536 : Nat)
        let t2 : Int := (65536 * beAt b 4 4 + beAt b 8 2 : Nat)
        let t3 : Int := (correctedStamp f.hdr : Nat)
        let twice := ((f.stamp : Int) - t1) % wrap - (t3 - t2) % wrap
        let v := (twice % wrap / 2).toNat
        let s1 := (s.disarm (.delayResp p)).updPort p fun e => { e with exchange := none }
        if (s1.port p).delays.isEmpty || 1000 * natDist v (s1.linkDelay p) ≤ 65536 * s1.delayVal p 7 then s1.acceptDelay p v
        else s1.rejectDelay p (some v)
      else s
    | _ => s)

/-- DELAY_RESP_TIMEOUT (R92). -/
def execDelayRespTimeout (p : RingPort) (s : State) : Outc :=
  done (s.onDue (.delayResp p) fun t => (t.updPort p fun e => { e with exchange := none }).rejectDelay p none)

end Sys2Proof.Machine
end

