-- ==== Sys2Proof/Machine/Frames.lean ====
section
/-!
DEFINITION. Frames at the ring ports, board links and switch outputs (ch. 03, 04, 06): receipt, end of frame, local
origination, egress, hand-over to the sinks, hold deadlines and residence.
-/

namespace Sys2Proof.Machine

/-! ### Where a frame goes -/

/-- TYPE and FLOW agree as R82 gives them (R84, step 4). -/
def typeFlowOk (typ flow : Nat) : Bool :=
  if typ = typSync then flow == 0xFFF0
  else if typ = typCycleMark then flow == 0xFFF1
  else if typ = typAxis then flow == 0xFFF2
  else if typ = typCredit then flow == 0xFFF3
  else if typ = typHopMgmt then flow == 0xFFFF
  else if 2 ≤ typ && typ ≤ 8 then flow == 0
  else if typ = typData then (1 ≤ flow && flow ≤ 0xFFEF) || flow == 0xFFF4
  else 1 ≤ flow && flow ≤ 0xFFEF

/-- CLASS C0 only with ring management, and ring management of C0 only in it (R84, step 4). -/
def classOk (typ cls flow : Nat) : Bool :=
  cls != 0 || typ == typSync || typ == typCycleMark || typ == typHopMgmt || typ == typCredit || (typ == typData && flow == 0xFFF4)

/-- Steps 1 to 6 of R84: the counter of the first failure, none where the header passes. -/
def headerFault (p : RingPort) (h : Header) : Option Nat :=
  let hop := h.typ.toNat = typHopMgmt
  if hcrcOf h ≠ h.hcrc.toNat then some 4
  else if h.typ.toNat = 0xF then some 7
  else if 2048 < h.len.toNat then some 6
  else if !(classOk h.typ.toNat h.cls.toNat h.flow.toNat && typeFlowOk h.typ.toNat h.flow.toNat) then some 6
  else if !hop && (h.path.toNat = 0) ≠ (p = .west) then some 6
  else if !hop && ((h.typ.toNat ≠ typSwarm && h.dNode.toNat = 0) || 9 < h.dMaster.toNat || 9 < h.sMaster.toNat) then some 6
  else none

/-- Node numbers of this hub and, in a formed duplex pair, of its partner (R163, R164). -/
def State.ownNodes (s : State) : List Nat :=
  if s.node = 0 then []
  else if s.paired then
    [s.node, if s.ident.clusterId = 0 then s.node + 1 else s.node - 1]
  else [s.node]

/-- The frame comes round to its source (R13). A keeper without a number knows its SYNC and CYCLE_MARK by their source node 0; other
broadcasts of a hub without a number are known by the serial in their payload (R146). -/
def State.isSource (s : State) (h : Header) : Bool :=
  h.sRing.toNat == s.ring &&
    (if s.node = 0 then s.isKeeper && h.sNode.toNat == 0 && (h.typ.toNat == typSync || h.typ.toNat == typCycleMark)
     else h.sNode.toNat == s.node || h.sNode.toNat == s.flowNode)

/-- Addressed to every node of its ring (R19). -/
def isBroadcast (h : Header) : Bool := h.typ.toNat != typSwarm && h.dNode.toNat == 8191

/-- This hub is the unicast destination (R13, R164). -/
def State.isTarget (s : State) (h : Header) : Bool :=
  h.typ.toNat != typSwarm && h.dRing.toNat == s.ring && s.ownNodes.contains h.dNode.toNat

/-- This hub takes a local copy: unicast destination, swarm member or broadcast target (R13, R85). A returning frame of its
own is not taken again. -/
def State.takesLocal (s : State) (h : Header) : Bool :=
  s.isTarget h ||
    (!s.isSource h && h.dRing.toNat == s.ring &&
      (if h.typ.toNat = typSwarm then s.inSwarm h.dNode.toNat else h.dNode.toNat == 8191))

/-- The output a frame in transit leaves by: the other ring port, BL0 inside a duplex pair, or the board link of a gateway
for a frame to another ring (R16, R98, R159). -/
def State.transitOut (s : State) (p : RingPort) (h : Header) : Output :=
  (s.crossing h).getD (if s.dx.mode = 2 then .bl0 else Output.ofPort p.other)

/-- The frame ends here for its journey on this ring (R13). -/
def State.endsHere (s : State) (h : Header) : Bool :=
  s.isTarget h || (s.isSource h && (h.typ.toNat == typSwarm || isBroadcast h)) || (s.crossing h).isSome

/-- The frame is one that fixed logic takes at receive (R105, R146, R538). -/
def fixedFlow (h : Header) : Bool := 0xFFF0 ≤ h.flow.toNat

/-- Output that the fabric request, response or ERRNOTE of FLOW 0x0000 is handed to (R107). -/
def requestOutput (h : Header) (payload : List Byte) : Output :=
  let t := h.typ.toNat
  if t = typReadResp || t = typErrnote then
    match h.dMaster.toNat with
    | 1 => .bl2
    | 4 | 5 | 6 | 7 | 9 => .field
    | 8 => .waggle
    | _ => .mgmt
  else
    match targetOf (beAt payload 0 4) with
    | some k => if (1 ≤ k && k ≤ 19) then .field else if k = 21 || k = 22 then .waggle else .mgmt
    | none => .mgmt

/-! ### Receipt -/

/-- A frame in the hub from a header and payload received by a ring port (or none) with its receive stamp. -/
def QFrame.received (h : Header) (payload : List Byte) (arrival : Nat) (p : Option RingPort) (stamp : Nat) : QFrame where
  hdr := h
  payload := payload
  cells := cellsOf payload.length
  arrival := arrival
  inPort := p
  stamp := stamp

/-- What is kept of a frame whose header has arrived. -/
def RxFrame.start (raw h : Header) (stamp arrival : Nat) : RxFrame where
  raw := raw
  hdr := h
  stamp := stamp
  arrival := arrival

/-- Chains for a copy of a DELIVER flow: of the outputs that admit one, the rest tail-dropped (R118, R120). -/
def State.admitChains (s : State) (outs : List Output) (cells e : Nat) : State × List Chain :=
  outs.foldl (fun acc o => match acc.1.chainFor (acc.2.map (·.cells)).flatten o cells (some e) with
    | some l => (acc.1, acc.2 ++ [⟨o, l⟩])
    | none => (acc.1.tailDrop o cells (some e), acc.2)) (s, [])

/-- The lookup of a frame this hub takes for itself, at its header (R105, R111, R125); an unknown flow counts at the port it came by,
or as a local one from a board link that is no hop of the ring (R23). A hub without a number takes none (R14). In S3 only requests
addressed to it are kept (R474). -/
def State.lookupLocal (s : State) (p : Option RingPort) (h : Header) : State × Option (ReseqId × Option Desc × List Chain) :=
  if s.node = 0 || s.coreIsolated || s.val 0x2420 5 == 6 then (s, none)
  else if s.val 0x7000 3 == 3 && !(h.flow.toNat = 0 && s.isTarget h) then (s.bump 0x7000 7, none)
  else if h.flow.toNat = 0 then
    (s, some (.request (Fin.ofNat 16 h.sRing.toNat) (Fin.ofNat 8192 h.sNode.toNat), none, []))
  else match s.lookup h.sRing.toNat h.sNode.toNat h.flow.toNat with
    | none => (match p with
      | some q => s.portBump q 8
      | none => s.bump 0x2150 0x15, none)
    | some e =>
      let x := s.flowEntry e
      let id := ReseqId.entry (Fin.ofNat 16384 e)
      if !x.isDeliver then (s.bump 0x2150 0x14, none)
      else if s.knownSeq id h.seq.toNat then (s.dropKnown id p, none)
      else
        let a := s.admitChains (outputsOf x.outset) (cellsOf h.len.toNat) e
        if a.2.isEmpty then (a.1, none) else (a.1, some (id, some (s.descOf e), a.2))

/-- May a transit frame that comes by the line of one output leave by another in cut-through (R100)? A broadcast of a hub without a
number waits for its payload, which tells whether it is this hub's own (R146). -/
def State.cutThrough (s : State) (line o : Output) (h : Header) : Bool :=
  let g := s.egress o
  let c := h.cls.toNat
  let before : List (Fin 4) := if c = 0 then [0] else if c = 1 then [0, 1] else if c = 2 then [0, 1, 2] else [0, 1, 3]
  s.val 0x2100 8 == 1 && (o == .east || o == .west) && s.lineUp o && !g.busy && decide (g.freeAt ≤ s.uptime) &&
    s.lineTime line 1000 ≤ s.lineTime o 1000 && before.all (fun k => g.transit[k].isEmpty) &&
    s.fits o c h.len.toNat && !(s.node == 0 && h.flow.toNat == 0xFFF4 && h.sNode.toNat == 0)

/-- A CRC error of a port (R72, R89, R93): more than FALLBACK_CRC within 1 s are a burst; on a port at the full rate they force a
fallback. -/
def State.crcError (s : State) (p : RingPort) : State :=
  let recent := (s.uptime :: (s.port p).crcTimes).filter fun t => s.uptime < t + secs 1
  let s1 := ((s.portBump p 5).portBump p 0xA).updPort p fun e => { e with crcTimes := recent }
  if s1.portVal p 0x11 < recent.length then
    let s2 := (s1.updPort p fun e => { e with crcTimes := [] }).portEvent p 11 corrected (packArg [i32 recent.length])
    if s2.isUp p && (s2.port p).rate = .full && (s2.port p).requested.isNone && (s2.port p).agreed.isNone then
      s2.requestRetrain p ⟨.fallback, false, 0⟩
    else s2
  else s1

/-- The chains of a frame that is not accepted are freed (R125). -/
def State.dropChains (s : State) (r : RxFrame) : State :=
  match r.local_ with
  | some l => s.noteDrains l.2.2
  | none => s

/-- A frame whose end never came is given up when the next begins; its end counts as misplaced (R89). -/
def State.abandonRx (s : State) (p : RingPort) : State :=
  match (s.port p).rx with
  | none => s
  | some r =>
    let s1 := s.updPort p fun e => { e with rx := none }
    if r.dropped then s1 else ((s1.crcError p).endCut r [] none true).dropChains r

/-- What RING_FRAME_RX keeps of a frame until its end. -/
def State.keepRx (s : State) (p : RingPort) (r : RxFrame) : State := s.updPort p fun e => { e with rx := some r }

/-- Count a header that passes steps 1 to 6 of R84. -/
def State.countRx (s : State) (p : RingPort) (h : Header) : State :=
  (s.portBump p 1).addVal (0x2010 + p.num) 3 (36 + h.len.toNat)

/-- A frame that goes on by an output: admitted to its partition and in cut-through where it may, or discarded (R80, R99, R100). -/
def State.passOn (s : State) (p : RingPort) (o : Output) (r : RxFrame) : State :=
  if !s.lineUp o then
    (match o with
     | .east => s.portBump .east 0x13
     | .west => s.portBump .west 0x13
     | _ => s).keepRx p r
  else
    let a := s.admitTransit o r.hdr.cls.toNat (cellsOf r.hdr.len.toNat)
    match a.2 with
    | none => a.1.keepRx p r
    | some spill =>
      if a.1.cutThrough (Output.ofPort p) o r.hdr then
        ((a.1.updEgress o fun g => { g with busy := true }).bump 0x2120 1).keepRx p
          { r with cut := some (o, a.1.onward (some p) r.stamp r.hdr, s.uptime), spill := spill }
      else a.1.keepRx p { r with transit := [o], spill := spill }

/-- RING_FRAME_RX (R80, R84 to R87, R99, R100, R105). -/
def execRingFrameRx (p : RingPort) (raw : BitVec 256) (stamp : Nat) (s : State) : Outc :=
  done (if !s.isUp p then s
  else
    let s0 := s.abandonRx p
    let h0 := decodeHeader raw
    let start := RxFrame.start h0 h0 stamp (arrivalOf s.ringTime)
    match headerFault p h0 with
    | some counter => (s0.portBump p counter).keepRx p { start with dropped := true }
    | none =>
      let s1 := s0.countRx p h0
      if h0.typ.toNat = typHopMgmt then s1.keepRx p { start with fixed := true }
      else
        let h := h0.hopped
        let fixed := fixedFlow h && (s1.takesLocal h || s1.isSource h)
        let a := if s1.takesLocal h && !fixedFlow h then s1.lookupLocal (some p) h else (s1, none)
        let onward := !s1.endsHere h || (s1.crossing h).isSome
        let base := { start with hdr := h, fixed := fixed, local_ := a.2 }
        if !onward then a.1.keepRx p base
        else if h.hops = 0 then (a.1.portBump p 9).keepRx p base
        else a.1.passOn p (s1.transitOut p h) base)

/-! ### End of frame -/

/-- SUBTYPEs of HOP_MGMT on a ring port and MSGs of ring management messages that are defined (R90, R146, R450). -/
def knownFixed (h : Header) (payload : List Byte) : Bool :=
  let k := beAt payload 0 1
  if h.typ.toNat = typHopMgmt then 1 ≤ k && k ≤ 7
  else if h.flow.toNat = 0xFFF4 then (1 ≤ k && k ≤ 5) || (0x10 ≤ k && k ≤ 0x13)
  else true

/-- Hand a frame to the fixed logic, or count an unknown SUBTYPE or MSG (R90, R146). -/
def State.takeFixed (s : State) (p : RingPort) (h : Header) (payload : List Byte) (stamp : Nat) : State :=
  if knownFixed h payload then s.emit (.taken p ⟨h, payload, stamp⟩) else s.portBump p 6

/-- A copy of a frame addressed to a duplex pair goes to the partner over BL0, in the order of its egress (R164, R186; log
entry 88). -/
def State.sharePair (s : State) (f : QFrame) : State :=
  if s.paired && s.dx.links[0].up && s.isTarget f.hdr then s.storeTransit .bl0 f else s

/-- A request state is reclaimed: what it holds is released (R107; log entry 102). -/
def State.reclaim (s : State) (id : ReseqId) : State :=
  match s.reseq id with
  | some r =>
    let x := Reseq.flush 33 r
    (s.settleReseq id x.1 x.2.1 x.2.2).dropReseq id
  | none => s

/-- Admit a request state for a source node (R107): the pool holds 512, the longest idle is reclaimed after 1 ms. -/
def State.requestState (s : State) (id : ReseqId) : State × Bool :=
  if (s.reseq id).isSome then (s, true)
  else
    let pool := s.sw.reseq.filter fun r => 65536 ≤ r.1
    if pool.length < 512 then (s, true)
    else match pool.foldl (fun acc r => match acc with
        | none => some r
        | some q => if r.2.lastCopy < q.2.lastCopy then some r else acc) none with
      | some r =>
        if r.2.lastCopy + msec 1 ≤ s.uptime then
          (s.reclaim (.request (Fin.ofNat 16 ((r.1 - 65536) / 8192)) (Fin.ofNat 8192 (r.1 - 65536))), true)
        else (s, false)
      | none => (s, false)

/-- A FLOW 0x0000 frame for this hub (R107): its chain is admitted here, where its target is known (DEDUCED, log entry 18). -/
def State.takeRequest (s : State) (id : ReseqId) (p : Option RingPort) (f : QFrame) : State :=
  let o := requestOutput f.hdr f.payload
  if s.knownSeq id f.hdr.seq.toNat then s.dropKnown id p
  else
    let a := s.requestState id
    if !a.2 then (a.1.bump 0x2150 0x16).raise 0x10 7 corrected (packArg (match id with
      | .request ring node => [i16 ring.val, i16 node.val]
      | .entry e => [i16 e.val]))
    else match a.1.chainFor [] o f.cells none with
      | some l => a.1.resequence id p f [⟨o, l⟩]
      | none => a.1.tailDrop o f.cells none

/-- In S3 up to 16 requests are held, and the hub wakes to S0 (R473, R474). -/
def State.holdRequest (s : State) (id : ReseqId) (p : Option RingPort) (f : QFrame) : State :=
  if 16 ≤ s.pw.held.length then s.bump 0x7000 7
  else ({ s with pw := { s.pw with held := s.pw.held ++ [(f, id, p)] } } : State).wakeTo 0

/-- A good copy for this hub (R107, R125): its chains and its resequencer. The link delay of the port it came by is added to a
stamp (R86). -/
def State.takeLocal (s : State) (p : Option RingPort) (r : RxFrame) (payload : List Byte) : State :=
  match r.local_ with
  | none => s
  | some (id, entry, chains) =>
    let h := match p with
      | some q => if r.hdr.tsv = 1 then r.hdr.addCorr (s.linkDelay q : Nat) else r.hdr
      | none => r.hdr
    let f := { QFrame.received h payload r.arrival p r.stamp with entry := entry }
    match id with
    | .entry _ => s.resequence id p f chains
    | .request _ _ => if s.val 0x7000 3 == 3 then s.holdRequest id p f else s.takeRequest id p f

/-- SYNC and CYCLE_MARK pass on to the other hubs of a wide node (R160; log entry 101). -/
def State.shareSlots (s : State) (f : QFrame) : State :=
  if s.dx.mode = 1 && s.ident.clusterId = 0 && (f.hdr.typ.toNat = typSync || f.hdr.typ.toNat = typCycleMark) then
    [Output.bl0, .bl1, .bl2].foldl (fun (t : State) o => if t.lineUp o then t.storeTransit o f else t) s
  else s

/-- A stored transit frame joins its queue, with the cells it was admitted for; an output that has left UP takes none (R80). -/
def State.storeAdmitted (s : State) (spill : Nat) (f : QFrame) (o : Output) : State :=
  if s.lineUp o then s.enqueueTransit o { f with spill := spill }
  else match o with
    | .east => s.portBump .east 0x13
    | .west => s.portBump .west 0x13
    | _ => s

/-- END_OF_FRAME (R89, R125, R131). -/
def execEndOfFrame (p : RingPort) (payload : List Byte) (crc : BitVec 32) (word : EndWord) (s : State) : Outc :=
  done (match (s.port p).rx with
  | none => s
  | some r =>
    let s1 := s.updPort p fun e => { e with rx := none }
    if r.dropped then s1
    else
      let poisoned := word = .poison || word = .poisonEarly
      let good := word = .good && payload.length = r.hdr.len.toNat && frameCrc r.raw payload = crc.toNat
      let whole := if payload.length = r.hdr.len.toNat then some crc.toNat else none
      if !good then
        ((if poisoned then s1.portBump p 0xB else s1.crcError p).endCut r payload whole true).dropChains r
      else
        let ownMsg := s1.node == 0 && r.hdr.flow.toNat == 0xFFF4 && beAt payload 2 8 == s1.ident.serial
        let f := { QFrame.received r.hdr payload r.arrival (some p) r.stamp with came := some (r.raw, crc.toNat) }
        let s2 := s1.endCut r payload whole false
        let s3 := if ownMsg then s2 else r.transit.foldl (fun t o => t.storeAdmitted r.spill f o) s2
        let s4 := if r.fixed then (s3.takeFixed p r.hdr payload r.stamp).shareSlots f else s3
        let s5 := if r.hdr.typ.toNat = typHopMgmt then s4 else s4.sharePair f
        s5.takeLocal (some p) r payload)

/-- FRAME_ORIGINATE (R105). -/
def execFrameOriginate (org : Originator) (typ : Fin 16) (flow : Fin 65536) (payload : List Byte) (first last : Bool)
    (s : State) : Outc :=
  done (s.originate org typ flow.val payload first last)

/-! ### Egress -/

/-- EGRESS_SELECT (R186 to R188, R194 to R198): no event while the line is occupied or down. -/
def execEgressSelect (o : Output) (s : State) : Outc :=
  done (if !s.gated o || !s.lineUp o || (s.egress o).busy || s.uptime < (s.egress o).freeAt then s
  else
    let s1 := s.noteHeads o
    match s1.choose o with
    | none => s1.updEgress o Egress.idleDeficits
    | some (c, f, g) =>
      let s2 := (s1.setEgress o g).chargeQueue o c f
      let h := if c.transit then s2.onward f.inPort f.stamp f.hdr else s2.departing f.hdr
      let b := if c.transit then f.payload else s2.departingPayload f.hdr f.payload
      (s2.putOnLine o h b (some (departingCrc f h b)) false 0).noteDrain o)

/-- A receive ring of the host can take frames: PERST_N deasserted and the ring enabled (R301). -/
def State.rxUsable (s : State) (c : Fin 4) : Bool := s.pcieMode && !s.host.perst && s.flag (0x8534 + c.val) 1

/-- Discard the frames for receive rings that cannot take them (R301, R317). -/
def State.hostDrain (s : State) : State :=
  (List.finRange 4).foldl (fun (t : State) c =>
    if t.rxUsable c then t
    else
      let l := (t.egress .bl2).local_[c]
      let gone := l.filter fun f => f.entry.isSome
      gone.foldl (fun (u : State) f => (((u.bump 0x8500 6).bump (0x8534 + c.val) 9).freeCells f).noteDrain .bl2)
        (t.updEgress .bl2 fun g => { g with local_ := g.local_.set c (l.filter fun f => f.entry.isNone) })) s

/-- In PCI Express mode BL2/HOST hands the host's fabric responses and ERRNOTEs here, as the shapers of its queues let it; flow
deliveries leave by their receive ring (R107, R197, R307). -/
def State.hostDequeue (s : State) : State :=
  let t := s.hostDrain.noteHeads .bl2
  match (List.finRange 4).find? fun c => ((t.egress .bl2).local_[c].head?).any fun f =>
      f.entry.isNone && t.mayStart .bl2 c (false, f) with
  | some c =>
    match (t.egress .bl2).local_[c] with
    | f :: l =>
      let t1 := (t.updEgress .bl2 fun g => { g with local_ := g.local_.set c l }).chargeQueue .bl2 ⟨c, false⟩ f
      ((t1.emit (.handed .bl2 0 f (frameTime (inNs s.ringTime) f.hdr))).freeCells f).noteDrain .bl2
    | [] => t
  | none => t

/-- LOCAL_OUTPUT_DEQUEUE (R186): a local output hands the next frame to its sink. -/
def execLocalOutputDequeue (o : Output) (s : State) : Outc :=
  done (if s.gated o || o == .east || o == .west then s
  else if o = .bl2 then s.hostDequeue
  else
    let s1 := s.noteHeads o
    match s1.choose o with
    | none => s1.updEgress o Egress.idleDeficits
    | some (c, f, g) =>
      let s2 := (s1.setEgress o g).chargeQueue o c f
      let sel := match f.entry with
        | some d => d.sel
        | none => 0
      ((s2.emit (.handed o sel f (frameTime (inNs s.ringTime) f.hdr))).freeCells f).noteDrain o)

/-- HOLD_DEADLINE (R127). -/
def execHoldDeadline (r : ReseqId) (s : State) : Outc :=
  done (s.onDue (.holdDeadline r) fun t =>
    match t.reseq r with
    | some x => t.expireHold r x
    | none => t)

/-- RESYNC_IDLE (R107, R129): the hold deadline of a state that holds frames runs out first. -/
def execResyncIdle (r : ReseqId) (s : State) : Outc :=
  done (s.onDue (.resyncIdle r) fun t =>
    match t.deadline (.holdDeadline r) with
    | some d => t.arm (.resyncIdle r) (d.at_ - t.uptime)
    | none => t.dropReseq r)

/-- RESIDENCE_DISCARD (R116): the head of a class queue of a local output is beyond MAX_RESIDENCE. -/
def execResidenceDiscard (o : Output) (c : Fin 4) (s : State) : Outc :=
  done (if s.gated o || o == .east || o == .west then s
  else match (s.egress o).local_[c] with
    | [] => s
    | f :: _ =>
      let age := (arrivalOf s.ringTime + 65536 - f.arrival) % 65536
      if s.val 0x2100 5 < 65536 * age then
        let s1 := (s.updEgress o fun g => g.take c false).bump 0x2150 9
        let s2 := match f.entry with
          | some d => s1.updFlow d.entry fun x => { x with drops := (x.drops + 1) % 2 ^ 32 }
          | none => s1
        ((s2.raise 0x10 3 corrected (packArg [i16 (match f.entry with
          | some d => d.entry
          | none => 0xFFFF)])).freeCells f).noteDrain o
      else s)

/-! ### Board links -/

/-- A frame from a board link goes on by an output (R98, R100, R131): in cut-through, a bad one then ends with POISON and counts; or
stored, a bad one then not at all. BL_FRAME_RX stands at the frame's end, and the conditions of R100 are judged there (DESIGN
CHOICE, log entry 103). -/
def State.linkOnward (s : State) (link : Fin 3) (o : Output) (f : QFrame) (good : Bool) : State :=
  let line : Output := if link = 0 then .bl0 else if link = 1 then .bl1 else .bl2
  if s.cutThrough line o f.hdr then
    let a := s.admitTransit o f.hdr.cls.toNat f.cells
    match a.2 with
    | none => a.1
    | some _ =>
      let h := a.1.onward none f.stamp f.hdr
      let t := (a.1.bump 0x2120 1).putOnLine o h f.payload (if good then some (departingCrc f h f.payload) else none) (!good)
        (s.lineTime line (lineBytes f.payload.length))
      if good then t else t.bump 0x2120 7
  else if good then s.storeTransit o f
  else s

/-- A frame that enters this ring from a board link goes both ways, each copy with its own PATH (R12, R16, R98), from here
with the HOPS of this ring (DESIGN CHOICE, log entry 19). -/
def State.enterRing (s : State) (link : Fin 3) (f : QFrame) (good : Bool) : State :=
  [RingPort.east, RingPort.west].foldl (fun t p =>
    t.linkOnward link (Output.ofPort p) { f with hdr := ({ f.hdr with hops := BitVec.ofNat 13 t.hops } : Header).onPort p } good) s

/-- Deliver a frame that slot 0 has already resequenced: looked up, not resequenced again (R160). -/
def State.deliverSlot (s : State) (h : Header) (payload : List Byte) : State :=
  match s.lookup h.sRing.toNat h.sNode.toNat h.flow.toNat with
  | none => s.bump 0x2150 0x15
  | some e =>
    let x := s.flowEntry e
    if x.isDeliver then
      let f := { QFrame.received h payload (arrivalOf s.ringTime) none s.ringTime with entry := some (s.descOf e) }
      let a := s.admitChains (outputsOf x.outset) f.cells e
      if a.2.isEmpty then a.1 else a.1.releaseFrame f a.2
    else s.bump 0x2150 0x14

/-- A frame from a board link that this hub takes for itself: like one from the ring (R107, R164). `p` is the ring port that the link
stands for, if it is a hop of the ring. -/
def State.takeFromLink (s : State) (p : Option RingPort) (h : Header) (payload : List Byte) (stamp : Nat) : State :=
  let a := s.lookupLocal p h
  a.1.takeLocal p { RxFrame.start h h stamp (arrivalOf s.ringTime) with local_ := a.2 } payload

/-- Subtypes of HOP_MGMT that are known on BL0 of a formed or forming pair (R168). -/
def pairSubtype (k : Nat) : Bool := 0x10 ≤ k && k ≤ 0x16

/-- A frame that comes by BL0 of a duplex pair, the hop of the ring between the members (R159): checked, taken and passed on as at
the ring port it stands for, `q`, to the other one (R84, R85, R164). -/
def State.pairFrame (s : State) (q : RingPort) (h0 : Header) (f0 : QFrame) (good : Bool) : State :=
  match headerFault q h0 with
  | some counter => s.portBump q counter
  | none =>
    let s1 := s.countRx q h0
    if h0.typ.toNat = typHopMgmt then
      if !good then s1
      else if pairSubtype (beAt f0.payload 0 1) && s1.val 0x8110 1 != 3 then s1.emit (.taken q ⟨h0, f0.payload, f0.stamp⟩)
      else s1.portBump q 6
    else
      let h := h0.hopped
      let ownMsg := s1.node == 0 && h.flow.toNat == 0xFFF4 && beAt f0.payload 2 8 == s1.ident.serial
      let s2 := if !good then s1
        else if fixedFlow h then (if s1.takesLocal h || s1.isSource h then s1.takeFixed q h f0.payload f0.stamp else s1)
        else if s1.takesLocal h then s1.takeFromLink (some q) h f0.payload f0.stamp
        else s1
      if s2.endsHere h || ownMsg then s2
      else if h.hops = 0 then s2.portBump q 9
      else s2.linkOnward 0 (Output.ofPort q.other) { f0 with hdr := h } good

/-- BL_FRAME_RX (R16, R24, R84, R98, R131, R160, R164): a whole frame from a board link, found good or bad at its end. No frame comes
in from a partner on a ring of the same number, and no swarm from another ring. Slots 1 to 3 of a
wide node hold the number that slot 0's frames for them name (R17; log entry 101). -/
def execBlFrameRx (link : Fin 3) (raw : BitVec 256) (payload : List Byte) (good : Bool) (stamp : Nat) (s : State) : Outc :=
  done (if !s.dx.links[link].up then s
  else
    let h := decodeHeader raw
    let f := { QFrame.received h payload (arrivalOf s.ringTime) none stamp with came := some (h, frameCrc h payload) }
    if s.dx.mode = 2 then s.pairFrame (if s.ident.clusterId = 0 then .east else .west) h f good
    else if (headerFault (if h.path = 0 then .west else .east) h).isSome then s
    else if s.dx.mode = 1 && s.ident.clusterId ≠ 0 then
      if !good then s
      else if h.typ.toNat = typSync || h.typ.toNat = typCycleMark then s.emit (.taken .east ⟨h, payload, stamp⟩)
      else
        let t := if h.typ.toNat = typSwarm || h.dNode.toNat = 8191 then s else s.setVal 0x1001 2 h.dNode.toNat
        if h.flow.toNat = 0 then t.takeFromLink none h payload stamp else t.deliverSlot h payload
    else if s.dx.mode = 0 then s
    else if s.dx.mode = 3 && (s.dx.links[link].ring = s.ring || h.typ.toNat = typSwarm) then s
    else if s.isTarget h then (if good then s.takeFromLink none h payload stamp else s)
    else if h.dRing.toNat = s.ring || s.dx.mode = 1 then s.enterRing link f good
    else match s.crossing h with
      | some o => s.linkOnward link o f good
      | none => s.enterRing link f good)

end Sys2Proof.Machine
end

