-- ==== Sys2Proof/Machine/FlowTable.lean ====
section
/-!
DEFINITION. The flow table's window and its credits (R109 to R115, R121 to R124), and the QUOTA group (R119).
-/

namespace Sys2Proof.Machine

/-! ### Checks of a window write (R112) -/

/-- Step 4 of R112: fields within the ranges of R110 and R111, reserved and meaningless fields zero. -/
def flowFieldsOk (own : Bool) (x : FlowEntry) : Bool :=
  let taps := (List.range 5).filter fun i => x.outset.testBit (2 + i)
  let dNode := bitField x.w2 27 15
  bitField x.w0 14 1 == 0 && 1 ≤ x.srcNode && x.srcNode ≤ 8190 && 1 ≤ x.flow && x.flow ≤ 0xFFEF && x.action ≤ 3 &&
    bitField x.w3 21 20 == 0 && bitField x.w3 6 0 == 0 &&
    (if x.action = actDrop then bitField x.w1 11 0 == 0 && x.w2 == 0 && x.w3 == 0
     else if x.action = actDeliver then
       x.outset % 4 == 0 && !x.outset.testBit 7 && (taps.length == 1 || taps.length == 2) && x.w2 % 65536 == 0 &&
         !x.ackreq && !x.tsv && (x.hold == 0 || (5 ≤ x.hold && x.hold ≤ 1000)) &&
         (if x.lossless then 17 ≤ x.creditLimit && x.creditLimit ≤ 4095 else x.creditLimit == 0) &&
         (x.outset.testBit 5 || x.localSel == 0)
     else
       own && x.outset % 4 == 3 && !x.outset.testBit 7 && taps.length ≤ 1 && x.hold == 0 && x.creditLimit == 0 &&
         bitField x.w2 10 0 == 0 &&
         (if x.action = actSend then 1 ≤ dNode && dNode ≤ 8190 && bitField x.w2 14 11 ≤ 9
          else dNode ≤ 1023 && bitField x.w2 14 11 == 0))

/-- Sum of CREDIT_LIMIT over the lossless DELIVER entries on an output, one entry excepted. -/
def State.creditSum (s : State) (o : Output) (except : Nat) : Nat :=
  ((s.sw.flow.filter fun p => p.1 != except && p.2.isDeliver && p.2.lossless && p.2.outset.testBit o.num).map
    fun p => p.2.creditLimit).sum

/-- The checks of R112 on new words 0 to 3 of entry `e`. -/
def State.flowCheck (s : State) (e : Nat) (x : FlowEntry) : Result :=
  if (s.flowEntry e).retiring then .versionRetiring
  else if !x.valid then .ok
  else if flowBucket x.srcRing x.srcNode x.flow ≠ e / 8 then .range
  else if ((List.range 8).any fun i =>
      let k := e / 8 * 8 + i
      let y := s.flowEntry k
      k != e && y.valid && y.srcRing == x.srcRing && y.srcNode == x.srcNode && y.flow == x.flow) then .inUse
  else if !flowFieldsOk (x.srcRing == s.ring && x.srcNode == s.flowNode) x then .range
  else if (x.lossless && x.action == actSendSwarm) || (x.cls == 0 && 2 ≤ x.action) then .range
  else if x.isDeliver && x.lossless &&
      ((outputsOf x.outset).any fun o => decide (s.quota o < s.creditSum o e + x.creditLimit)) then .range
  else .ok

/-! ### Versions (R114, R115) -/

/-- Frames inside that carry an earlier version of an entry (R110). -/
def State.oldFrames (s : State) (e : Nat) : Nat :=
  let v := (s.flowEntry e).version
  let old (x : Option Desc) : Bool := x.any fun d => d.entry == e && d.version != v
  let queued := (Output.all.map fun o => ((s.egress o).local_.toList.flatten.filter fun f => old f.entry).length).sum
  let held := (s.sw.reseq.map fun r => (r.2.held.filter fun h => old h.2.1.entry).length).sum
  let coming := ([s.east.rx, s.west.rx].filter fun x => match x with
    | some r => match r.local_ with
      | some l => old l.2.1
      | none => false
    | none => false).length
  queued + held + coming

/-- STATUS of an entry (R110): 0 FREE, 1 ACTIVE, 2 RETIRING. -/
def FlowEntry.status (x : FlowEntry) : Nat := if x.retiring then 2 else if x.valid then 1 else 0

/-- The resequencer of an entry gives up its held frames and is cleared (R115). -/
def State.endFlow (s : State) (e : Nat) : State :=
  let id := ReseqId.entry (Fin.ofNat 16384 e)
  match s.reseq id with
  | none => s
  | some r =>
    let x := Reseq.flush 33 r
    (s.settleReseq id x.1 x.2.1 x.2.2).dropReseq id

/-- The time a shaper on the wheel has held the head of its class queue does not count towards its age (R196). -/
def State.creditAge (s : State) (i : Nat) : State :=
  let target := s.val (0x2300 + i) 2
  match Output.all[target / 4]? with
  | some o =>
    if s.val (0x2300 + i) 1 ≠ 2 || !s.sw.onWheel.contains i then s
    else
      let c : Fin 4 := Fin.ofNat 4 target
      let from_ := (aget s.sw.wheelSince i).getD s.uptime
      s.updEgress o fun g => { g with local_ := g.local_.set c (match g.local_[c] with
        | f :: l => { f with since := f.since + (s.uptime - max f.since from_) } :: l
        | [] => []) }
  | none => s

/-- A shaper starts with no tokens and waits one token interval, 128 × 8 / RATE (R200). -/
def State.resetShaper (s0 : State) (i : Nat) : State :=
  let s := s0.creditAge i
  let s1 := { s with sw := { s.sw with
    shapers := aput s.sw.shapers i (0, s.ringTime), onWheel := s.sw.onWheel.filter (· != i) } }
  if s.val (0x2300 + i) 1 = 0 then s1.disarm (.wheel i)
  else s1.enterWheel i (s.ringTime + 1024 * 1000000 * 65536 / s.val (0x2300 + i) 3)

/-- Frames that wait on an entry which takes another key bring the next numbers of the flow that ends with them (R81, R114; log
entry 91). -/
def numberWaiting (e : Nat) (x : FlowEntry) : Nat → List Offer → List Offer
  | _, [] => []
  | n, o :: l =>
    let y := o.look.getD x
    if o.entry = e ∧ y.w0 / 2 ^ 15 = x.w0 / 2 ^ 15 ∧ y.flow = x.flow then
      { o with look := some { y with nextSeq := n } } :: numberWaiting e x ((n + 1) % 65536) l
    else o :: numberWaiting e x n l

/-- Shapers whose members have changed since `old`, all where SLOT_WIDTH has, start anew (R198, R200). -/
def State.followShapers (s old : State) : State :=
  ((List.range 256).filter fun i => (s.val 0x22F1 1 != old.val 0x22F1 1 && s.val (0x2300 + i) 1 != 0) ||
    [1, 2, 3, 4].any fun j => s.val (0x2300 + i) j != old.val (0x2300 + i) j).foldl State.resetShaper s

/-- An entry takes new words (R112 to R115, R122). The SEQ that a new key starts at is open (DESIGN CHOICE, log entry 20). Words 5 to 7
and the last EPOCH go on. -/
def State.flowChange (s : State) (e : Nat) (n : FlowEntry) : State :=
  let x := s.flowEntry e
  let w : FlowEntry := if n.valid then n else {}
  let sameKey := x.w0 / 2 ^ 15 == w.w0 / 2 ^ 15 && x.flow == w.flow && x.valid == w.valid
  let ended := !(sameKey && x.action == w.action)
  let first := s.draw 65536
  let s0 : State := if sameKey then s
    else { first.2 with sw := { first.2.sw with waiting := numberWaiting e x x.nextSeq first.2.sw.waiting } }
  let s1 := if ended then s0.endFlow e else s0
  let y := s1.flowEntry e
  let s2 := s1.setFlow e { y with
    w0 := w.w0, w1 := w.w1, w2 := w.w2, w3 := w.w3, version := (y.version + 1) % 16,
    nextSeq := if sameKey then y.nextSeq else first.1
    credit := if ended then { epoch := y.credit.epoch, begun := y.credit.begun, acked := y.credit.acked } else y.credit }
  let s3 := s2.updFlow e fun z => { z with retiring := s2.oldFrames e != 0 }
  let s4 := if w.isDeliver && w.lossless && (ended || !x.lossless || x.creditLimit != w.creditLimit) then s3.newEpochs [e]
    else if w.isDeliver && w.lossless then s3
    else (s3.disarm (.creditRefresh e)).disarm (.creditInterval e)
  if ended then
    (match s4.shaperOf 1 e with
      | some i => s4.resetShaper i
      | none => s4) else s4

/-- Apply an accepted write (R112, R113). -/
def State.flowApply (s : State) (e : Nat) (n : FlowEntry) : State := ((s.flowChange e n).noteSave).pump

/-- A write of words 0 to 3 by its checks (R112). -/
def State.flowWrite (s : State) (e w0 w1 w2 w3 : Nat) : State × Result :=
  let n : FlowEntry := { w0 := w0, w1 := w1, w2 := w2, w3 := w3 }
  match s.flowCheck e n with
  | .ok => (s.flowApply e n, .ok)
  | r => (s.bump 0x2140 5, r)

/-- The bus whose port data window a target is (R295): CAN0–7 are 0–7, SER0–7 are 8–15. -/
def busOf (target : Nat) : Option (Fin 16) := if 1 ≤ target && target ≤ 16 then some (Fin.ofNat 16 (target - 1)) else none

/-- The lock of a bus on a request to its window (R297): an accepted locked request restarts the lease. -/
def State.checkLock (s : State) (rq : Requester) (target : Nat) : State × Result :=
  match busOf target with
  | none => (s, .ok)
  | some b =>
    match s.bridge.buses[b].holder with
    | some (t, lease) =>
      if t.master = rq.master then (if rq.locked then s.arm (.lease b.val) (usec lease) else s, .ok)
      else (s, if rq.locked then .lockExpired else .lockConflict)
    | none => (s, if rq.locked then .lockExpired else .ok)

/-- An access to a hardware window passes its checker, or is refused and counted (R505). -/
def State.checkAccess (s : State) (rq : Requester) (right : Right) (offset len : Nat) : State × Result :=
  match targetOf offset with
  | none => (s, .noTarget)
  | some t => if s.permits rq t right offset (offset + len - 1) then s.checkLock rq t else (s.refuse rq t offset, .accessDenied)

/-- Answer a window write: on a primary the change is mirrored first (R167). A write of the waggle table carries its apply time
(R241; its place in the data is a DESIGN CHOICE, log entry 53). -/
def State.answerWindow (s : State) (rq : Requester) (offset : Nat) (res : Result) (data : List Byte) : State :=
  if res = .ok && s.mirroring then
    s.mirror (if 0x50000000 ≤ offset then .applyAt (BitVec.ofNat 64 (inNs s.ringTime + 10000)) (BitVec.ofNat 32 offset) data
      else .write (BitVec.ofNat 32 offset) data) rq 0 offset data.length
  else s.answer rq offset data.length res []

/-- An access that a standby does not act on: shared targets are the primary's (R164). The recorder is member-own (R163). -/
def State.notMine (s : State) (rq : Requester) : Bool := s.standby && !s.dx.holding && !s.isLocal rq.master

/-- A write of a hardware window: checks of access and lock, then the window's own, then the answer. -/
def State.hwWrite (s : State) (rq : Requester) (offset : Nat) (bytes : List Byte) (k : State → State × Result) : State :=
  if s.notMine rq && offset / 0x10000000 ≠ 3 then s
  else
  let c := s.checkAccess rq .write offset bytes.length
  match c.2 with
  | .ok =>
    let r := k c.1
    r.1.answerWindow rq offset r.2 bytes
  | res => c.1.answer rq offset bytes.length res []

/-- A read of a hardware window; one that takes something out of shared state is mirrored with its data (R405). -/
def State.hwRead (s : State) (rq : Requester) (offset len : Nat) (k : State → State × Result × List Byte) : State :=
  if s.notMine rq && offset / 0x10000000 ≠ 3 then s
  else
  let c := s.checkAccess rq .read offset len
  match c.2 with
  | .ok =>
    let r := k c.1
    if r.2.1 = .ok && s.mirroring && offset / 0x10000000 = 2 && offset % 0x1000 = 0x104 then 
      r.1.mirror (.read (BitVec.ofNat 32 offset) (Fin.ofNat 4096 len)) rq 0 offset len r.2.2
    else r.1.answer rq offset len r.2.1 r.2.2
  | res => c.1.answer rq offset len res []

/-- FLOW_TABLE_WRITE (R109, R112). -/
def execFlowTableWrite (rq : Requester) (e : Fin 16384) (w0 w1 w2 w3 : BitVec 32) (s : State) : Outc :=
  let offset := 0x40000000 + 32 * e.val
  let data := leBytes 4 w0.toNat ++ leBytes 4 w1.toNat ++ leBytes 4 w2.toNat ++ leBytes 4 w3.toNat
  done (s.hwWrite rq offset data fun t => t.flowWrite e.val w0.toNat w1.toNat w2.toNat w3.toNat)

/-- RETIREMENT_END (R114). -/
def execRetirementEnd (e : Fin 16384) (s : State) : Outc :=
  done (if (s.flowEntry e.val).retiring && s.oldFrames e.val = 0 then s.updFlow e.val fun x => { x with retiring := false }
    else s)

/-- The words of an entry as read (R109, R110). -/
def State.flowWords (s : State) (e : Nat) : List Nat :=
  let x := s.flowEntry e
  [x.w0, x.w1, x.w2, x.w3, 2 ^ 30 * x.status + 2 ^ 26 * x.version + min 0xFFFF (s.oldFrames e), x.frames, x.drops,
    if x.isSend then x.credit.acked else 65536 * x.gaps + x.late]

/-! ### Credits (R121 to R124) -/

/-- One grant at its SEND entry (R123). -/
def State.applyGrant (s : State) (ring node : Nat) (g : List Byte) : State :=
  let flow := beAt g 0 2
  match s.lookup s.ring s.flowNode flow with
  | none => s.bump 0x2150 0x12
  | some e =>
    let x := s.flowEntry e
    if x.isSend && x.action == actSend && bitField x.w2 31 28 == ring && bitField x.w2 27 15 == node then
      let flags := beAt g 4 1
      let s1 := if x.lossless && flags.testBit 1 then
        s.updFlow e fun y =>
          let c := y.credit
          if !c.live || c.epoch != beAt g 2 2 then
            { y with credit := { c with
                epoch := beAt g 2 2, limit := beAt g 8 2, freed := beAt g 12 4, consumed := 0, live := true } }
          else
            let d := (beAt g 12 4 + 2 ^ 32 - c.freed) % 2 ^ 32
            if 1 ≤ d && d < 2 ^ 31 then { y with credit := { c with freed := beAt g 12 4 } } else y
        else s
      if flags.testBit 0 then
        s1.updFlow e fun y =>
          let d := (beAt g 6 2 + 65536 - y.credit.acked) % 65536
          if 1 ≤ d && d < 32768 then { y with credit := { y.credit with acked := beAt g 6 2 } } else y
      else s1
    else s.bump 0x2150 0x12

/-- CREDIT (R123, R538). -/
def execCredit (p : RingPort) (f : TakenFrame) (s : State) : Outc :=
  done (if !s.hears p || f.hdr.typ.toNat ≠ typCredit then s
  else
    let n := beAt f.payload 0 2
    if n = 0 || 64 < n || f.payload.length ≠ 4 + 16 * n then s.portBump p 6
    else ((List.range n).foldl (fun t i =>
      t.applyGrant f.hdr.sRing.toNat f.hdr.sNode.toNat ((f.payload.drop (4 + 16 * i)).take 16)) s).pump)

/-- Entries of the same source whose grants are due now (R122). -/
def State.dueGrants (s : State) (ring node : Nat) : List Nat :=
  (s.sw.flow.filter fun p => p.2.isDeliver && p.2.srcRing == ring && p.2.srcNode == node &&
    (s.due (.creditInterval p.1) || s.due (.creditRefresh p.1))).map (·.1)

/-- CREDIT_INTERVAL_EXPIRY (R122): grants due at the same moment for one source share a frame. -/
def execCreditIntervalExpiry (e : Fin 16384) (s : State) : Outc :=
  done (if s.due (.creditInterval e.val) then
    s.sendGrants (s.flowEntry e.val).srcRing (s.flowEntry e.val).srcNode
      (s.dueGrants (s.flowEntry e.val).srcRing (s.flowEntry e.val).srcNode)
  else s)

/-- CREDIT_REFRESH (R122). -/
def execCreditRefresh (e : Fin 16384) (s : State) : Outc :=
  done (if s.due (.creditRefresh e.val) then
    s.sendGrants (s.flowEntry e.val).srcRing (s.flowEntry e.val).srcNode
      (s.dueGrants (s.flowEntry e.val).srcRing (s.flowEntry e.val).srcNode)
  else s)

/-- CREDIT_STALL (R124). -/
def execCreditStall (e : Fin 16384) (s : State) : Outc :=
  done (s.onDue (.creditStall e.val) fun t =>
    if (t.sw.waiting.any fun o => o.entry == e.val) && (t.flowEntry e.val).lossless then
      ((t.bump 0x2150 0x11).raise 0x10 4 contained
        (packArg [i16 e.val, i16 (bitField (t.flowEntry e.val).w2 27 15)])).arm (.creditStall e.val) (nsec (t.val 0x2100 7))
    else t)

/-- Originate what a field port or worker routes to a flow (R329): on the FLOW of the named entry, from a queue of 16
frames. `j` is the port's ROUTE_DISCARDS at index `i`. -/
def State.routeFlow (s : State) (org : Originator) (entry : Nat) (payload : List Byte) (i j : Nat) : State :=
  if !s.ownSend entry then s.bump 0x2150 0x15
  else if 16 ≤ s.waitingOf org then s.bump i j
  else s.present { org := org, typ := 0, entry := entry, payload := payload }

/-! ### Quotas (R119) -/

/-- The consistency check of QUOTA. -/
def State.quotaOk (s : State) (set : List (Nat × Nat)) : Bool :=
  let q (o : Output) : Nat := s.setValue set 0x2110 (o.num + 1)
  (Output.all.all fun o => 64 ≤ q o && q o ≤ 28672 && s.creditSum o 16384 ≤ q o) && (Output.all.map q).sum ≤ 28672

end Sys2Proof.Machine
end

