-- ==== Sys2Proof/Machine/RingState.lean ====
section
/-!
DEFINITION. Hop reports, elections and the keeper role (ch. 05); discovery, joins, commissioning and the ring map (ch. 14).
-/

namespace Sys2Proof.Machine

/-- A ring management message taken on an UP port, of this MSG and of the LEN its table gives (R146, R538). -/
def State.takeMsg (s : State) (p : RingPort) (f : TakenFrame) (msg len : Nat) (k : Nat → List Byte → State) : State :=
  if !s.hears p || f.hdr.flow.toNat != 0xFFF4 || beAt f.payload 0 1 != msg then s
  else if f.payload.length != len then s.portBump p 6
  else k (beAt f.payload 2 8) f.payload

/-! ### Hop reports -/

/-- HOP_REPORT_REPEAT (R143). -/
def execHopReportRepeat (p : RingPort) (s : State) : Outc :=
  done (s.onDue (.hopReport p) fun t => if t.portVal p 1 == 1 && !t.isUp p then t.sendHopReport p else t)

/-- W and E train directly to each other while the map holds positions between them: the keeper waits 60 s (R452). -/
def State.watchGap (s : State) (serial node port state partner : Nat) : State :=
  if !s.isKeeper || state = 0 then s
  else match s.placeOf node serial, s.placeOf 0 partner with
    | some a, some b =>
      let w := if port = 0 then a else b
      let e := if port = 0 then b else a
      let gap := (e + s.positions - w) % max 1 s.positions
      if 1 < gap then
        (if s.armed .positionDrop then s
         else ({ s with rs := { s.rs with dropping := some (w, e) } } : State).arm .positionDrop (secs 60))
      else s
    | _, _ => s

/-- HOP_REPORT (R143). -/
def execHopReport (p : RingPort) (f : TakenFrame) (s : State) : Outc :=
  done (s.takeMsg p f 3 24 fun serial b =>
    if serial = s.ident.serial then s
    else
      ((s.bump 0x2400 8).takeReport serial (beAt b 10 2) (beAt b 12 1) (beAt b 13 1) (beAt b 14 8)).watchGap serial
        (beAt b 10 2) (beAt b 12 1) (beAt b 13 1) (beAt b 14 8))

/-- DOWN_HOP_EXPIRY (R143): hops without a DOWN report for 3 s leave the set. -/
def execDownHopExpiry (s : State) : Outc :=
  done (if s.rs.down.any fun h => h.last + secs 3 ≤ s.uptime then
    ({ s with rs := { s.rs with down := s.rs.down.filter fun h => s.uptime < h.last + secs 3 } } : State).updateRing
  else s)

/-! ### Elections -/

/-- A reachable keeper has been adopted (R150). -/
def State.hasKeeper (s : State) : Bool :=
  s.rs.keeperSerial != 0 && s.reachesHub (s.val 0x2401 1) s.rs.keeperSerial

/-- The keeper role is given up to a hub of higher TERM or rank (R148, R156). -/
def State.yieldKeeper (s : State) : State :=
  let s1 := s.raise 0xA 5 corrected (packArg [i16 s.node, i16 (s.val 0x2401 2), i32 s.term])
  (((((s1.setVal 0x1001 4 0).setFlag 0x2401 4 false).setTimeState .coarse).disarm .announce).disarm .mapUpdate).stopReference.armHoldover

/-- Learn the rank of a hub on the map (R151). -/
def State.learnRank (s : State) (serial prio : Nat) : State :=
  { s with rs := { s.rs with map := { s.rs.map with
      positions := s.rs.map.positions.map fun q => if q.serial = serial then { q with prio := prio } else q } } }

/-- ELECT (R148): with a reachable keeper no election is started (R150; DEDUCED, log entry 21). -/
def execElect (p : RingPort) (f : TakenFrame) (s : State) : Outc :=
  done (s.takeMsg p f 1 16 fun serial b =>
    if serial = s.ident.serial then s
    else
      let bid : Bid := ⟨beAt b 10 1, serial, if (beAt b 11 1).testBit 0 then beAt b 12 2 else 0⟩
      let s1 := s.learnRank serial bid.prio
      if s1.isKeeper then
        (if outranks bid.prio serial s1.keptPriority s1.ident.serial then s1.yieldKeeper else s1)
      else if s1.rs.election.isNone && s1.hasKeeper then s1
      else
        let s2 := if s1.rs.election.isNone then s1.startElection else s1
        match s2.rs.election with
        | some l =>
          if s2.reachesHub bid.node serial then
            { s2 with rs := { s2.rs with election := some (bid :: l.filter fun x => x.serial != serial) } }
          else s2
        | none => s2)

/-- ELECT_ROUND2 (R148). -/
def execElectRound2 (s : State) : Outc :=
  done (s.onDue .electRound2 fun t => if t.eligibleKeeper && t.rs.election.isSome then t.sendElect 2 else t)

/-- The highest of a list of bids, and the list without it. -/
def bestBid : List Bid → Option Bid
  | [] => none
  | b :: l => match bestBid l with
    | some c => if outranks b.prio b.serial c.prio c.serial then some b else some c
    | none => some b

/-- The winner takes the role and names the second-ranked hub backup (R148); in a segment that reaches neither keeper nor
backup it is an island keeper (R155). -/
def State.winElection (s : State) (others : List Bid) : State :=
  let island := s.rs.keeperSerial != 0
  let old := s.rs.keeperSerial
  let t := (s.term + 1) % 2 ^ 32
  let s1 := s.takeKeeper island t
  let (bn, bs) := match bestBid others with
    | some (b : Bid) => (b.node, b.serial)
    | none => (0, 0)
  let s2 := { s1.setVal 0x2401 2 bn with rs := { s1.rs with backupSerial := bs } }
  let s3 := if island then s2.raise 0xA 8 contained (packArg [i32 (old % 2 ^ 32), i32 t])
    else s2.raise 0xA 4 corrected (packArg [i16 s2.node, i16 (s2.val 0x2401 2), i32 t])
  (s3.announce).arm .mapUpdate (secs 10)

/-- No eligible hub is within reach (R149). -/
def State.noteNoKeeper (s : State) : State :=
  let s1 := if s.rs.noKeeper then s
    else ({ s with rs := { s.rs with noKeeper := true } } : State).raise 0xA 9 contained (packArg [i32 s.reachable])
  ((s1.arm .electRestart (msec 970)).arm .keeperQuery 0)

/-- ELECTION_DECISION (R148, R149), at E + 30 ms. -/
def execElectionDecision (s : State) : Outc :=
  done (s.onDue .electDecision fun t =>
    match t.rs.election with
    | none => t
    | some l =>
      let l1 := l.filter fun b => b.serial = t.ident.serial || t.reachesHub b.node b.serial
      match bestBid l1 with
      | none => t.noteNoKeeper
      | some b => if b.serial = t.ident.serial then t.winElection (l1.filter fun x => x.serial != b.serial) else t)

/-- ELECTION_RESTART (R148, R149). -/
def execElectionRestart (s : State) : Outc :=
  done (s.onDue .electRestart fun t => if t.isKeeper || t.hasKeeper then t else t.startElection)

/-- KEEPER_ANNOUNCE_TIMER (R146). -/
def execKeeperAnnounceTimer (s : State) : Outc :=
  done (s.onDue .announce fun t => if t.isKeeper then t.announce else t)

/-- Adopt the keeper and backup that a KEEPER_ANNOUNCE names (R148, R151). -/
def State.adoptKeeper (s : State) (serial : Nat) (b : List Byte) : State :=
  let backup := beAt b 14 8
  let s0 := if s.rs.keeperSerial != 0 && s.rs.keeperSerial != serial then s.setVal 0x2401 0xA s.rs.keeperSerial else s
  let s1 := (((s0.setVal 0x2401 1 (beAt b 10 2)).setVal 0x2401 2 (beAt b 12 2)).setVal 0x2401 3 (beAt b 24 4)).setFlag 0x2401 4
    ((beAt b 22 1).testBit 0)
  let wasBackup := s.isBackup
  let isNow := backup = s.ident.serial && s.eligibleKeeper
  let s2 := { s1 with rs := { s1.rs with
    keeperSerial := serial, keeperPrio := beAt b 23 1, backupSerial := backup, noKeeper := false, election := none,
    resigning := isNow && beAt b 23 1 == 0, appointed := if isNow && !wasBackup then s.uptime else s1.rs.appointed
    unmirrored := if isNow then s1.rs.unmirrored else none } }
  let s3 := [Alarm.discovery, .keeperQuery, .electRound2, .electDecision, .electRestart].foldl State.disarm s2
  if isNow then (if wasBackup then s3 else (s3.setVal 0x1001 4 2).setVal 0x2401 8 1)
  else if wasBackup then ((s3.setVal 0x1001 4 0).setVal 0x2401 8 0).disarm .lossGuard
  else s3

/-- KEEPER_ANNOUNCE (R148, R151, R156, R451): the keeper's own copy, come round, counts the ring's positions. -/
def execKeeperAnnounce (p : RingPort) (f : TakenFrame) (s : State) : Outc :=
  done (s.takeMsg p f 2 32 fun serial b =>
    if serial = s.ident.serial then
      (if s.isKeeper then { s with rs := { s.rs with counted := s.hops - f.hdr.hops.toNat } } else s)
    else
      let term := beAt b 24 4
      let s1 := s.learnRank serial (beAt b 23 1)
      if s1.isKeeper then
        if s1.term < term || (term = s1.term && outranks (beAt b 23 1) serial s1.keptPriority s1.ident.serial) then
          s1.yieldKeeper.adoptKeeper serial b
        else s1.appointBackup
      else if s1.hasKeeper && (term < s1.term || (term = s1.term && serial ≠ s1.rs.keeperSerial && beAt b 10 2 ≠ s1.val 0x2401 1 &&
          outranks s1.rs.keeperPrio s1.rs.keeperSerial (beAt b 23 1) serial)) then s1
      else s1.adoptKeeper serial b)

/-- KEEPER_LOSS_GUARD_EXPIRY (R152). -/
def execKeeperLossGuardExpiry (s : State) : Outc :=
  done (s.onDue .lossGuard fun t => if t.mayKeep && t.rs.markAwaited then t.keeperTakeover else t)

/-- MIRROR_COPY_DONE (R151, R192): the backup has fetched the keeper's ring map, settings copies and cycle values, or a later change of
them. The transfers themselves are the firmware's (DESIGN CHOICE, log entry 107). -/
def execMirrorCopyDone (map : RingMap) (copies : List (Nat × SavedSet)) (length : BitVec 32) (pct : BitVec 8) (s : State) : Outc :=
  done (if !s.isBackup || s.val 0x2401 8 = 0 then s
  else
    let s1 := if s.rs.map.version ≤ map.version then s.adoptMap map else s
    let s2 : State := { s1 with rs := { s1.rs with
      copies := copies.foldl (fun acc c => aput acc c.1 c.2) s1.rs.copies, unmirrored := none } }
    ((((s2.setVal 0x2200 1 length.toNat).setVal 0x2200 2 pct.toNat)).setVal 0x2401 8 2))

/-- What a write of KEEPER_PRIORITY does (R150): on the keeper it counts from the next keeper loss; 0 hands the role to the backup at
the next boundary, and the keeper tells it by announcing priority 0 (DESIGN CHOICE, log entry 26). -/
def keeperPriorityFx (v : Nat) (s : State) : State :=
  let t := s.setVal 0x1001 5 v
  let give := v = 0 && t.rs.backupSerial != 0
  if t.isKeeper && give != t.rs.resigning then ({ t with rs := { t.rs with resigning := give } } : State).announce
  else t

/-- KEEPER_PRIORITY (R150). -/
def execKeeperPriority (rq : Requester) (value : List Byte) (s : State) : Outc :=
  done (s.objectWrite rq (objKey 0x1001 5) value keeperPriorityFx)

/-! ### Discovery -/

/-- DISCOVERY_WAIT (R448). -/
def execDiscoveryWait (s : State) : Outc :=
  done (s.onDue .discovery fun t => if t.rs.keeperSerial = 0 && t.rs.election.isNone then t.startElection else t)

/-- KEEPER_QUERY_SEND (R448, R450). -/
def execKeeperQuerySend (s : State) : Outc :=
  done (s.onDue .keeperQuery fun t =>
    if t.isKeeper || (t.hasKeeper && !t.rs.noKeeper) then t
    else (t.sendRingMsg t.ring 8191 (beBytes 2 0x1000 ++ beBytes 8 t.ident.serial ++ beBytes 2 t.rs.stored ++ beBytes 4 0)).arm
      .keeperQuery (secs 1))

/-- KEEPER_QUERY (R448). -/
def execKeeperQuery (p : RingPort) (f : TakenFrame) (s : State) : Outc :=
  done (s.takeMsg p f 0x10 16 fun serial _ => if s.isKeeper && serial != s.ident.serial then s.announce else s)

/-! ### Joins -/

/-- JOIN_REQ (R450), repeated every JOIN_RETRY. -/
def State.sendJoinReq (s : State) : State :=
  let east := s.portVal .east 8
  let west := s.portVal .west 8
  let flags := (if s.rs.defaultsLoaded then 1 else 0) + (if s.dx.mode = 2 then 2 else 0) +
    (if s.dx.mode = 2 && s.ident.clusterId = 1 then 4 else 0)
  ((s.sendRingMsg s.ring 8191 (beBytes 2 0x1100 ++ beBytes 8 s.ident.serial ++ beBytes 2 s.rs.stored ++ beBytes 2 s.hops ++
    beBytes 2 (bitField west 27 15) ++ beBytes 2 (bitField east 27 15) ++ beBytes 8 (s.portVal .west 7) ++
    beBytes 8 (s.portVal .east 7) ++ beBytes 4 s.rs.map.version ++ beBytes 4 (s.val 0x1010 2) ++ beBytes 1 flags ++
    beBytes 1 s.ident.variant ++ beBytes 4 0)).setVal 0x2420 5 1).arm .joinRetry (nsec (s.val 0x2420 8))

/-- The time STATE first becomes FINE, SINGLE or KEEPER: the hub asks to join (R450). A hub held after its self-test never
does (R445). -/
def State.firstJoin (s : State) : State :=
  if s.val 0x2420 5 == 0 && (s.timeState == 2 || s.timeState == 3 || s.timeState == 5) then
    (s.setVal 0x2420 1 8).sendJoinReq
  else s

/-- JOIN_RETRY (R450). -/
def execJoinRetry (s : State) : Outc :=
  done (s.onDue .joinRetry fun t => if t.val 0x2420 5 == 1 then t.sendJoinReq else t)

/-- A transfer request of the keeper's push, as master 0 in C3 (R50, R454); it waits where 256 requests are in flight. -/
def State.pushRequest (s : State) (node : Nat) (b : List Byte) : State :=
  let p : Pending := {
    num := 0, tag := Fin.ofNat 65536 (0x8000 + node), via := .push, typ := typReadReq, ring := s.ring, node := node, offset := 0
    length := b.length, payload := requestHead 0 0 0 b.length ++ b, cls := 3 }
  if s.bridge.outstanding.length < 256 then
    ((((s.sendFlow0 p.typ p.cls 0 p.ring p.node 0 p.tag.val false p.payload).bump 0x8300 3).track p).arm (.reqTimeout p.num p.tag)
      (nsec (s.val 0x8300 1)))
  else { s with bridge := { s.bridge with waiting := s.bridge.waiting ++ [p] } }

/-- A transfer request on SETTINGS_IMAGE (R51): `op` 4 opens the session, 6 writes a segment. -/
def pushBytes (op session pos : Nat) (last : Bool) (value : List Byte) : List Byte :=
  beBytes 1 op ++ beBytes 1 (if last then 1 else 0) ++ beBytes 2 0x2420 ++ beBytes 1 9 ++ beBytes 1 session ++ beBytes 2 value.length ++
    beBytes 4 pos ++ value

/-- A push ended without its LAST segment: the hub discards the image, counts the loss and asks to join again (R454). -/
def State.losePush (s : State) : State :=
  ((({ s with rs := { s.rs with image := [] } } : State).bump 0x2420 0xA).setVal 0x2420 5 1).arm .joinRetry (nsec (s.val 0x2420 8))

/-- The keeper begins to write its copy of a node's set into that hub's SETTINGS_IMAGE (R25, R454). -/
def State.startPush (s : State) (node : Nat) : State :=
  match aget s.rs.copies node with
  | some set =>
    let image := setBytes set ++ leBytes 4 set.crc
    ({ s with rs := { s.rs with pushes := aput s.rs.pushes node image } } : State).pushRequest node (pushBytes 4 0 image.length false [])
  | none => s

/-- JOIN_GRANT to a joiner (R450, R453): kind 0 number, 1 pass-through, 2 wait. The keeper grants itself directly. With the push flag
the keeper's copy of the node's set follows (R454). -/
def State.sendJoinGrant (s : State) (serial node kind : Nat) (push : Bool) : State :=
  if serial = s.ident.serial then
    if kind = 0 then
      ({ s with rs := { s.rs with grant := some ⟨node, s.ring, s.cycleAhead, true⟩ } }.setVal 0x2420 5 3).disarm .joinRetry
    else s
  else
    let s1 := s.sendRingMsg s.ring 8191 (beBytes 2 0x1200 ++ beBytes 8 s.ident.serial ++ beBytes 8 serial ++ beBytes 2 node ++
      beBytes 1 s.ring ++ beBytes 1 kind ++ beBytes 1 (if push then 1 else 0) ++ beBytes 1 0 ++ beBytes 4 s.cycleAhead ++
      beBytes 4 s.rs.map.version)
    if push then s1.startPush node else s1

/-- MAP_UPDATE (R450, R457), sent at each change of the map and every 10 s. -/
def State.sendMapUpdate (s : State) (applyCycle : Nat) : State :=
  (s.sendRingMsg s.ring 8191 (beBytes 2 0x1300 ++ beBytes 8 s.ident.serial ++ beBytes 4 s.rs.map.version ++
    beBytes 2 s.positions ++ beBytes 4 applyCycle ++ beBytes 4 0)).arm .mapUpdate (secs 10)

/-- The run of unnumbered hubs around a joiner, from west to east, if a JOIN_REQ of each is held (R452). -/
def runWestOf (joins : List JoinReq) : Nat → JoinReq → Option (List JoinReq)
  | 0, _ => none
  | k + 1, j =>
    if j.westNode != 0 then some []
    else match joins.find? fun x => x.serial == j.westSerial with
      | some w => (runWestOf joins k w).map fun l => l ++ [w]
      | none => none

def runEastOf (joins : List JoinReq) : Nat → JoinReq → Option (List JoinReq)
  | 0, _ => none
  | k + 1, j =>
    if j.eastNode != 0 then some []
    else match joins.find? fun x => x.serial == j.eastSerial with
      | some e => (runEastOf joins k e).map fun l => e :: l
      | none => none

/-- Lowest number free in the map, above `lo` and below `hi` (R15). -/
def freeNumber (used : List Nat) (lo hi : Nat) : Option Nat :=
  (List.range (hi - lo - 1)).findSome? fun i => if used.contains (lo + 1 + i) then none else some (lo + 1 + i)

/-- Numbers for an inserted run, eastward; 0 where none is free (R15, R452). -/
def runNumbers (used : List Nat) (hi : Nat) : Nat → List JoinReq → List MapPos
  | _, [] => []
  | lo, j :: l =>
    match freeNumber used lo hi with
    | some n => { node := n, serial := j.serial } :: runNumbers used hi n l
    | none => { node := 0, pass := true, serial := j.serial } :: runNumbers used hi lo l

/-- Positions strictly between two places of the map, eastward, replaced by others. -/
def splice (l : List MapPos) (w e : Nat) (mid : List MapPos) : List MapPos :=
  if w < e then l.take (w + 1) ++ mid ++ l.drop e else l.take (w + 1) ++ mid

/-- Grant what the map now holds for a joiner (R452, R453). -/
def State.grantPlace (s : State) (j : JoinReq) (q : MapPos) (push : Bool) : State :=
  if q.node = 0 then s.sendJoinGrant j.serial 0 1 false
  else s.sendJoinGrant j.serial q.node 0 (push && s.rs.copies.any fun c => c.1 == q.node)

/-- Decide a join by the table of R452. A position whose serial the map does not know yet is taken by the first hub that
joins there (DEDUCED, log entry 23). -/
def State.decideJoin (s : State) (j : JoinReq) : State :=
  let s0 := { s with rs := { s.rs with joins := j :: s.rs.joins.filter fun x => x.serial != j.serial } }
  let closeOf (t : State) (done : List Nat) : State :=
    let l := t.rs.joins.filter fun x => !done.contains x.serial
    { t with rs := { t.rs with joins := l } }.setVal 0x2410 7 l.length
  if s.rs.map.version < j.mapVersion then
    ((s0.sendJoinGrant j.serial 0 2 false).arm .mapRead 0).setVal 0x2410 7 s0.rs.joins.length
  else if s.rs.map.version = 0 || s.positions = 0 then (s0.sendJoinGrant j.serial 0 2 false).setVal 0x2410 7 s0.rs.joins.length
  else
    let here := s.rs.map.positions[j.position]?
    match here with
    | some q =>
      if q.serial = j.serial || q.serial = 0 then
        let s1 := s0.setMap { s0.rs.map with
          positions := s0.rs.map.positions.set j.position { q with serial := j.serial } }
        closeOf (s1.grantPlace j q (j.flags.testBit 0)) [j.serial]
      else run s0 closeOf
    | none => run s0 closeOf
where
  run (s0 : State) (closeOf : State → List Nat → State) : State :=
    match runWestOf s0.rs.joins 8192 j, runEastOf s0.rs.joins 8192 j with
    | some w, some e =>
      let l := w ++ [j] ++ e
      let wNode := ((l.head?).getD j).westNode
      let eNode := ((l.getLast?).getD j).eastNode
      match s0.placeOf wNode 0, s0.placeOf eNode 0 with
      | some a, some b =>
        let n := s0.positions
        let between := if a < b then b - a - 1 else b + n - a - 1
        let used := s0.rs.map.positions.map (·.node)
        let mid : List MapPos :=
          if between = l.length then
            (List.range l.length).map fun i =>
              { s0.rs.map.positions.getD ((a + 1 + i) % n) { node := 0 } with serial := (l.getD i j).serial }
          else
            let kept := used.filter fun m => !(((List.range between).map fun i => s0.nodeAt (a + 1 + i)).contains m)
            runNumbers kept (if b ≤ a then 8191 else eNode) wNode l
        let s1 := s0.adoptMap { s0.rs.map with
          version := s0.rs.map.version + 1, positions := splice s0.rs.map.positions a b mid }
        let s2 := (List.range l.length).foldl
          (fun t i => t.grantPlace (l.getD i j) (mid.getD i { node := 0 }) (between = l.length)) s1
        closeOf (s2.sendMapUpdate 0) (l.map (·.serial))
      | _, _ => s0.setVal 0x2410 7 s0.rs.joins.length
    | _, _ => s0.setVal 0x2410 7 s0.rs.joins.length

/-- JOIN_REQ (R451, R452): during a management restart the keeper only keeps it (R30). -/
def execJoinReq (p : RingPort) (f : TakenFrame) (s : State) : Outc :=
  done (s.takeMsg p f 0x11 48 fun serial b =>
    if !s.isKeeper then s
    else
      let d := beAt b 12 2 - f.hdr.hops.toNat
      let n := if s.positions = 0 then s.rs.counted else s.positions
      let j : JoinReq := {
        serial := serial, stored := beAt b 10 2,
        position := if serial = s.ident.serial then (s.ownPlace.getD 0) else if p = .east then d else n - d,
        westNode := beAt b 14 2, eastNode := beAt b 16 2, westSerial := beAt b 18 8, eastSerial := beAt b 26 8,
        mapVersion := beAt b 34 4, saveSeq := beAt b 38 4, flags := beAt b 42 1, variant := beAt b 43 1 }
      if s.mgmt.restarting then
        { s with rs := { s.rs with joins := j :: s.rs.joins.filter fun x => x.serial != serial } }
      else s.decideJoin j)

/-- JOIN_GRANT (R453, R454). -/
def execJoinGrant (p : RingPort) (f : TakenFrame) (s : State) : Outc :=
  done (s.takeMsg p f 0x12 32 fun _ b =>
    if beAt b 10 8 != s.ident.serial || s.val 0x2420 5 != 1 then s
    else match beAt b 21 1 with
      | 0 =>
        if (beAt b 22 1).testBit 0 then
          ((({ s with rs := { s.rs with image := [] } }.setVal 0x1001 2 (beAt b 18 2)).setVal 0x1001 1 (beAt b 20 1)).setVal
            0x2420 5 2).disarm .joinRetry
        else
          ({ s with rs := { s.rs with grant := some ⟨beAt b 18 2, beAt b 20 1, beAt b 24 4, true⟩ } }.setVal 0x2420 5 3).disarm
            .joinRetry
      | 1 => ((s.setVal 0x1001 4 3).setVal 0x2420 5 5).disarm .joinRetry
      | _ => s)

/-- At JOIN_CYCLE the granted hub takes its numbers and begins cyclic service (R453); at APPLY_CYCLE a renumbered hub takes
its new number (R457), and one that only passed frames begins its service with it (R15). The map is read 0 to 10 s later, at a moment the spec leaves open (log entry 4). -/
def State.takeGrant (s : State) : State :=
  match s.rs.grant with
  | none => s
  | some g =>
    let s1 := { s with rs := { s.rs with grant := none, stored := g.node } }
    let s1k := if s.isKeeper then s1.setVal 0x2401 1 g.node
      else if s.rs.backupSerial = s.ident.serial then s1.setVal 0x2401 2 g.node else s1
    let s2 := (((s1k.setVal 0x1001 2 g.node).setVal 0x1001 1 g.ring).noteSave)
    if !g.join && s.val 0x2420 5 ≠ 5 then s2
    else
      let role := if s.isKeeper then 1 else if s.rs.backupSerial = s.ident.serial then 2 else 0
      let d := s2.draw (secs 10 + 1)
      let s3 := if s.isKeeper then d.2 else d.2.arm .mapRead d.1
      ((((((s3.setVal 0x1001 4 role).setVal 0x2420 5 4).setVal 0x2420 1 9).setVal 0x2420 0xC (time80 s.ringTime)).setVal 0x2420 6
        (min 0xFFFFFFFF (inNs (s.uptime - s.rs.released)))).raise 7 4 corrected (packArg [i16 g.node])).armRing .plan
        (s.ringTime + secs 86400)

/-! ### Settings push -/

/-- Load a set of persistent values over the present ones (R40, R446, R454): objects, shapers that start, and the flow table, whose
LOSSLESS entries begin a credit epoch (R122). -/
def State.loadSet (s : State) (set : SavedSet) : State :=
  let kept := s.objs.filter fun kv => !keyPersistent kv.1
  let s1 := set.objs.foldl (fun t kv => if keyPersistent kv.1 then t.setVal (kv.1 / 256) (kv.1 % 256) kv.2 else t)
    { s with objs := kept }
  let gone := (s1.sw.flow.filter fun p => p.2.valid && (aget set.flow p.1).isNone).map fun p => (p.1, [])
  (gone ++ set.flow).foldl (fun (t : State) p =>
    let x := t.flowEntry p.1
    if p.2 == [x.w0, x.w1, x.w2, x.w3] then t
    else t.flowChange p.1 { w0 := p.2.getD 0 0, w1 := p.2.getD 1 0, w2 := p.2.getD 2 0, w3 := p.2.getD 3 0 }) (s1.followShapers s)

/-! ### Ring map -/

/-- MAP_READ_DELAY (R453, R457): the keeper's MAP as read, with the serials and ranks this hub knows. A number that changes
is taken at APPLY_CYCLE. -/
def execMapReadDelay (map : RingMap) (s : State) : Outc :=
  done (s.onDue .mapRead fun t =>
    let place := t.ownPlace
    let t0 := t.adoptMap map
    let t1 : State := { t0 with rs := { t0.rs with unmirrored := none } }
    match place, t.rs.renumber with
    | some q, some (v, c) =>
      let n := (map.positions.getD q { node := t.node }).node
      let t2 := { t1 with rs := { t1.rs with renumber := none } }
      if v = map.version && c != 0 && n != 0 && n != t.node then
        { t2 with rs := { t2.rs with grant := some ⟨n, t.ring, c, false⟩ } }
      else t2
    | _, _ => t1)

/-- Node numbers by STRIDE from node 1 eastward; slot 1 of a duplex pair takes the number after slot 0 and the stride
resumes after it (R455, R456). -/
def strideNumbers (stride : Nat) (slot1 : Nat → Bool) : Nat → Nat → Nat → List MapPos
  | 0, _, _ => []
  | k + 1, p, last =>
    let n := if p = 0 then 1 else if slot1 p then last + 1 else last + stride
    { node := n } :: strideNumbers stride slot1 k (p + 1) n

/-- The keeper builds the ring map by STRIDE and takes node 1 (R456). -/
def commissionFx (s : State) : State :=
  let m : RingMap := {
    version := 1, ring := s.ring, stride := s.val 0x2410 4,
    positions := (strideNumbers (s.val 0x2410 4) s.isSlot1 s.rs.counted 0 1).set 0
      { node := 1, serial := s.ident.serial, prio := s.val 0x1001 5 } }
  let s1 := ((s.adoptMap m).sendMapUpdate 0).sendJoinGrant s.ident.serial 1 0 false
  s1.rs.joins.foldl (fun t j => if j.serial = s.ident.serial then t else t.decideJoin j) s1

/-- COMMISSION (R456). -/
def execCommission (rq : Requester) (value : List Byte) (s : State) : Outc :=
  done (s.objectWrite rq (objKey 0x2410 5) value fun _ t => commissionFx t)

/-- The map that the bytes of MAP spell. -/
def mapOfBytes (b : List Byte) : RingMap where
  version := leAt b 0 4
  ring := leAt b 6 1
  stride := leAt b 7 1
  positions := (List.range (leAt b 4 2)).map fun i =>
    { node := leAt b (16 + 4 * i) 2, pass := (leAt b (18 + 4 * i) 2).testBit 0 }

/-- Numbers rise strictly, unnumbered positions apart. -/
def risingNodes (l : List MapPos) : Bool :=
  let ns := (l.filter fun p => p.node != 0).map (·.node)
  (ns.zip (ns.drop 1)).all fun x => x.1 < x.2

/-- The checks of a write of MAP (R457). -/
def State.mapCheck (s : State) (b : List Byte) : Result :=
  let m := mapOfBytes b
  if b.length ≠ 16 + 4 * leAt b 4 2 then .typeLength
  else if m.positions.length ≠ s.positions || ((m.positions.head?).map (·.node)) ≠ some 1 || !risingNodes m.positions then .range
  else .ok

/-- Replace the map and announce when numbers apply (R457). -/
def State.writeMap (s : State) (b : List Byte) : State :=
  let m := mapOfBytes b
  let pos := (List.range m.positions.length).map fun i =>
    let q := m.positions.getD i { node := 0 }
    let o := s.rs.map.positions.getD i { node := 0 }
    { q with serial := o.serial, prio := o.prio }
  let place := s.ownPlace
  let c := s.cycleAhead
  let s1 := s.adoptMap { m with version := s.rs.map.version + 1, positions := pos }
  let n := ((place.bind fun i => pos[i]?).map (·.node)).getD s.node
  let s2 := if n ≠ 0 && n ≠ s.node then { s1 with rs := { s1.rs with grant := some ⟨n, s.ring, c, false⟩ } } else s1
  s2.sendMapUpdate c

/-- MAP_WRITE (R457, R460): the whole value, as its LAST segment completes it. -/
def execMapWrite (rq : Requester) (value : List Byte) (s : State) : Outc :=
  let key := objKey 0x2410 6
  done (match s.checkObject rq key .write with
  | .ok =>
    if !s.isKeeper then s.answerWrite rq 6 key .readOnly []
    else match s.mapCheck value with
      | .ok => (s.writeMap value).answerWrite rq 6 key .ok []
      | r => s.answerWrite rq 6 key r []
  | r => (s.noteRefusal rq key .write).answerWrite rq 6 key r [])

/-- MAP_UPDATE (R457). A map announced without new numbers is read after 0 to 10 s; one with new numbers at once
(DESIGN CHOICE, log entry 27). -/
def execMapUpdate (p : RingPort) (f : TakenFrame) (s : State) : Outc :=
  done (s.takeMsg p f 0x13 24 fun serial b =>
    if serial = s.ident.serial || beAt b 10 4 ≤ s.rs.map.version then s
    else
      let s1 := { s with rs := { s.rs with
        renumber := some (beAt b 10 4, beAt b 16 4)
        unmirrored := if s.isBackup then some (s.rs.unmirrored.getD s.uptime) else none } }
      if beAt b 16 4 = 0 then
        let d := s1.draw (secs 10 + 1)
        d.2.arm .mapRead d.1
      else s1.arm .mapRead 0)

/-- MAP_UPDATE_TIMER (R450). -/
def execMapUpdateTimer (s : State) : Outc :=
  done (s.onDue .mapUpdate fun t => if t.isKeeper && t.rs.map.version != 0 then t.sendMapUpdate 0 else t.arm .mapUpdate (secs 10))

/-- POSITION_DROP (R452): a duty of the keeper, deferred while management restarts (R30). -/
def execPositionDrop (s : State) : Outc :=
  done (if s.mgmt.restarting then s else s.onDue .positionDrop fun t =>
    match t.rs.dropping with
    | some (w, e) =>
      if t.isKeeper then
        ({ t with rs := { t.rs with dropping := none } }.adoptMap { t.rs.map with
          version := t.rs.map.version + 1, positions := splice t.rs.map.positions w e [] }).sendMapUpdate 0
      else { t with rs := { t.rs with dropping := none } }
    | none => t)

end Sys2Proof.Machine
end

