-- ==== Sys2Proof/Machine/WagOps.lean ====
section
/-!
DEFINITION. The waggle unit's inner operations (ch. 08): due times and their evaluation (R242 to R247), holds (R254), events,
axis samples and positions (R262 to R264), steps of ring time (R258), and the checks of the waggle-table window (R240).
-/

namespace Sys2Proof.Machine

/-! ### Fields of an entry (R239) -/

def WagEntry.w (x : WagEntry) (i : Nat) : Nat := x.words.getD i 0
def WagEntry.trigger (x : WagEntry) : Nat := bitField (x.w 0) 30 28
def WagEntry.action (x : WagEntry) : Nat := bitField (x.w 0) 27 24
def WagEntry.repeats (x : WagEntry) : Bool := (x.w 0).testBit 23
def WagEntry.follows (x : WagEntry) : Bool := (x.w 0).testBit 22
def WagEntry.persists (x : WagEntry) : Bool := (x.w 0).testBit 21
def WagEntry.axis (x : WagEntry) : Nat := x.w 1 % 64
/-- 1 forward, 2 backward, 3 either -/
def WagEntry.direction (x : WagEntry) : Nat := bitField (x.w 1) 9 8
/-- PERIOD of an AXIS trigger in 32.32 -/
def WagEntry.axisPeriod (x : WagEntry) : Nat := 2 ^ 32 * x.w 4 + x.w 5

def trigTime : Nat := 1
def trigAxis : Nat := 2
def trigEvent : Nat := 3

def State.wagEntry (s : State) (e : Nat) : WagEntry := (aget s.wag.entries e).getD {}

def State.putWag (s : State) (e : Nat) (x : WagEntry) : State := { s with wag := { s.wag with entries := aput s.wag.entries e x } }

/-- The present ring time in whole nanoseconds. -/
def State.nowNs (s : State) : Nat := inNs s.ringTime

/-- The late limit of an entry in ns; none for 0xFFFF (R239). -/
def State.lateLimit (s : State) (x : WagEntry) : Option Nat :=
  let l := x.w 0 % 65536
  if l = 0 then some (s.val 0x3120 4) else if l = 0xFFFF then none else some (1000 * l)

/-! ### Followed axes (R262 to R264) -/

/-- The follow entry of an axis. -/
def State.followOf (s : State) (axis : Nat) : Option (Fin 16) :=
  (List.finRange 16).find? fun i => s.val (0x3210 + i.val) 1 == axis

/-- The axis of a follow entry is LIVE (R263). -/
def State.axisLive (s : State) (i : Fin 16) : Bool := s.val (0x3210 + i.val) 4 == 1

/-- Velocity of the newest sample, counts/s in 2^-8. -/
def State.axisVel (s : State) (i : Fin 16) : Int := toSigned 64 (s.val (0x3210 + i.val) 7)

/-- Sample time in ns. -/
def State.axisTime (s : State) (i : Fin 16) : Nat := inNs (ofTime80 (s.val (0x3210 + i.val) 5))

/-- p(t) of R264 in 2^-32 counts, modulo 2^64. -/
def State.axisAt (s : State) (i : Fin 16) (t : Nat) : Nat :=
  ofSigned 64 ((s.val (0x3210 + i.val) 6 : Nat) + (s.axisVel i * 2 ^ 24 * ((t : Int) - s.axisTime i)).fdiv 1000000000)

/-- A difference of two positions, within ±2^31 counts (R243). -/
def posDiff (a b : Nat) : Int := toSigned 64 (ofSigned 64 ((a : Int) - b))

/-! ### Holding and evaluating -/

/-- TIME and AXIS triggers are held without good time; AXIS also while its axis is not LIVE (R254, R263). -/
def State.wagHeld (s : State) (x : WagEntry) : Bool :=
  (x.trigger == trigTime || x.trigger == trigAxis) &&
    (s.timeState < 2 || decide (s.val 0x3120 1 < s.estError) ||
      (x.trigger == trigAxis && (match s.followOf x.axis with
        | some i => !s.axisLive i
        | none => true)))

/-- What the evaluation of a due time finds (R243, R246). -/
inductive Verdict where
  /-- scheduled or frozen, to execute at a moment -/
  | at_ (due moment : Nat) (frozen : Bool)
  /-- discarded, with its lateness -/
  | missed (due lateness : Nat)
  /-- no due time yet -/
  | waits
  deriving DecidableEq, Repr

/-- R246. -/
def State.verdict (s : State) (x : WagEntry) (d : Nat) : Verdict :=
  let now := s.nowNs
  if now + 1000 ≤ d then .at_ d d false
  else if now ≤ d then .at_ d (max d (now + 200)) true
  else match s.lateLimit x with
    | some l => if now - d < l then .at_ d now true else .missed d (now - d)
    | none => .at_ d now true

/-- R243, with the direction of the crossing: true for backward. The due time is rounded to the nearest nanosecond
(DESIGN CHOICE, log entry 32). -/
def State.axisVerdict (s : State) (i : Fin 16) (x : WagEntry) : Verdict × Bool :=
  let v := s.axisVel i
  let back := x.direction == 2 || (x.direction == 3 && decide (v < 0))
  let sign : Int := if back then -1 else 1
  let togo := sign * posDiff x.target (s.axisAt i s.nowNs)
  let moving := 0 < sign * v
  let cross : Int := (2 * posDiff x.target (s.val (0x3210 + i.val) 6) * 1000000000 + v * 2 ^ 24).fdiv (2 * v * 2 ^ 24)
  let d := (s.axisTime i + cross).toNat
  if x.direction = 3 && v = 0 then (.waits, back)
  else if 0 < togo then ((if moving then s.verdict x d else .waits), back)
  else if moving then (s.verdict x d, back)
  else (.missed (min s.nowNs d) 0xFFFFFFFF, back)

/-- Count a MISSED (R246, R247): lateness and occurrences skipped. -/
def State.countMissed (s : State) (e : Nat) (lateness skipped : Nat) : State :=
  (s.addVal 0x3100 5 (max 1 skipped)).raise 0x14 2 contained (packArg [i16 e, i32 lateness, i16 skipped])

/-- Count a MISSED in the entry. -/
def WagEntry.addMissed (x : WagEntry) (n : Nat) : WagEntry := { x with missed := min 0xFFFF (x.missed + n), lastMissed := true }

/-- Evaluate an armed entry (R243, R246), and what a MISSED entry with REPEAT becomes (R247). -/
def State.wagLoop : Nat → State → Nat → WagEntry → State
  | 0, s, e, x => s.putWag e x
  | k + 1, s, e, x =>
    if x.st != 4 && s.wagHeld x then
      (if x.st = 3 then s else s.bump 0x3100 7).putWag e { x with st := 3 }
    else
      let r : Verdict × Bool :=
        if x.trigger = trigAxis then (match s.followOf x.axis with
          | some i => s.axisVerdict i x
          | none => (.waits, false))
        else match x.due with
          | some d => (s.verdict x d, false)
          | none => (.waits, false)
      match r.1 with
      | .waits => s.putWag e { x with st := 1, due := none }
      | .at_ d m frozen => s.putWag e { x with st := if frozen then 4 else 2, due := some d, at_ := m, back := r.2 }
      | .missed d l =>
        let s1 := s.countMissed e l 0
        let y := { (x.addMissed 1) with lastLate := false, lastSuppressed := false, back := r.2, lastNs := d % 1000000000 }
        if !y.repeats then s1.putWag e { y with st := 0, due := none }
        else if y.trigger = trigTime then
          let p := max 1 (y.w 4)
          let n := (s1.nowNs - (d + p) + p - 1) / p
          let s2 := if n = 0 then s1 else s1.countMissed e (s1.nowNs - (d + p)) n
          s2.wagLoop k e { (if n = 0 then y else y.addMissed n) with st := 1, due := some (d + p + n * p) }
        else if y.trigger = trigAxis then
          let t := if r.2 then y.target + 2 ^ 64 - y.axisPeriod else y.target + y.axisPeriod
          s1.wagLoop k e { y with st := 1, due := none, target := t % 2 ^ 64 }
        else s1.putWag e { y with st := 1, due := none }

/-- Evaluate one entry; a MISSED AXIS entry with REPEAT steps its target at most 4,096 times at once. -/
def State.wagEval (s : State) (e : Nat) (x : WagEntry) : State := s.wagLoop 4096 e x

/-- Arm an entry with its words (R242 to R245). -/
def State.wagArm (s : State) (e : Nat) (x : WagEntry) : State :=
  let y := { x with st := 1, due := none, instant := false }
  if y.trigger = trigTime then
    s.wagEval e { y with due := some (1000000000 * (y.w 2 + 2 ^ 32 * (y.w 3 % 65536)) + y.w 1) }
  else if y.trigger = trigAxis then s.wagEval e { y with target := 2 ^ 32 * y.w 2 + y.w 3 }
  else s.putWag e y

/-- Evaluate again the entries that a predicate picks among those armed and not FROZEN. -/
def State.wagAgain (s : State) (pick : WagEntry → Bool) : State :=
  s.wag.entries.foldl (fun t p =>
    let x := t.wagEntry p.1
    if (x.st == 1 || x.st == 2 || x.st == 3) && pick x then t.wagEval p.1 x else t) s

/-- Holds begin and end (R254): TIME and AXIS entries are evaluated where their hold has changed. -/
def State.wagRefresh (s : State) : State :=
  s.wagAgain fun x => (x.trigger == trigTime || x.trigger == trigAxis) && (s.wagHeld x != (x.st == 3))

/-! ### Events (R245) -/

/-- An event reaches the entries whose EVENT trigger names it: `stampNs` is its stamp. -/
def State.wagEvent (s : State) (names : Nat → Bool) (stampNs : Nat) : State :=
  s.wag.entries.foldl (fun t p =>
    let x := t.wagEntry p.1
    if x.trigger != trigEvent || !names (x.w 1) || x.st = 0 then t
    else if x.st != 1 then t.bump 0x3100 9
    else if x.w 2 = 0 then t.putWag p.1 { x with st := 4, due := some stampNs, at_ := t.nowNs, instant := true }
    else t.wagEval p.1 { x with due := some (stampNs + x.w 2) }) s

/-- A capture edge: source 1, PIN and edge. -/
def State.wagCapture (s : State) (pin : Nat) (rising : Bool) (ns : Nat) : State :=
  s.wagEvent (fun w => bitField w 31 28 == 1 && w % 64 == pin && w.testBit (if rising then 8 else 9)) ns

/-- A cluster flag is set: source 2. -/
def State.wagFlag (s : State) (cluster flag : Nat) : State :=
  s.wagEvent (fun w => bitField w 31 28 == 2 && w % 4 == cluster && bitField w 4 2 == flag) s.nowNs

/-- A fault code is taken by the collector: source 3. -/
def State.wagFault (s : State) (code : Nat) (ns : Nat) : State :=
  s.wagEvent (fun w => bitField w 31 28 == 3 && w % 65536 == code) ns

/-! ### Steps of ring time (R258) -/

/-- After a step of `d` ns: announced ones move following entries, running delays and older samples; every entry is then
evaluated. -/
def State.wagStep (s : State) (announced : Bool) (cycle : Nat) (d : Int) : State :=
  let move (n : Nat) : Nat := ((n : Int) + d).toNat
  let s1 := if announced then
      (List.finRange 16).foldl (fun t (i : Fin 16) =>
        if laterCycle t.ax.cycles[i] cycle = cycle && t.ax.cycles[i] != cycle && t.val (0x3210 + i.val) 4 != 0 then
          t.setVal (0x3210 + i.val) 5 (time80 (nsec (move (t.axisTime i)))) else t) s
    else s
  let s2 := if announced then
      { s1 with wag := { s1.wag with entries := s1.wag.entries.map fun (p : Nat × WagEntry) =>
          let x := p.2
          if (x.trigger = trigTime && x.follows) || (x.trigger = trigEvent && x.due.isSome) then
            (p.1, { x with due := x.due.map move, at_ := move x.at_ })
          else p } }
    else s1
  s2.wagAgain fun x => x.trigger != trigEvent || x.due.isSome

/-! ### Axis samples (R262, R263) -/

/-- A follow entry becomes STALE. -/
def State.axisStale (s : State) (i : Fin 16) : State :=
  if s.val (0x3210 + i.val) 4 = 2 then s
  else
    ((s.setVal (0x3210 + i.val) 4 2).bump (0x3210 + i.val) 9).raise 0x15 1 contained
      (packArg [i16 (s.val (0x3210 + i.val) 1), i16 (s.val (0x3210 + i.val) 2)])

/-- A sample of a followed axis, used if it is later than the one held. -/
def State.takeSample (s : State) (i : Fin 16) (flags pos vel : Nat) (ns cycle : Nat) : State :=
  let o := 0x3210 + i.val
  if s.val o 4 != 0 && ns ≤ s.axisTime i then s
  else
    let good := flags.testBit 0 && !flags.testBit 1
    let s1 := ((((s.setVal o 5 (time80 (nsec ns))).setVal o 6 pos).setVal o 7 (ofSigned 64 (toSigned 40 vel))).bump o 8)
    let s2 := ({ s1 with ax := { s1.ax with cycles := s1.ax.cycles.set i cycle } } : State).arm (.axisStale i)
      (s1.val o 3 * s1.cycleUnits)
    let s3 := if good then s2.setVal o 4 1 else s2.axisStale i
    s3.wagAgain fun x => x.trigger == trigAxis && x.axis == s.val o 1

/-! ### The waggle-table window (R239 to R241) -/

/-- Bits outside a mask are clear. -/
def onlyBits (w m : Nat) : Bool := w &&& m == w

/-- Words 0 to 11 lie in the ranges of R239 (R240, step 2). The tables give the kinds NONE no field, so their words are not checked
(DEDUCED, log entry 117). -/
def wagFieldsOk (w : Nat → Nat) : Bool :=
  let t := bitField (w 0) 30 28
  let a := bitField (w 0) 27 24
  bitField (w 0) 20 16 == 0 && w 11 == 0 && t ≤ 3 && a ≤ 6 &&
    (match t with
      | 1 => w 1 < 1000000000 && w 3 < 65536 && (1000 ≤ w 4 || (w 4 == 0 && !(w 0).testBit 23)) && w 5 == 0
      | 2 => onlyBits (w 1) 0x33F && bitField (w 1) 9 8 != 0 &&
          w 4 < 2 ^ 31 && (!(w 0).testBit 23 || 0 < 2 ^ 32 * w 4 + w 5)
      | 3 => (match bitField (w 1) 31 28 with
          | 1 => onlyBits (w 1) 0x1000033F && bitField (w 1) 9 8 != 0
          | 2 => onlyBits (w 1) 0x2000001F
          | 3 => onlyBits (w 1) 0x3000FFFF
          | _ => false) && w 3 == 0 && w 4 == 0 && w 5 == 0
      | _ => true) &&
    (match a with
      | 1 => w 7 < 2 && (w 8 == 0 || 200 ≤ w 8) && w 9 == 0
      | 2 => w 7 < 2 && w 8 == 0 && w 9 == 0
      | 3 => w 6 < 16384 && onlyBits (w 7) 0xBF && w 8 == 0 && w 9 == 0
      | 4 => w 6 == 0 && onlyBits (w 7) 0xBF && w 8 == 0 && w 9 == 0
      | 5 => w 6 < 4096 && w 7 < 2 && w 8 == 0 && w 9 == 0
      | 6 => w 6 < 16 && w 7 < 2 && w 8 == 0 && w 9 == 0
      | _ => true)

/-- Steps 2 to 5 of R240. -/
def State.wagCheck (s : State) (e : Nat) (l : List Nat) : Result :=
  let x : WagEntry := { words := l }
  let axisOk (id : Nat) : Bool := (s.followOf id).isSome
  if !wagFieldsOk x.w then .range
  else if x.trigger == trigAxis && !axisOk x.axis then .range
  else if (x.action == 3 || x.action == 4) && (x.w 7).testBit 7 && !axisOk (x.w 7 % 64) then .range
  else if x.action == 3 && !s.ownSend (x.w 6) then .range
  else if x.persists && 256 ≤ (s.wag.entries.filter fun p => p.1 != e && p.2.persists).length then .range
  else .ok

/-- An accepted write (R241): new words apply at once, or after the execution of a FROZEN entry. -/
def State.wagApply (s : State) (e : Nat) (l : List Nat) : State :=
  let x := s.wagEntry e
  let saves := x.persists || (l.getD 0 0).testBit 21
  let s1 := if saves then s.noteSave else s
  if x.st = 4 then s1.putWag e { x with next := some l }
  else
    let y := { x with words := l, next := none }
    if (l.getD 0 0).testBit 31 then s1.wagArm e y else s1.putWag e { y with st := 0, due := none }

/-- Words of a write that are whole 32-bit words. -/
def wordsOf (bs : List Byte) : List Nat := (List.range (bs.length / 4)).map fun i => leAt bs (4 * i) 4

/-- A write of the window by its checks (R239, R240): the words it would leave in its entry. -/
def State.wagDecode (s : State) (offset : Nat) (bytes : List Byte) : Result × Nat × List Nat :=
  let rel := offset % 0x10000000
  let e := rel / 64
  let p := rel % 64
  if 0x40800 ≤ rel then (.noTarget, 0, [])
  else if 0x40000 ≤ rel then (.readOnly, 0, [])
  else if 48 < p + bytes.length then (.readOnly, e, [])
  else if p = 0 && bytes.length = 48 then (s.wagCheck e (wordsOf bytes), e, wordsOf bytes)
  else if p = 0 && bytes.length = 4 then
    let x := s.wagEntry e
    let l := leNat bytes :: ((x.next.getD x.words).drop 1)
    if bitField (leNat bytes) 30 24 != bitField ((x.next.getD x.words).getD 0 0) 30 24 then (.range, e, l) else (s.wagCheck e l, e, l)
  else (.typeLength, e, [])

/-- A write of the waggle-table window. In a duplex pair it applies 10 µs later, at both members in one tick (R241). -/
def State.wagWrite (s : State) (offset : Nat) (bytes : List Byte) : State × Result :=
  match s.wagDecode offset bytes with
  | (.ok, e, l) =>
    if s.mirroring then
      ({ s with wag := { s.wag with applies := s.wag.applies ++ [WagApply.mk (s.nowNs + 10000) offset bytes] } }, .ok)
    else (s.wagApply e l, .ok)
  | (.noTarget, _, _) => (s, .noTarget)
  | (r, _, _) => (s.bump 0x3100 0xB, r)

/-- STATUS of an entry (R239). -/
def WagEntry.status (x : WagEntry) : Nat :=
  2 ^ 29 * x.st + (if x.lastLate then 2 ^ 28 else 0) + (if x.lastMissed then 2 ^ 27 else 0) +
    (if x.lastSuppressed then 2 ^ 26 else 0)

/-- The sixteen words of an entry as read (R239, R241): a write that waits for a FROZEN entry's execution has replaced its words. -/
def WagEntry.read (x : WagEntry) : List Nat :=
  let w (i : Nat) : Nat := (x.next.getD x.words).getD i 0
  (w 0 % 2 ^ 31 + (if x.st = 0 then 0 else 2 ^ 31)) :: ((List.range 11).map fun i => w (i + 1)) ++
    [x.status, x.fires % 2 ^ 32, 65536 * x.late + x.missed, match x.due with
      | some d => d % 1000000000
      | none => x.lastNs]

end Sys2Proof.Machine
end

