-- ==== Sys2Proof/Machine/Cycle.lean ====
section
/-!
DEFINITION. The ring cycle (ch. 06): crossing a boundary, marks, promotion of aged frames, the timing wheel and the plan.
-/

namespace Sys2Proof.Machine

/-! ### Crossing a boundary -/

/-- Neither copy of the closing cycle's mark has arrived (R191). -/
def State.noteMissedMark (s : State) : State :=
  if s.isKeeper then s
  else match s.cyc.lastMark with
    | some m => if laterCycle m s.cycleNumber = m then s else s.bump 0x2200 9
    | none => s.bump 0x2200 9

/-- Roll the load figures of an egress: last cycle and the largest of 256 (R201). -/
def State.rollLoad (s : State) (o : Output) : State :=
  let g := s.egress o
  s.setEgress o { g with
    history := ((g.sent1, g.sent23) :: g.history).take 256
    sent0 := 0
    sent1 := 0
    sent23 := 0
    c1Late := false }

def maxOf (l : List Nat) : Nat := l.foldl max 0

/-- Load figures of the outputs of one record; the board links are summed (R208). -/
def State.closeLoad (s : State) (i : Nat) (os : List Output) : State :=
  let gs := os.map s.egress
  let late := gs.any (·.c1Late)
  let s1 := ((s.setVal i 1 (gs.map (·.sent0)).sum).setVal i 2 (gs.map (·.sent1)).sum).setVal i 3 (gs.map (·.sent23)).sum
  let s2 := os.foldl State.rollLoad s1
  let hist := os.map fun o => (s2.egress o).history
  let peak (pick : Nat × Nat → Nat) : Nat :=
    maxOf ((List.range 256).map fun k => (hist.map fun h => pick (h.getD k (0, 0))).sum)
  let s3 := (s2.setVal i 4 (peak (·.1))).setVal i 5 (peak (·.2))
  if late then s3.bump i 7 else s3

def State.closeLoads (s : State) : State :=
  ((s.closeLoad 0x2220 [.east]).closeLoad 0x2221 [.west]).closeLoad 0x2222
    (if s.pcieMode then [.bl0, .bl1] else [.bl0, .bl1, .bl2])

/-- Ring time moves by STEP_NS at the boundary, and BOUNDARY_0 with it (R189, R221); recorded with its cause (R416). -/
def State.stepTime (s : State) (d : Int) (cause : Nat) : State :=
  let s1 := (s.jump d).stopSlew
  let move (t : Nat) : Nat := ((t : Int) + d).toNat
  let s2 := { s1 with cyc := { s1.cyc with boundary0 := move s1.cyc.boundary0, current := move s1.cyc.current } }
  let ns : Int := d.tdiv 65536
  let sat : Int := max (1 - 2 ^ 47) (min (2 ^ 47 - 1) ns)
  (((s2.setVal 0x2200 5 (time80 s2.cyc.current)).bump 0x3002 6).raise 0xB 3 contained
    (ofSigned 48 sat * 2 ^ 16 + cause)).wagStep (cause == 2) s2.cycleNumber ns

/-- The cycle that the coming boundary opens: by a realigned mark (R191), by a pending change (R192), or the next one. -/
def State.nextCycle (s : State) : State :=
  let n := (s.cycleNumber + 1) % 2 ^ 32
  let c := s.cyc
  let s1 := match s.realignNow with
    | some r => { s with cyc := { c with
        realign := none, boundary0 := r.boundary, number0 := r.number, current := r.boundary, length := r.length,
        pct := r.pct } }.setVal 0x2200 4 r.number
    | none => { s with cyc := { c with current := s.nextBoundary } }.setVal 0x2200 4 n
  match s1.cyc.change with
  | some h =>
    if s1.cycleNumber = h.cycle then
      { s1 with cyc := { s1.cyc with
          change := none, boundary0 := s1.cyc.current, number0 := h.cycle, length := h.length, pct := h.pct } }.setVal 0x2200 6 0
    else s1
  | none => s1

/-- Steps of ring time that apply at this boundary (R221): the announced one, else a local one. -/
def State.boundarySteps (s : State) : State :=
  match s.tu.step with
  | some (c, d) =>
    if c = s.cycleNumber then
      ({ s with tu := { s.tu with step := none, localStep := none } } : State).stepTime (d * 65536) 2
    else localOne s
  | none => localOne s
where
  localOne (s : State) : State :=
    match s.tu.localStep with
    | some d => (({ s with tu := { s.tu with localStep := none } } : State).stepTime d 3).setTimeState .coarse
    | none => s

/-- CYCLE_MARK (R190). -/
def State.markPayload (s : State) : List Byte :=
  let b := inNs s.cyc.current
  let ch := match s.cyc.change with
    | some h => (1, h.cycle, h.length / 10000, h.pct)
    | none => (0, 0, 0, 0)
  beBytes 4 s.cycleNumber ++ beBytes 6 (b / 1000000000) ++ beBytes 4 (b % 1000000000) ++ beBytes 2 (s.cyc.length / 10000) ++
    beBytes 1 s.cyc.pct ++ beBytes 1 (ch.1 + 2 * s.val 0x2401 4) ++ beBytes 2 (s.val 0x2200 7) ++ beBytes 1 (s.val 0x2200 8) ++
    beBytes 3 0 ++ beBytes 4 ch.2.1 ++ beBytes 2 ch.2.2.1 ++ beBytes 1 ch.2.2.2 ++ beBytes 1 0

/-- KEEPER_STATE of SYNC (R217): 0 free-running, 1 and 2 steered by host or PPS_IN, 3 reference lost. -/
def State.keeperState (s : State) : Nat :=
  if s.val 0x3010 6 = 3 then 3 else if s.val 0x3010 6 = 2 then s.val 0x3010 1 else 0

/-- SYNC (R217); its origin is written when it leaves. -/
def State.syncPayload (s : State) : List Byte :=
  let st := s.tu.step.getD (0, 0)
  beBytes 12 0 ++ beBytes 4 s.tu.syncNumber ++ beBytes 4 s.term ++ beBytes 2 s.hops ++ beBytes 1 s.keeperState ++
    beBytes 1 (s.val 0x2401 4 + (if s.tu.step.isSome then 2 else 0)) ++ beBytes 2 (s.val 0x3010 2) ++ beBytes 2 0 ++
    beBytes 4 st.1 ++ beBytes 8 (ofSigned 64 st.2) ++ beBytes 8 0

/-- The keeper sends CYCLE_MARK and SYNC both ways (R190, R217). -/
def State.sendMarks (s : State) : State :=
  let s1 := { s with tu := { s.tu with syncNumber := (s.tu.syncNumber + 1) % 2 ^ 32, backEast := none, backWest := none } }
  (s1.sendMgmt typCycleMark 0 0xFFF1 s1.ring 8191 false s1.markPayload).sendMgmt typSync 0 0xFFF0 s1.ring 8191 true
    s1.syncPayload

/-- Delay of the shorter path to the keeper (R152), at 121 ns a hop (DEDUCED from the example, log entry 22). -/
def State.keeperDelay (s : State) : Nat :=
  match s.ownPlace, s.placeOf (s.val 0x2401 1) s.rs.keeperSerial with
  | some p, some k =>
    let n := s.positions
    let e := (k + n - p) % n
    let w := (p + n - k) % n
    nsec (121 * (if s.reachEast p < e then w else if s.reachWest p < w then e else min e w))
  | _, _ => 0

/-- The keeper and backup parts of a boundary: marks, the hand-over of a resigning keeper (R150), the watch for a mark
(R152). -/
def State.keeperBoundary (s : State) : State :=
  if s.isKeeper then
    if s.rs.resigning && s.rs.backupSerial != 0 then
      let s1 := { (s.setVal 0x1001 4 0) with rs := { s.rs with resigning := false } }
      (((s1.setTimeState .coarse).disarm .announce).disarm .mapUpdate).stopReference.armHoldover
    else s.sendMarks
  else if s.isBackup then
    if s.rs.resigning && s.mayKeep then s.keeperTakeover.sendMarks
    else
      { s with rs := { s.rs with markAwaited := true } }.arm .lossGuard (s.keeperDelay + nsec (s.val 0x2401 5))
  else s

/-- OPEN_WINDOW_START (R189): from now C2 and C3 frames may start, under the fit test. -/
def execOpenWindowStart (s : State) : Outc := done (s.onDue .openWindow fun t => t)

/-! ### Marks -/

/-- The first copy of a mark (R191): its number, its boundary in 2^-16 ns, its length in ns and percentage. -/
def State.takeMark (s : State) (n b len pct : Nat) (ch : Option CycleChange) : State :=
  if !s.cyc.have_ then (s.enterCycle n b len pct).bump 0x2200 0xA
  else
    let ahead : Int := toSigned 32 ((n + 2 ^ 32 - s.cycleNumber) % 2 ^ 32)
    let own : Int := s.cyc.current + ahead * (s.cycleUnits : Nat)
    let diff : Int := (b : Int) - own
    if diff.natAbs ≤ nsec 1000 then
      { s with cyc := { s.cyc with change := ch } }.setVal 0x2200 6 (match ch with
        | some h => h.cycle
        | none => 0)
    else
      let s1 := { s with cyc := { s.cyc with realign := some ⟨(n + 1) % 2 ^ 32, b + nsec len, len, pct⟩ } }
      (s1.armBoundary.bump 0x2200 0xA).raise 0xC 1 corrected (packArg [s32 (diff.tdiv 65536)])

/-- CYCLE_MARK (R190, R191). PLAN_VERSION and SHED_LEVEL are those of the last mark (R206). -/
def execCycleMark (p : RingPort) (f : TakenFrame) (s : State) : Outc :=
  done (if !s.hears p || f.hdr.typ.toNat != typCycleMark then s
  else if f.payload.length != 32 then s.portBump p 6
  else
    let b := f.payload
    let n := beAt b 0 4
    if s.isKeeper || s.isSource f.hdr || s.cyc.lastMark = some n then s
    else
      let s1 := ({ s with cyc := { s.cyc with lastMark := some n }, rs := { s.rs with markAwaited := false } } : State).disarm
        .lossGuard
      let ch := if (beAt b 17 1).testBit 0 then some (CycleChange.mk (beAt b 24 4) (10000 * beAt b 28 2) (beAt b 30 1)) else none
      let s2 := s1.takeMark n (nsec (1000000000 * beAt b 4 6 + beAt b 10 4)) (10000 * beAt b 14 2) (beAt b 16 1) ch
      (s2.setVal 0x2200 7 (beAt b 18 2)).atShedLevel (beAt b 20 1))

/-! ### Ageing and the wheel -/

/-- Time a class queue's head, whose age counts from `since`, has been held by its shaper until now (R196). -/
def State.heldByShaper (s : State) (o : Output) (c since : Nat) : Nat :=
  match s.shaperOf 2 (o.num * 4 + c) with
  | some i => if s.sw.onWheel.contains i then s.uptime - max since ((aget s.sw.wheelSince i).getD s.uptime) else 0
  | none => 0

/-- Count a promotion: transit or local at a gated egress, PROMOTIONS_OUT elsewhere (R208). -/
def State.countPromotion (s : State) (o : Output) (transit : Bool) : State :=
  if s.gated o then s.bump (0x2220 + min o.num 2) (if transit then 8 else 9) else s.bump 0x2223 (o.num - 1)

/-- PROMOTION (R196): a C3 head that has reached AGE_LIMIT moves to the tail of the C2 queue. -/
def execPromotion (o : Output) (transit : Bool) (s : State) : Outc :=
  let g := s.egress o
  done (if transit then
    match g.transit[3] with
    | f :: l =>
      if nsec (s.val 0x2210 3) ≤ s.uptime - f.since then
        (s.setEgress o { g with transit := (g.transit.set 3 l).set 2 (g.transit[2] ++ [f]) }).countPromotion o true
      else s
    | [] => s
  else
    match g.local_[3] with
    | f :: l =>
      if nsec (s.val 0x2210 3) + s.heldByShaper o 3 f.since ≤ s.uptime - f.since then
        (s.setEgress o { g with local_ := (g.local_.set 3 l).set 2 (g.local_[2] ++ [f]) }).countPromotion o false
      else s
    | [] => s)

/-- WHEEL_SLOT (R198, R199): the shaper becomes eligible, or is entered again for the rest of a wait beyond the span. -/
def execWheelSlot (i : Fin 256) (s : State) : Outc :=
  done (s.onDue (.wheel i.val) fun t =>
    let t1 := t.creditAge i.val
    let t2 := { t1 with sw := { t1.sw with onWheel := t1.sw.onWheel.filter fun k => k != i.val } }
    let t3 := t2.pump
    match Output.all[t3.val (0x2300 + i.val) 2 / 4]? with
    | some o => if t3.val (0x2300 + i.val) 1 = 2 then t3.noteHeads o else t3
    | none => t3)

/-! ### The plan -/

/-- t of R202 against a limit of `pct` percent of a cycle of `len` ns: bytes × 8 / 2.5 Gbit/s, exactly. -/
def overShare (bytes len pct : Nat) : Bool := 5 * (len * pct) < 1600 * bytes

/-- A time of R202 in ns. -/
def loadNs (bytes : Nat) : Nat := bytes * 16 / 5

/-- The direction with the largest t1. -/
def worstLoad (l : List HopLoad) : Option HopLoad :=
  l.foldl (fun acc h => match acc with
    | some w => if w.c1 < h.c1 then some h else acc
    | none => some h) none

/-- What the conditions of R203 give for load figures at a cycle length and percentages: 0 to 3 for the four rows, with the
worst direction that the last row names. -/
def planRow (loads : List HopLoad) (len wp lim level : Nat) : Nat × Option HopLoad :=
  let heavy := loads.filter fun h => overShare h.c1 len wp
  match worstLoad (heavy.filter fun h => overShare h.c1 len lim) with
  | some h => (3, some h)
  | none =>
    match worstLoad (heavy.filter fun h => overShare (h.c1 + h.c23) len lim) with
    | some h => (if level = 3 then 3 else 2, some h)
    | none => (if heavy.isEmpty then 0 else 1, none)

/-- A transmitting port as WORST_HOP shows it (R210). -/
def State.hopWord (s : State) (h : HopLoad) : Nat := 2 ^ 28 * s.ring + 2 ^ 15 * h.node + h.port.num

/-- The plan shows its figures (R210). -/
def State.showPlan (s : State) (loads : List HopLoad) : State :=
  let w := (worstLoad loads).getD ⟨0, .east, 0, 0⟩
  let s1 := (s.setVal 0x2240 1 s.rs.slow.length).setVal 0x2240 2 (if loads.isEmpty then 0 else s.hopWord w)
  ((s1.setVal 0x2240 3 (loadNs w.c1)).setVal 0x2240 4 (loadNs w.c23)).setVal 0x2240 5 (time80 s.ringTime)

/-- Set the shed level of the ring; a change is a new plan (R203). -/
def State.setShed (s : State) (level : Nat) : State :=
  if s.val 0x2200 8 = level then s else (s.bump 0x2200 7).atShedLevel level

/-- PLAN_CHANGED (R203, R205). -/
def State.planChanged (s : State) : State := s.raise 0xC 2 corrected (packArg [i16 (s.val 0x2200 7), i16 (s.val 0x2200 8)])

/-- The hop that a transmitting port drives, by the place of its west end on the map; off the map, a number of the port's own. -/
def State.hopOf (s : State) (h : HopLoad) : Nat :=
  let n := s.positions
  match s.placeOf h.node 0 with
  | some p => if h.port = .east then p else (p + n - 1) % n
  | none => 16384 + 2 * h.node + h.port.num

/-- C1_OVERFLOW of a hop by its worse direction, once until its rate changes (R203). -/
def State.overflow (s : State) (h : HopLoad) : State :=
  if s.cyc.overflowed.contains (s.hopOf h) then s
  else { s with cyc := { s.cyc with overflowed := s.hopOf h :: s.cyc.overflowed } }.raise 0xC 3 corrected
    (packArg [i16 h.node, i16 h.port.num, i32 (loadNs h.c1)])

/-- C1_OVERFLOW of every slow hop whose C1 does not fit its protected window (R203). -/
def State.overflows (s : State) (loads : List HopLoad) : State :=
  let heavy := loads.filter fun h => overShare h.c1 s.cyc.length s.cyc.pct
  (heavy.filter fun h => heavy.all fun k => s.hopOf k != s.hopOf h || k.c1 ≤ h.c1).foldl State.overflow s

/-- The keeper goes on working out a plan every 1 s while a hop is slow or the shed level is above 0 (R202). -/
def State.replanOn (s : State) : State :=
  if s.rs.slow.isEmpty && s.val 0x2200 8 = 0 then s else if s.armed .replan then s else s.arm .replan (secs 1)

/-- PLAN_DECISION (R202, R203): the load figures of both directions of every slow hop, as read. The level rises by one at most
once a second. -/
def execPlanDecision (loads : List HopLoad) (s : State) : Outc :=
  done (if !s.isKeeper || !s.cyc.planning || s.mgmt.restarting then s
  else
    let s1 := { s with cyc := { s.cyc with planning := false, loads := loads } }
    let level := s1.val 0x2200 8
    let s2 := s1.showPlan loads
    (match planRow loads s1.cyc.length s1.cyc.pct (s1.val 0x2200 3) level with
      | (3, some h) => (s2.setShed 3).raise 0xC 4 contained (packArg [i16 h.node, i16 h.port.num, i32 (loadNs (h.c1 + h.c23))])
      | (2, _) =>
        let s3 := s2.overflows loads
        if s.cyc.raised.all fun t => t + secs 1 ≤ s.cyc.planAt then
          ({ s3 with cyc := { s3.cyc with raised := some s.cyc.planAt } }.setShed (level + 1)).planChanged
        else s3
      | (1, _) => s2.overflows loads
      | _ => if level = 0 then s2 else (s2.setShed 0).planChanged).replanOn)

/-! ### The commit group CYCLE (R192, R193) -/

/-- The first boundary at least 4 ms ahead and after a cycle number, where one is given. -/
def State.changeCycle (s : State) (after : Option Nat) : Nat :=
  match after with
  | some c => if laterCycle c s.cycleAhead = c then (c + 1) % 2 ^ 32 else s.cycleAhead
  | none => s.cycleAhead

/-- The consistency check of a set for CYCLE: a plan with its values, from the load figures last read, may not reach a shed
level above the present one (R192; DESIGN CHOICE, log entry 29). -/
def State.cycleSetOk (s : State) (set : List (Nat × Nat)) : Bool :=
  let len := s.setValue set 0x2200 1
  let pct := s.setValue set 0x2200 2
  let level := s.val 0x2200 8
  let row := (planRow s.cyc.loads len pct (s.val 0x2200 3) level).1
  len % 10000 = 0 && (match row with
    | 3 => level == 3
    | 2 => false
    | _ => true)

/-- An accepted set announces its change (R192). -/
def State.announceChange (s : State) (set : List (Nat × Nat)) : State :=
  let c := s.changeCycle (s.tu.step.map (·.1))
  { s with cyc := { s.cyc with change := some ⟨c, s.setValue set 0x2200 1, s.setValue set 0x2200 2⟩ } }.setVal 0x2200 6 c

/-! ### Shapers (R200) -/

/-- The consistency check of a set for SHAPERS. -/
def State.shaperSetOk (s : State) (set : List (Nat × Nat)) : Bool :=
  let kind (i : Nat) : Nat := s.setValue set (0x2300 + i) 1
  let target (i : Nat) : Nat := s.setValue set (0x2300 + i) 2
  (List.range 256).all fun i =>
    (kind i != 1 || s.ownSend (target i)) && (kind i != 2 || (target i % 4 != 0 && target i < 32)) &&
      (kind i == 0 || (List.range i).all fun j => !(kind j == kind i && target j == target i))

/-- Shapers whose members a set changes, or all where it changes SLOT_WIDTH (R200). -/
def State.changedShapers (s : State) (set : List (Nat × Nat)) : List Nat :=
  if s.setValue set 0x22F1 1 != s.val 0x22F1 1 then List.range 256
  else (List.range 256).filter fun i =>
    [1, 2, 3, 4].any fun j => s.setValue set (0x2300 + i) j != s.val (0x2300 + i) j

end Sys2Proof.Machine
end

