-- ==== Sys2Proof/Machine/Time.lean ====
section
/-!
DEFINITION. Ring time (ch. 07): SYNC and the combination of its two directions, time states, steps, outside time, PPS_OUT
and pin capture.
-/

namespace Sys2Proof.Machine

/-! ### SYNC copies -/

def State.dir (s : State) : RingPort → TimeDir
  | .east => s.tu.east
  | .west => s.tu.west

def State.setDir (s : State) (p : RingPort) (d : TimeDir) : State :=
  match p with
  | .east => { s with tu := { s.tu with east := d } }
  | .west => { s with tu := { s.tu with west := d } }

/-- A signed value that an object of `bits` bits shows, saturating. -/
def satSigned (bits : Nat) (v : Int) : Nat := ofSigned bits (max (-(2 ^ (bits - 1))) (min (2 ^ (bits - 1) - 1) v))

/-- The origin of a SYNC in 2^-16 ns (R217). -/
def syncOrigin (b : List Byte) : Nat := 65536 * (1000000000 * beAt b 0 6 + beAt b 6 4) + beAt b 10 2

/-- offset of R218, for a copy received on a port with a receive stamp: positive where this hub runs ahead. -/
def State.syncOffset (s : State) (p : RingPort) (f : TakenFrame) : Int :=
  let o := syncOrigin f.payload
  let delay := ((correctedStamp f.hdr + s.linkDelay p : Nat) - (o : Int)) % ((2 ^ 32 * 65536 : Nat) : Int)
  (f.stamp : Int) - (o + delay)

/-- hops of R218: START_HOPS less HOPS after this hub's decrement. -/
def syncHops (f : TakenFrame) : Nat := beAt f.payload 20 2 - f.hdr.hops.toNat

/-- Which check of R218 a copy fails first: its counter, none where it passes. -/
def State.syncFault (s : State) (p : RingPort) (f : TakenFrame) : Option Nat :=
  let term := beAt f.payload 16 4
  if f.hdr.tsv = 0 then some 3
  else if !s.timePathReady p then some 4
  else if s.term < term then none
  else if f.hdr.sRing.toNat = s.ring && f.hdr.sNode.toNat = s.val 0x2401 1 && term = s.term then none
  else some 5

/-- What a valid copy tells besides its offset (R217, R218, R221, R232). -/
def State.takeSyncFields (s : State) (f : TakenFrame) : State :=
  let b := f.payload
  let flags := beAt b 23 1
  let s1 := if s.term < beAt b 16 4 then (s.setVal 0x2401 3 (beAt b 16 4)).setVal 0x2401 1 f.hdr.sNode.toNat else s
  let s2 := ((((s1.setVal 0x3000 0xB (time80 (syncOrigin b))).setVal 0x3000 0xC (beAt b 12 4)).setVal 0x3000 0xE
    (beAt b 24 2)).setVal 0x3000 0xF (beAt b 22 1)).setFlag 0x3000 0x10 (flags.testBit 0)
  { s2 with tu := { s2.tu with
      lastValid := s2.uptime
      step := if flags.testBit 1 then some (beAt b 28 4, toSigned 64 (beAt b 32 8)) else none } }

/-- The offset and hops of a copy, in its direction and its objects. -/
def State.noteCopy (s : State) (p : RingPort) (off : Int) (hops : Nat) : State :=
  let s1 := s.setDir p { s.dir p with offset := off, hops := hops, got := true }
  match p with
  | .west => ((s1.setVal 0x3000 5 hops).setVal 0x3000 8 (satSigned 32 off)).bump 0x3002 1
  | .east => ((s1.setVal 0x3000 6 hops).setVal 0x3000 9 (satSigned 32 off)).bump 0x3002 2

/-! ### Combining the two directions (R219, R220) -/

/-- A direction at full weight. -/
def State.fullWeight (s : State) (d : TimeDir) : Bool := !d.dropped && s.val 0x3001 4 ≤ d.ramp

/-- The place of a direction on its ramp after a SYNC (R220): lost at once, back over REJOIN_RAMP SYNCs, and full while the
other is lost. -/
def TimeDir.advance (d : TimeDir) (other : Bool) : TimeDir :=
  if !d.got then { d with ramp := 0 }
  else if d.dropped then { d with ramp := 0 }
  else if !other then { d with ramp := 255 }
  else { d with ramp := min 255 (d.ramp + 1) }

/-- Disagreement (R220): over 200 ns on 3 SYNCs drops the direction with more hops (WEST on equal counts); below 50 ns a
dropped direction rejoins. -/
def State.disagree (s : State) : State :=
  let e := s.tu.east
  let w := s.tu.west
  if !(e.got && w.got) then { s with tu := { s.tu with mismatchRun := 0 } }
  else
    let d := (e.offset - w.offset).natAbs
    if e.dropped || w.dropped then
      (if d < nsec 50 then { s with tu := { s.tu with
          east := { e with dropped := false }, west := { w with dropped := false }, mismatchRun := 0 } } else s)
    else if nsec 200 < d then
      if 2 ≤ s.tu.mismatchRun then
        let dropEast := w.hops < e.hops
        let s1 := { s with tu := { s.tu with
          east := { e with dropped := dropEast }, west := { w with dropped := !dropEast }, mismatchRun := 0 } }
        (s1.bump 0x3002 9).raise 0xB 4 corrected
          (packArg [s32 w.offset, s32 e.offset])
      else { s with tu := { s.tu with mismatchRun := s.tu.mismatchRun + 1 } }
    else { s with tu := { s.tu with mismatchRun := 0 } }

/-- w_west as a fraction (R219, R220). -/
def State.westShare (s : State) : Nat × Nat :=
  let r := s.val 0x3001 4
  let e := s.tu.east
  let w := s.tu.west
  let k (d : TimeDir) : Nat := if d.dropped then 0 else min r d.ramp
  let sum := e.hops + w.hops
  if !w.got || k w = 0 then (0, 1)
  else if !e.got || k e = 0 then (1, 1)
  else if sum = 0 then (1, 2)
  else if k w < r then (e.hops * k w, sum * r)
  else (sum * r - w.hops * k e, sum * r)

/-- The combined offset in 2^-16 ns. -/
def State.combined (s : State) : Int :=
  let q := s.westShare
  (s.tu.west.offset * (q.1 : Int) + s.tu.east.offset * ((q.2 : Int) - (q.1 : Int))).tdiv (q.2 : Int)

/-- The frequency source that the copies of a SYNC choose (R215). -/
def State.chooseSource (s : State) : State :=
  let e := s.tu.east
  let w := s.tu.west
  if e.got && (!w.got || e.hops ≤ w.hops) then s.setFreqSource 0
  else if w.got then s.setFreqSource 1
  else s

/-- Time states after a SYNC (R222), from the combined offset. -/
def State.judgeTime (s : State) (c : Int) : State :=
  let fine := c.natAbs ≤ nsec (s.val 0x3001 5)
  let coarse := nsec (s.val 0x3001 6) < c.natAbs
  let s1 := { s with tu := { s.tu with
    fineRun := if fine then s.tu.fineRun + 1 else 0
    coarseRun := if coarse then s.tu.coarseRun + 1 else 0 } }
  let both := s1.fullWeight s1.tu.east && s1.fullWeight s1.tu.west && s1.tu.east.got && s1.tu.west.got
  if s1.timeState = 2 || s1.timeState = 3 then
    if 3 ≤ s1.tu.coarseRun then
      ({ s1 with tu := { s1.tu with fineRun := 0, coarseRun := 0 } } : State).setTimeState .coarse
    else s1.setTimeState (if both then .fine else .single)
  else if 16 ≤ s1.tu.fineRun then s1.setTimeState (if both then .fine else .single)
  else s1

/-- A combined offset above STEP_THRESHOLD on 3 SYNCs steps at the next boundary; any other is slewed (R219, R221). -/
def State.correct (s : State) (c : Int) : State :=
  if nsec (s.val 0x3001 2) < c.natAbs then
    if 2 ≤ s.tu.stepRun then
      ({ s with tu := { s.tu with stepRun := 0, localStep := some (-c) } } : State).stopSlew
    else ({ s with tu := { s.tu with stepRun := s.tu.stepRun + 1 } } : State).startSlew c
  else ({ s with tu := { s.tu with stepRun := 0, localStep := none } } : State).startSlew c

/-- Settle a SYNC with the copies that are in (R219 to R222; DEDUCED, log entry 30). -/
def State.settleSync (s : State) : State :=
  let s1 := s.disagree
  let e := s1.tu.east
  let w := s1.tu.west
  let s2 := { s1 with tu := { s1.tu with
    settled := true, east := e.advance (w.got && !w.dropped), west := w.advance (e.got && !e.dropped) } }
  let q := s2.westShare
  let s3 := (s2.setVal 0x3000 7 (min 65535 (65536 * q.1 / q.2))).chooseSource
  let c := s3.combined
  ((s3.correct c).judgeTime c).firstJoin

/-- A SYNC can be settled: both copies are in, or the other direction brings none (R220). -/
def State.syncComplete (s : State) (p : RingPort) : Bool :=
  (s.dir p.other).got || ((s.dir p.other).ramp == 0 && !(s.dir p.other).dropped) || !s.hears p.other

/-- A valid copy joins its SYNC. A copy that comes after its SYNC was settled starts its direction's ramp (log entry 30). -/
def State.joinRound (s : State) (p : RingPort) (n : Nat) (off : Int) (hops : Nat) : State :=
  if s.tu.round = some n then
    let s1 := s.noteCopy p off hops
    if s1.tu.settled then s1.setDir p { s1.dir p with ramp := if (s1.dir p).dropped then 0 else max 1 (s1.dir p).ramp }
    else s1.settleSync
  else
    let s0 := if s.tu.settled then s else s.settleSync
    let s1 := { s0 with tu := { s0.tu with
      round := some n, settled := false, east := { s0.tu.east with got := false }, west := { s0.tu.west with got := false } } }
    let s2 := s1.noteCopy p off hops
    if s2.syncComplete p then s2.settleSync else s2

/-- The first valid SYNC (R221): this hub's ring time steps to the keeper's. -/
def State.firstTime (s : State) (off : Int) : State :=
  ((if inSpan 4 6 (s.val 0x2420 1) then s.setVal 0x2420 1 7 else s).jump (-off)).setTimeState .coarse

/-- Returning copies at the keeper (R225). -/
def State.closeLoop (s : State) (p : RingPort) (n : Nat) (off : Int) : State :=
  if n != s.tu.syncNumber then s
  else
    let s1 := match p with
      | .east => { s with tu := { s.tu with backEast := some off } }
      | .west => { s with tu := { s.tu with backWest := some off } }
    match s1.tu.backEast, s1.tu.backWest with
    | some a, some b =>
      let m := (a + b).tdiv 2
      let bound := isqrt (57600000000 * s.positions) + 750 * s.positions
      let high := bound < 1000000 * m.natAbs / 65536
      let s2 := { (s1.setVal 0x3010 8 (satSigned 32 m)) with tu := { s1.tu with
        backEast := none, backWest := none, closureRun := if high then s.tu.closureRun + 1 else 0 } }
      if high && s2.tu.closureRun = 16 then s2.raise 0xB 5 corrected (packArg [s32 m]) else s2
    | _, _ => s1

/-- SYNC (R218 to R222, R225). -/
def execSync (p : RingPort) (f : TakenFrame) (s : State) : Outc :=
  done (if !s.hears p || f.hdr.typ.toNat != typSync then s
  else if f.payload.length != 48 then s.portBump p 6
  else if s.isKeeper && s.isSource f.hdr then s.closeLoop p (beAt f.payload 12 4) (s.syncOffset p f)
  else if s.isKeeper then s.bump 0x3002 5
  else match s.syncFault p f with
    | some counter => s.bump 0x3002 counter
    | none =>
      let off := s.syncOffset p f
      let unset := s.timeState = 0
      let s1 := (if unset then s.firstTime off else s).takeSyncFields f
      let s2 := if s1.timeState = 4 then
        ({ s1 with tu := { s1.tu with fineRun := 0, coarseRun := 0 } } : State).setTimeState .coarse else s1
      let s3 := if s2.val 0x3000 4 = 2 then s2.setFreqSource p.num else s2
      ((s3.armHoldover).joinRound p (beAt f.payload 12 4) (if unset then 0 else off) (syncHops f)).wagRefresh)

/-- HOLDOVER_ENTER (R220, R222). What is not slewed in is not part of the value kept, since R223 adds it as it stands. -/
def execHoldoverEnter (s : State) : Outc :=
  done (s.onDue .holdover fun t =>
    if t.timeState = 1 || t.timeState = 2 || t.timeState = 3 then
      let t1 := { t with tu := { t.tu with holdEst := t.estError - t.leftPs, fineRun := 0, coarseRun := 0 } }
      (((t1.bump 0x3002 7).setTimeState .holdover).raise 0xB 2 contained
        (packArg [i16 (t.val 0x3000 4), s32 t.combined])).wagRefresh
    else t)

/-! ### Outside time (R227) -/

/-- The boundary at which the keeper announces a step (R193, R221): its cycle number and its time. -/
def State.stepPlace (s : State) : Nat × Nat :=
  let n := s.cycleNumber
  match s.cyc.change with
  | some h =>
    let base := s.cyc.current + (h.cycle + 2 ^ 32 - n) % 2 ^ 32 * s.cycleUnits
    let l := nsec h.length
    let k := max 1 ((s.ringTime + msec 4 - base + l - 1) / l)
    ((h.cycle + k) % 2 ^ 32, base + k * l)
  | none =>
    let k := (s.ringTime + msec 4 - s.cyc.current + s.cycleUnits - 1) / s.cycleUnits
    ((n + k) % 2 ^ 32, s.cyc.current + k * s.cycleUnits)

/-- The keeper announces a step of `d` ns (R221). -/
def State.announceStep (s : State) (d : Int) : State :=
  { s with tu := { s.tu with step := some (s.stepPlace.1, d) } }

/-- Steer the keeper's frequency towards an offset (R227): the law is open, its bounds are not: at most SLEW_LIMIT, and a
change of at most 0.1 ppm for each second since the last measurement (log entry 4). -/
def State.steer (s : State) : State :=
  let span := 100 * ((s.uptime - s.tu.lastMeasure) / secs 1)
  let d := s.draw (2 * span + 1)
  let lim : Int := s.val 0x3001 1
  let old := toSigned 32 (s.val 0x3010 9)
  let new := max (-lim) (min lim (old + (d.1 : Int) - (span : Int)))
  { (d.2.setVal 0x3010 9 (ofSigned 32 new)) with tu := { d.2.tu with held := (new * 2 ^ 32).tdiv 1000000000 } }

/-- A measured offset in ns, outside time minus ring time (R227). -/
def State.measured (s : State) (d : Int) : State :=
  let acquired := s.val 0x3010 6 != 2
  let s1 := ((s.setVal 0x3010 7 (satSigned 32 d)).setVal 0x3010 6 2).arm .extLoss (nsec (s.val 0x3010 0xA))
  let s2 := if acquired then s1.raise 0xB 7 corrected (packArg [i16 (s.val 0x3010 1), s32 d]) else s1
  let big := (s.val 0x3001 2 : Int) < d.natAbs
  let s3 := if s.tu.extFirst then s2.announceStep d
    else if big && s.flag 0x3010 3 then s2.announceStep d
    else s2.steer
  { s3 with tu := { s3.tu with extFirst := false, lastMeasure := s.uptime } }

/-- HOST_OFFSET (R227, R235). -/
def execHostOffset (rq : Requester) (value : List Byte) (s : State) : Outc :=
  done (s.objectWrite rq (objKey 0x3010 4) value fun v t => t.measured (toSigned 64 v))

/-- What a write of SET_TIME does (R221, R235): a step to that time at STEP_CYCLE. -/
def setTimeFx (v : Nat) (s : State) : State :=
  s.announceStep ((1000000000 * (v / 2 ^ 32) + v % 2 ^ 32 : Nat) - (inNs s.stepPlace.2 : Int))

/-- SET_TIME (R221, R235). -/
def execSetTime (rq : Requester) (value : List Byte) (s : State) : Outc :=
  done (s.objectWrite rq (objKey 0x3010 5) value setTimeFx)

/-- What a write of TOD_NEXT does (R227): the seconds of the next edge. -/
def todFx (v : Nat) (s : State) : State := { s with tu := { s.tu with tod := some v, lastPps := none } }

/-- TOD_NEXT (R227). -/
def execTodNext (rq : Requester) (value : List Byte) (s : State) : Outc :=
  done (s.objectWrite rq (objKey 0x3020 2) value todFx)

/-- PPS_IN_EDGE (R227, R236): an edge captured to 1 ns. With a name, the first edge takes it; a later edge counts the whole
seconds since, and is refused more than 100 ms away from one (DEDUCED, log entry 31). -/
def execPpsInEdge (rising : Bool) (stampNs : Nat) (s : State) : Outc :=
  done (if rising != (s.val 0x3020 1 == 0) then s
  else
    let s1 := (s.bump 0x3020 5).setVal 0x3020 4 (time80 (nsec stampNs))
    let t : Int := (stampNs : Int) - (toSigned 32 (s.val 0x3020 3)).tdiv 1000
    if !s1.isKeeper || s1.val 0x3010 1 != 2 then s1
    else match s1.tu.tod, s1.tu.lastPps with
      | none, _ => s1.bump 0x3020 6
      | some sec, none =>
        ({ s1 with tu := { s1.tu with lastPps := some s1.uptime } } : State).measured (((1000000000 * sec : Nat) : Int) - t)
      | some sec, some u =>
        let gap := s1.uptime - u
        let k := (gap + msec 500) / secs 1
        if k = 0 || msec 100 < natDist gap (secs k) then s1.bump 0x3020 6
        else
          ({ s1 with tu := { s1.tu with lastPps := some s1.uptime, tod := some (sec + k) } } : State).measured
            (((1000000000 * (sec + k) : Nat) : Int) - t))

/-- EXT_LOST (R227): the keeper holds its last correction. -/
def execExtLost (s : State) : Outc :=
  done (s.onDue .extLoss fun t =>
    if t.isKeeper && t.val 0x3010 1 != 0 then
      (t.setVal 0x3010 6 3).raise 0xB 6 contained (packArg [i16 (t.val 0x3010 1), i32 (t.val 0x3010 7)])
    else t)

/-- What a write of REFERENCE does (R227). -/
def referenceFx (v : Nat) (s : State) : State :=
  let s1 := { s.setVal 0x3010 1 v with tu := { s.tu with extFirst := true } }
  if s1.isKeeper then s1.startReference else s1

/-! ### PPS_OUT (R228) -/

/-- Place of ring time within its PPS_OUT period, in 2^-16 ns. -/
def State.ppsPhase (s : State) : Nat :=
  let second := s.ringTime % secs 1
  (second + secs 1 - nsec (s.val 0x3030 3)) % nsec (s.val 0x3030 2)

/-- PPS_OUT is driven (R228). -/
def State.ppsOn (s : State) : Bool := s.flag 0x3030 1 && s.timeGood

/-- Set the PPS_OUT pad: asserted high where POLARITY is true (R237). -/
def State.drivePps (s : State) (asserted : Bool) : State :=
  { s with tu := { s.tu with pps := asserted } }.drive (.pad 69 (asserted == s.flag 0x3030 5))

/-- PPS_OUT_EDGE (R228): asserts at a phase point, deasserts after WIDTH or where it may not be driven. -/
def execPpsOutEdge (s : State) : Outc :=
  done (if s.tu.pps then (if !s.ppsOn || nsec (s.val 0x3030 4) ≤ s.ppsPhase then s.drivePps false else s)
  else if s.ppsOn && s.ppsPhase < 2 * tickUnits then s.drivePps true
  else s)

/-- The consistency check of a set for PPS_OUT (R228). -/
def State.ppsSetOk (s : State) (set : List (Nat × Nat)) : Bool :=
  decide (s.setValue set 0x3030 4 + 100 ≤ s.setValue set 0x3030 2) && decide (s.setValue set 0x3030 3 < s.setValue set 0x3030 2)

/-! ### Capture (R229, R230) -/

/-- An accepted edge of a captured pin: its record, or its loss where 16 wait. `ns` is the ring time of the threshold
crossing, to the nearest nanosecond. -/
def State.storeCapture (s : State) (pin : Fin 64) (rising : Bool) (ns : Nat) : State :=
  if (s.val 0x3040 (if rising then 1 else 2)).testBit pin.val then
    let u := s.tu.caps[pin]
    let next := (u.seq + 1) % 65536
    if u.recs.length < 16 then
      let u1 : CapUnit := { u with recs := u.recs ++ [CapRec.mk (nsec ns) rising u.lost s.timeState u.seq], seq := next, lost := false }
      ({ s with tu := { s.tu with caps := s.tu.caps.set pin u1 } } : State).bump 0x3040 3
    else
      ({ s with tu := { s.tu with caps := s.tu.caps.set pin { u with seq := next, lost := true } } } : State).bump 0x3040 4
  else s

/-- A captured edge also reaches the waggle unit's EVENT triggers (R245). -/
def State.capture (s : State) (pin : Fin 64) (rising : Bool) (ns : Nat) : State :=
  if (s.val 0x3040 (if rising then 1 else 2)).testBit pin.val then (s.storeCapture pin rising ns).wagCapture pin.val rising ns
  else s

/-- The 16 bytes of a capture record (R230). -/
def captureBytes (pin : Nat) (r : CapRec) : List Byte :=
  leBytes 4 (inNs r.time % 1000000000) ++ leBytes 6 (inNs r.time / 1000000000) ++ leBytes 1 pin ++
    leBytes 1 ((if r.rising then 1 else 0) + (if r.lost then 2 else 0) + 4 * r.state) ++ leBytes 2 r.seq ++ leBytes 2 0

end Sys2Proof.Machine
end

