-- ==== Sys2Proof/Machine/Dio.lean ====
section
/-!
DEFINITION. Discrete channels and sensor supplies (ch. 11, R369 to R380): output latches and what the switches drive, pulse
ends, filters, protection, diagnosis, pulse tests, supplies. Budgets are in Machine/Sdci.lean.
-/

namespace Sys2Proof.Machine

/-! ### Latches and switches -/

/-- Channels that DIRECTION makes outputs (R384). -/
def State.dioOutputs (s : State) : Nat :=
  s.val 0x4300 1 + s.val 0x4301 1 * 2 ^ 8 + s.val 0x4302 1 * 2 ^ 16 + s.val 0x4303 1 * 2 ^ 24

/-- Bits of `a` that are not in `b`. -/
def bitsWithout (a b : Nat) : Nat := a ^^^ (a &&& b)

/-- A member of one of the 0x4300 groups for all 32 channels. -/
def State.dioMask (s : State) (sub : Nat) : Nat :=
  s.val 0x4300 sub + s.val 0x4301 sub * 2 ^ 8 + s.val 0x4302 sub * 2 ^ 16 + s.val 0x4303 sub * 2 ^ 24

/-- What the 32 high-side switches drive: latches of outputs, less what protection, budgets, tests, guard switches and a
lost supply hold off (R174 to R176, R373, R375, R378, R380). -/
def State.dioWanted (s : State) : Nat :=
  if s.dio.fieldOff then 0
  else [s.dio.tripped, s.dio.cut, s.dio.testing, s.dx.guardOpen, s.dx.testing].foldl bitsWithout (s.dio.latch &&& s.dioOutputs)

/-- Pads of a mask that change, lowest first. -/
def changedBits (n old new : Nat) : List Nat := (List.range n).filter fun i => old.testBit i != new.testBit i

/-- Drive the DIO pads as wanted. -/
def State.syncDio (s : State) : State :=
  let new := s.dioWanted
  let s1 := (changedBits 32 s.dio.driven new).foldl (fun t i => t.drive (.pad i (new.testBit i))) s
  { s1 with dio := { s1.dio with driven := new } }

/-- Give the latches a new value: a cleared bit ends its pulse, its protection and its budget cut, and a change ends a pulse
test (R250, R373, R375, R378). While DIO is isolated they are held (R422). -/
def State.setLatch (s : State) (new : Nat) : State :=
  if s.isolated 32 then s
  else
  let d := s.dio
  let cleared := bitsWithout d.latch new
  let changed := d.latch ^^^ new
  let s1 := (List.finRange 32).foldl (fun t (i : Fin 32) =>
    let t1 := if cleared.testBit i.val then t.disarm (.outRetry i) else t
    if changed.testBit i.val then t1.disarm (.testEnd i) else t1) s
  ({ s1 with dio := { d with
      latch := new
      tripped := bitsWithout d.tripped cleared
      cut := bitsWithout d.cut cleared
      testing := bitsWithout d.testing changed
      pulseEnd := d.pulseEnd.filter fun (p : Nat × Nat) => !cleared.testBit p.1 } } : State).syncDio

/-- Number of set bits. -/
def popCount (n : Nat) : Nat := ((List.range 32).filter n.testBit).length

/-- Levels of the inputs, and of the outputs as their pads are read back (R371). -/
def State.dioLevels (s : State) (inputs : Nat) : Nat :=
  bitsWithout inputs s.dioOutputs ||| ((s.dio.driven ||| s.dio.inRaw) &&& s.dioOutputs)

/-- The core tick now (R28). -/
def State.nowTick (s : State) : Nat := s.uptime / tickUnits

/-- The changes of latches made in the present tick. -/
def State.turnsNow (s : State) : List (Nat × Nat) := if s.dio.turnTick = s.nowTick then s.dio.turns else []

/-- Channels of a mask that no change of a later place in the order of R249 has decided in this tick. -/
def State.turnMask (s : State) (m place : Nat) : Nat :=
  s.turnsNow.foldl (fun a p => if place < p.2 then bitsWithout a (2 ^ p.1) else a) m

/-- Note that a change of this place decides the channels of a mask. -/
def State.noteTurn (s : State) (m place : Nat) : State :=
  { s with dio := { s.dio with
    turnTick := s.nowTick
    turns := ((List.range 32).filter m.testBit).map (fun n => (n, place)) ++ s.turnsNow.filter fun p => !m.testBit p.1 } }

/-- Change latches of a mask to the bits of a value; bits of inputs are ignored and counted (R371; DESIGN CHOICE, log
entry 33). -/
def State.writeLatch (s : State) (mask value ignored : Nat) : State :=
  let m := s.turnMask (mask &&& s.dioOutputs) 0
  ((s.noteTurn m 0).addVal 0x4310 0xA (popCount (bitsWithout ignored s.dioOutputs))).setLatch (bitsWithout s.dio.latch m ||| (value &&& m))

/-- The safe state is in force (R425). -/
def State.safe (s : State) : Bool := s.flag 0x6000 1

/-- A window write to the output latches (R371, R376). -/
def State.dioWrite (s : State) (mask value ignored : Nat) : State × Result :=
  if s.safe then (s, .accessDenied) else (s.writeLatch mask value ignored, .ok)

def State.outImage (s : State) (v : Nat) : State × Result := s.dioWrite 0xFFFFFFFF v v
def State.outSet (s : State) (v : Nat) : State × Result := s.dioWrite v v v
def State.outClear (s : State) (v : Nat) : State × Result := s.dioWrite v 0 v

/-- OUT_IMAGE (R371). -/
def execOutImage (rq : Requester) (value : BitVec 32) (s : State) : Outc :=
  done (s.hwWrite rq 0x10300008 (leBytes 4 value.toNat) fun t => t.outImage value.toNat)

/-- OUT_SET (R371). -/
def execOutSet (rq : Requester) (value : BitVec 32) (s : State) : Outc :=
  done (s.hwWrite rq 0x1030000C (leBytes 4 value.toNat) fun t => t.outSet value.toNat)

/-- OUT_CLEAR (R371). -/
def execOutClear (rq : Requester) (value : BitVec 32) (s : State) : Outc :=
  done (s.hwWrite rq 0x10300010 (leBytes 4 value.toNat) fun t => t.outClear value.toNat)

/-- DIO_DELIVER (R371, R376): MASK and VALUE; a frame of another LEN counts in a ROUTE_DISCARDS that no object shows (DESIGN
CHOICE, log entries 34 and 65). -/
def execDioDeliver (payload : List Byte) (s : State) : Outc :=
  done (if payload.length != 8 then { s with dio := { s.dio with discards := (s.dio.discards + 1) % 2 ^ 32 } }
  else if s.safe then s.bump 0x4310 0xA
  else s.writeLatch (beAt payload 0 4) (beAt payload 4 4) (beAt payload 0 4))

/-! ### Diagnosis -/

/-- DIAG_n as read (R371). -/
def State.diagWord (s : State) (n : Fin 32) : Nat :=
  let b (v : Bool) (i : Nat) : Nat := if v then 2 ^ i else 0
  s.dio.diag[n] + b (s.dio.cut.testBit n.val) 3 + b (s.dx.guardOpen.testBit n.val) 5 + b s.dio.reduced 7 +
    b (s.dio.tripped.testBit n.val && s.armed (.outRetry n)) 8

/-- Latch a diagnosis bit; DIO_DIAG once as it sets (R374). -/
def State.latchDiag (s : State) (n : Fin 32) (bit : Nat) : State :=
  if (s.dio.diag[n]).testBit bit then s
  else
    let s1 := { s with dio := { s.dio with diag := s.dio.diag.set n (s.dio.diag[n] + 2 ^ bit) } }
    s1.raise 0x58 1 corrected (packArg [i16 n.val, i32 (s1.diagWord n)])

/-- Clear latched bits of DIAG_n that are written 1 (R371). -/
def State.clearDiag (s : State) (n : Fin 32) (v : Nat) : State × Result :=
  ({ s with dio := { s.dio with diag := s.dio.diag.set n (bitsWithout s.dio.diag[n] v) } }, .ok)

/-- DIAG_CLEAR (R371). -/
def execDiagClear (rq : Requester) (n : Fin 32) (value : BitVec 32) (s : State) : Outc :=
  done (s.hwWrite rq (0x10300100 + 4 * n.val) (leBytes 4 value.toNat) fun t => t.clearDiag n value.toNat)

/-- Free the oldest capture records of a pin (R370, R407); more than COUNT is out of range. -/
def State.popCaptures (s : State) (pin : Fin 64) (n : Nat) : State × Result :=
  let u := s.tu.caps[pin]
  if u.recs.length < n then (s, .range)
  else ({ s with tu := { s.tu with caps := s.tu.caps.set pin { u with recs := u.recs.drop n, read := (u.read + n) % 16 } } }, .ok)

/-- CAP_POP of the DIO window (R371): bits that the table does not list change nothing (R9; log entry 113). -/
def State.dioCapPop (s : State) (v : Nat) : State × Result :=
  s.popCaptures (Fin.ofNat 64 (v % 32)) (bitField v 12 8)

/-- DIO_CAP_POP (R370). -/
def execDioCapPop (rq : Requester) (value : BitVec 32) (s : State) : Outc :=
  done (s.hwWrite rq 0x10300018 (leBytes 4 value.toNat) fun t => t.dioCapPop value.toNat)

/-- INPUT_FILTER_ACCEPT (R370): a level that has persisted for FILTER_i is the input's state. PD8 is off in S3 and in hold-up
(R471). -/
def execInputFilterAccept (n : Fin 32) (level : Bool) (s : State) : Outc :=
  done (if s.combOff then s else { s with dio := { s.dio with
    inState := putBit s.dio.inState n.val level, inRaw := putBit s.dio.inRaw n.val level } })

/-- An input whose filter is off, FILTER_i 0 or its bit in FAST_MASK (R370). -/
def State.unfiltered (s : State) (n : Nat) : Bool :=
  (s.dioMask 3).testBit n || s.val (0x4300 + n / 8) (8 + n % 8) == 0

/-- CAPTURE_EDGE (R229, R230): an edge crosses a pad. The comparator follows it, and an input without a filter (R370). -/
def execCaptureEdge (pin : Fin 64) (rising : Bool) (ns : Nat) (s : State) : Outc :=
  let t : State := if 32 ≤ pin.val || s.combOff then s else { s with dio := { s.dio with
    inRaw := putBit s.dio.inRaw pin.val rising
    inState := if s.unfiltered pin.val then putBit s.dio.inState pin.val rising else s.dio.inState } }
  done (t.capture pin rising ns)

/-- DIO_OVERCURRENT (R373): 2 ms in limit, or 165 °C. -/
def execDioOvercurrent (n : Fin 32) (temperature : Bool) (s : State) : Outc :=
  done (if !s.dio.driven.testBit n.val then s
  else
    let s1 := ({ s with dio := { s.dio with tripped := s.dio.tripped ||| 2 ^ n.val } } : State).syncDio
    let s2 := if s.val 0x4308 3 = 0 then s1 else s1.arm (.outRetry n) (nsec (s.val 0x4308 3))
    s2.latchDiag n (if temperature then 2 else 1))

/-- OUT_RETRY (R373): after OUT_RETRY and cooling, while the latch stays 1. -/
def execOutRetry (n : Fin 32) (s : State) : Outc :=
  done (s.onDue (.outRetry n) fun t =>
    ({ t with dio := { t.dio with tripped := putBit t.dio.tripped n.val false } } : State).syncDio)

/-- DIO_DIAG (R371, R374, R474): a condition of 100 ms. STUCK_ON is not evaluated in a duplex pair. -/
def execDioDiag (n : Fin 32) (stuck : Bool) (s : State) : Outc :=
  done (if s.combOff then s
  else if stuck then
    (if s.paired || (s.dio.latch.testBit n.val && s.dioOutputs.testBit n.val) || !s.dioOutputs.testBit n.val then s
     else s.latchDiag n 4)
  else if (s.dioMask 7).testBit n.val && s.dio.driven.testBit n.val then s.latchDiag n 0
  else s)

/-! ### Pulse tests (R375) -/

/-- A waggle entry names the channel and is due within 1 ms. -/
def State.wagNear (s : State) (n : Nat) : Bool :=
  s.wag.entries.any fun p =>
    let x := p.2
    (x.st == 2 || x.st == 4) && x.action == 1 && (x.w 6).testBit n && (match x.due with
      | some d => natDist d s.nowNs ≤ 1000000
      | none => false)

/-- A pulse test may start on a channel. -/
def State.pulseOk (s : State) (n : Nat) : Bool :=
  (s.dioMask 6).testBit n && s.dio.latch.testBit n && s.dioOutputs.testBit n && !s.wagNear n && (aget s.dio.pulseEnd n).isNone &&
    !s.dio.reduced && !s.safe && !s.paired && !s.combOff

/-- PULSE_TEST_START (R375). -/
def execPulseTestStart (n : Fin 32) (s : State) : Outc :=
  let last := (aget s.dio.tested n.val).getD 0
  done (if s.uptime < last + secs (s.val 0x4308 1) || s.dio.testing.testBit n.val || !s.pulseOk n.val then s
  else
    (({ s with dio := { s.dio with
        testing := s.dio.testing ||| 2 ^ n.val, tested := aput s.dio.tested n.val s.uptime } } : State).syncDio).arm (.testEnd n)
      (nsec (s.val 0x4308 2)))

/-- PULSE_TEST_END (R375): passed where the current fell below 1 mA within 20 µs. -/
def execPulseTestEnd (n : Fin 32) (passed : Bool) (s : State) : Outc :=
  done (s.onDue (.testEnd n) fun t =>
    let t1 := ({ t with dio := { t.dio with testing := putBit t.dio.testing n.val false } } : State).syncDio
    if passed then t1 else (t1.bump 0x4310 0xC).latchDiag n 6)

/-! ### Pulse ends (R249, R250) -/

/-- A set with PULSE keeps the later of two ends. -/
def State.schedulePulse (s : State) (n endNs : Nat) : State :=
  { s with dio := { s.dio with pulseEnd := aput s.dio.pulseEnd n (max endNs ((aget s.dio.pulseEnd n).getD 0)) } }

/-- PULSE_END (R249, R250): any other change of the latch in the tick comes after the clear and decides. -/
def execPulseEnd (n : Fin 32) (s : State) : Outc :=
  done (match aget s.dio.pulseEnd n.val with
  | some t =>
    if s.nowNs < t then s
    else if s.turnsNow.any fun p => p.1 == n.val then { s with dio := { s.dio with pulseEnd := adel s.dio.pulseEnd n.val } }
    else s.setLatch (putBit s.dio.latch n.val false)
  | none => s)

/-! ### Groups (R372) -/

/-- The consistency check of a set for DIO_GROUP_g. -/
def State.dioSetOk (s : State) (g : Nat) (set : List (Nat × Nat)) : Bool :=
  let v (j : Nat) : Nat := s.setValue set (0x4300 + g) j
  let outs := v 1
  ([4, 5, 6, 7].all fun j => v j &&& outs == v j) && v 3 &&& outs == 0

/-- An accepted set applies: channels that change direction start with a clear latch (R372). -/
def State.dioApplied (s : State) (g oldDir : Nat) : State :=
  let changed := (oldDir ^^^ s.val (0x4300 + g) 1) * 2 ^ (8 * g)
  (s.setLatch (bitsWithout s.dio.latch changed)).syncDio

/-- Entry into the safe state (R376): SAFE_ON, or the latch where SAFE_HOLD is set; every pulse end is cancelled (R255). -/
def State.dioSafe (s : State) : State :=
  let outs := s.dioOutputs
  let hold := s.dioMask 5
  let s1 := { s with dio := { s.dio with pulseEnd := [] } }
  s1.setLatch (((s1.dio.latch &&& hold) ||| bitsWithout (s.dioMask 4) hold) &&& outs)

/-! ### Sensor supplies (R377) -/

/-- Drive the supply outputs as commanded, less trips, cuts and a lost supply. -/
def State.syncSupply (s : State) : State :=
  let d := s.dio
  let new := if d.fieldOff || s.isolated 33 then 0 else bitsWithout (bitsWithout d.supply d.supplyTrip) d.supplyCut
  let s1 := (changedBits 4 d.supplyDriven new).foldl (fun t i => t.drive (.pad (64 + i) (new.testBit i))) s
  { s1 with dio := { s1.dio with supplyDriven := new } }

/-- Switch supplies of a mask. A command off ends a trip or a cut (R378). -/
def State.switchSupply (s : State) (mask : Nat) (on : Bool) : State :=
  let d := s.dio
  if on then ({ s with dio := { d with supply := d.supply ||| mask } } : State).syncSupply
  else
    let s1 := (List.finRange 4).foldl (fun (t : State) (i : Fin 4) =>
      if mask.testBit i.val then t.disarm (.supplyRetry i) else t) s
    ({ s1 with dio := { d with
        supply := bitsWithout d.supply mask
        supplyTrip := bitsWithout d.supplyTrip mask
        supplyCut := bitsWithout d.supplyCut mask } } : State).syncSupply

/-- STATE_i of a supply (R385): 0 off, 1 on, 3 tripped or cut, 4 reduced. -/
def State.supplyState (s : State) (i : Nat) : Nat :=
  if s.dio.supplyTrip.testBit i || s.dio.supplyCut.testBit i then 3
  else if s.dio.supplyDriven.testBit i then (if s.dio.reduced then 4 else 1)
  else 0

/-- What a write of SUPPLY_ON_i does. -/
def supplyFx (i : Fin 4) (v : Nat) (s : State) : State :=
  (s.setVal 0x4400 (i.val + 1) v).switchSupply (2 ^ i.val) (v == 1)

/-- SUPPLY_ON (R377). -/
def execSupplyOn (rq : Requester) (i : Fin 4) (value : List Byte) (s : State) : Outc :=
  done (s.objectWrite rq (objKey 0x4400 (i.val + 1)) value (supplyFx i))

/-- SUPPLY_TRIP (R377): 1 ms in limit. -/
def execSupplyTrip (i : Fin 4) (s : State) : Outc :=
  done (if !s.dio.supplyDriven.testBit i.val then s
  else
    let s1 := (({ s with dio := { s.dio with supplyTrip := s.dio.supplyTrip ||| 2 ^ i.val } } : State).syncSupply).bump 0x4400 0xD
    let s2 := s1.raise 0x59 1 contained (packArg [i16 i.val])
    if s.val 0x4400 0xE = 0 then s2 else s2.arm (.supplyRetry i) (nsec (s.val 0x4400 0xE)))

/-- SUPPLY_RETRY (R377). -/
def execSupplyRetry (i : Fin 4) (s : State) : Outc :=
  done (s.onDue (.supplyRetry i) fun t =>
    ({ t with dio := { t.dio with supplyTrip := putBit t.dio.supplyTrip i.val false } } : State).syncSupply)

end Sys2Proof.Machine
end

