-- ==== Sys2Proof/Machine/Worker.lean ====
section
/-!
DEFINITION. Worker engines (ch. 12): the clock and its edges, the pins, the instruction set with its stalls, banks and sets,
FIFOs and flows, the quadrature helpers, and the worker window.
-/

namespace Sys2Proof.Machine

/-! ### Clock (R390, R394) -/


/-- The number of the last clock edge at or before a tick. -/
def Worker.edgesBy (w : Worker) (t : Nat) : Nat :=
  if w.ahead then (if t < w.base then 0 else 1 + 65536 * (t - w.base) / max 1 w.div)
  else 65536 * (t - w.base) / max 1 w.div

/-- The tick of clock edge `j`: ceil(j × D) after the restart of the divider. -/
def Worker.edgeTick (w : Worker) (j : Nat) : Nat := w.base + ((if w.ahead then j - 1 else j) * w.div + 65535) / 65536

/-- CLOCK_COUNT (R389). -/
def Worker.clockCount (w : Worker) (t : Nat) : Nat := (w.clocks + w.edgesBy t) % 2 ^ 32

/-- Restart the divider at tick `t` as edge 0; what remains of a delay is counted from the new edges (R397). -/
def Worker.restart (w : Worker) (t : Nat) : Worker :=
  { w with clocks := w.clocks + w.edgesBy t, edge := w.edge - w.edgesBy t, base := t, ahead := false }

/-- A new divider value takes effect from the next edge (R400), which stays where the old one puts it. -/
def Worker.redivide (w : Worker) (t div : Nat) : Worker :=
  let p := w.edgesBy t
  { w with clocks := w.clocks + p, edge := w.edge - p, base := w.edgeTick (p + 1), div := div, ahead := true }

/-- Words of the TX FIFO that the worker can take in a tick (R391). -/
def Worker.txWords (w : Worker) (t : Nat) : List Nat := if w.txTick = t then w.tx.take (w.tx.length - w.txNew) else w.tx

/-- Words of the RX FIFO that an access can take in a tick (R391). -/
def Worker.rxWords (w : Worker) (t : Nat) : List (Nat × Nat) := if w.rxTick = t then w.rx.take (w.rx.length - w.rxNew) else w.rx

/-- The window or a flow writes words to the TX FIFO. -/
def Worker.addTx (w : Worker) (t : Nat) (l : List Nat) : Worker :=
  { w with tx := w.tx ++ l, txTick := t, txNew := l.length + if w.txTick = t then w.txNew else 0 }

/-- The worker pushes a word, with its time, into the RX FIFO. -/
def Worker.addRx (w : Worker) (t : Nat) (x : Nat × Nat) : Worker :=
  { w with rx := w.rx ++ [x], rxTick := t, rxNew := 1 + if w.rxTick = t then w.rxNew else 0 }

def State.worker (s : State) (n : Fin 32) : Worker := s.wu.workers[n]

def State.setWorker (s : State) (n : Fin 32) (w : Worker) : State :=
  { s with wu := { s.wu with workers := s.wu.workers.set n w } }

/-- A member of WORKER_CONFIG_n (R409). -/
def State.wcfg (s : State) (n : Fin 32) (j : Nat) : Nat := s.val (0x5000 + n.val) j

/-- The cluster of a worker (R386). -/
def clusterOf (n : Fin 32) : Fin 4 := Fin.ofNat 4 (n.val % 16 / 4)

/-! ### Pins (R387, R388) -/

/-- The set bits of a mask, lowest first. -/
def maskPins (m : Nat) : List Nat := (List.range 32).filter m.testBit

/-- Bit i of a value at the i-th pin of a mask: the pins it reaches within `width` bits, and their levels. -/
def scatter (m v width : Nat) : Nat × Nat :=
  (((maskPins m).take width).zipIdx).foldl
    (fun acc p => (acc.1 + 2 ^ p.1, acc.2 + if v.testBit p.2 then 2 ^ p.1 else 0)) (0, 0)

/-- The i-th pin of a mask as bit i. -/
def gather (m levels : Nat) : Nat :=
  (maskPins m).zipIdx.foldl (fun acc p => acc + if levels.testBit p.1 then 2 ^ p.2 else 0) 0

/-- Pins of banks that are switched on (R387). -/
def State.bankMask (s : State) : Nat :=
  ((List.range 4).map fun k => if s.val 0x5100 (k + 1) = 0 then 0 else 0xFF * 2 ^ (8 * k)).sum

/-- Pins that a worker owns. -/
def State.ownedBy (s : State) (n : Fin 32) : Nat :=
  ((List.range 32).filter fun p => s.val 0x5100 (p + 5) == n.val).foldl (fun acc p => acc + 2 ^ p) 0

/-- Drive the worker pads from the latches; a standby's pins are inputs only (R405). -/
def State.syncPins (s : State) : State :=
  let dir := if s.drives then s.wu.pinDir &&& s.bankMask else 0
  let lvl := s.wu.pinLevel
  let s1 := (List.range 32).foldl (fun (t : State) i =>
    if dir.testBit i then
      (if !s.wu.padDir.testBit i || s.wu.padLevel.testBit i != lvl.testBit i then t.drive (.pad (32 + i) (lvl.testBit i)) else t)
    else if s.wu.padDir.testBit i then t.drive (.padOff (32 + i)) else t) s
  { s1 with wu := { s1.wu with padDir := dir, padLevel := lvl } }

/-- Change direction or level latches through a mask: only pins the worker owns (R387). -/
def State.writePins (s : State) (n : Fin 32) (dirs : Bool) (mask value width : Nat) : State :=
  let q := scatter mask value width
  let m := q.1 &&& s.ownedBy n
  let new (old : Nat) : Nat := bitsWithout old m ||| (q.2 &&& m)
  (if dirs then ({ s with wu := { s.wu with pinDir := new s.wu.pinDir } } : State)
   else { s with wu := { s.wu with pinLevel := new s.wu.pinLevel } }).syncPins

/-- Levels that IN, WAIT and JMP of a worker read: banks that are off read 0, then IN_INVERT (R387, R394). -/
def State.readPins (s : State) (n : Fin 32) (levels : Nat) : Nat := (levels &&& s.bankMask) ^^^ s.wcfg n 0xC

/-! ### Cluster flags (R393, R395) -/

/-- The flags as they stand in a tick. -/
def ClusterFlags.now (c : ClusterFlags) (t : Nat) : Nat := if c.tick = t then c.cur else bitsWithout c.cur c.pulse

/-- The flags at the end of the tick before. -/
def ClusterFlags.before (c : ClusterFlags) (t : Nat) : Nat :=
  if c.tick = t then c.prev else if c.tick + 1 = t then c.cur else bitsWithout c.cur c.pulse

def State.flagsBefore (s : State) (c : Fin 4) : Nat := s.wu.flags[c].before s.nowTick

/-- A worker sets or clears a flag of its cluster, or pulses it for this tick; a flag that becomes set reaches EVENT triggers (R245).
Within a tick the highest worker number decides (R395). -/
def State.setFlagBit (s : State) (n : Fin 32) (i : Nat) (on pulse : Bool) : State :=
  let c := clusterOf n
  let t := s.nowTick
  let x := s.wu.flags[c]
  let cur := x.now t
  let decided := if x.tick = t then x.by_ else []
  if decided.any fun p => p.1 == i && decide (n.val < p.2) then s
  else
    let y : ClusterFlags := {
      cur := putBit cur i on, prev := x.before t, tick := t
      pulse := putBit (if x.tick = t then x.pulse else 0) i pulse
      by_ := (i, n.val) :: decided.filter fun p => p.1 != i }
    let s1 := { s with wu := { s.wu with flags := s.wu.flags.set c y } }
    if on && !cur.testBit i then s1.wagFlag c.val i else s1

/-! ### FIFOs and flows (R391, R401, R402) -/

def State.txRoom (s : State) (n : Fin 32) : Nat := s.wcfg n 0xD - (s.worker n).tx.length
def State.rxRoom (s : State) (n : Fin 32) : Nat := 16 - s.wcfg n 0xD - (s.worker n).rx.length

/-- Pop FLOW_WORDS words into a flow frame whenever the RX FIFO holds as many (R402). -/
def State.rxFlow : Nat → Fin 32 → State → State
  | 0, _, s => s
  | k + 1, n, s =>
    let e := s.val (0x5040 + n.val) 2
    let c := s.val (0x5040 + n.val) 3
    let w := s.worker n
    if e = 0xFFFF || w.rx.length < c || c = 0 then s
    else
      let l := w.rx.take c
      let t := match l with
        | (_, t) :: _ => t
        | [] => 0
      let body := beBytes 6 (t / 1000000000) ++ beBytes 4 (t % 1000000000) ++ beBytes 1 n.val ++ beBytes 1 c ++ beBytes 4 0 ++
        (l.map fun x => beBytes 4 x.1).flatten
      State.rxFlow k n ((s.setWorker n { w with rx := w.rx.drop c }).routeFlow (.worker n) e body (0x5060 + n.val) 8)

/-- Push a word into the RX FIFO. -/
def State.pushRx (s : State) (n : Fin 32) (word : Nat) : State :=
  s.setWorker n ((s.worker n).addRx s.nowTick (word, s.nowNs))

/-! ### Sets and banks (R399, R400) -/

/-- The program word of a worker at an address of a bank. -/
def State.progWord (s : State) (n : Fin 32) (bank addr : Nat) : Nat := (aget s.wu.prog (64 * n.val + 32 * bank + addr)).getD 0

/-- The instruction at PC in the active bank. -/
def State.instrAt (s : State) (n : Fin 32) : Nat := s.progWord n (s.wcfg n 1) (s.worker n).pc

/-- The pending set of a worker applies: its members, and the divider from the next edge (R400). -/
def State.applyWorker (s : State) (n : Fin 32) : State :=
  let s1 := s.applySet (0x5020 + n.val)
  s1.setWorker n ((s1.worker n).redivide s1.nowTick (s1.wcfg n 5))

/-- A set waits for a worker's wrap. -/
def State.flipPending (s : State) (n : Fin 32) : Bool := (s.group (0x5020 + n.val)).pending.isSome

/-- What a start sets up (R397): the registers, and the divider with this tick as edge 0. -/
def State.startAt (s : State) (n : Fin 32) : State :=
  s.setWorker n { s.worker n with
    st := 1, reason := 0, pc := s.wcfg n 2, cr := s.wcfg n 0xE, f := false, stamp := none, base := s.nowTick
    clocks := 0, edge := 0, div := s.wcfg n 5, ahead := false }

/-- The worker was started in this core tick. -/
def State.startedNow (s : State) (n : Fin 32) : Bool := (s.worker n).startTick == some s.nowTick

/-- Forced flip (R400): the stall or delay is abandoned, the bits in SR are discarded, the set applies at the new ENTRY. A start of the
same tick comes after it (R395). -/
def State.forceFlip (s : State) (n : Fin 32) : State :=
  let w := s.worker n
  if if s.startedNow n then w.ran else w.st == 1 || w.st == 2 then
    let s1 := ((s.addVal (0x5060 + n.val) 6 w.count).bump (0x5060 + n.val) 5).raise (0x60 + n.val) 2 corrected
      (packArg [i16 n.val, i32 w.count])
    let s2 := (s1.setWorker n { w with sr := 0, count := 0, st := 1, reason := 0 }).disarm (.workerStall n)
    let s3 := s2.applyWorker n
    let x := s3.worker n
    if s.startedNow n then s3.startAt n else s3.setWorker n { x with pc := s3.wcfg n 2, edge := x.edgesBy s3.nowTick + 1 }
  else if s.startedNow n then (s.applyWorker n).startAt n
  else s.applyWorker n

/-- An accepted set with COMMIT 1: at once unless the worker runs or stalls (R400). -/
def State.commitWorker (s : State) (n : Fin 32) : State :=
  if (s.worker n).st = 1 || (s.worker n).st = 2 then s else s.applyWorker n

/-- The consistency check of a set for WORKER_n (R399); SAFE acts as STOPPED (R404). -/
def State.workerSetOk (s : State) (n : Fin 32) (set : List (Nat × Nat)) : Bool :=
  let v (j : Nat) : Nat := s.setValue set (0x5000 + n.val) j
  let w := s.worker n
  v 3 ≤ v 4 && popCount (v 9) ≤ 8 && v 0xB < 0x8000 &&
    (v 0xD == s.wcfg n 0xD || ((w.st == 0 || w.st == 3) && w.tx.isEmpty && w.rx.isEmpty))

/-- A field of an instruction. -/
def iField (word hi lo : Nat) : Nat := bitField word hi lo

/-- An instruction word without a reserved opcode, field or condition (R393, R399). -/
def instrOk (w : Nat) : Bool :=
  let op := iField w 23 20
  let z (hi lo : Nat) : Bool := iField w hi lo == 0
  w < 2 ^ 24 &&
    (match op with
      | 0 => z 13 0
      | 1 => z 10 5
      | 2 => z 10 5
      | 3 => z 13 2
      | 4 => z 13 1
      | 5 => z 12 8
      | 6 => z 10 6 && iField w 13 11 != 7 && (!(iField w 13 11 == 4 || iField w 13 11 == 5) || z 4 3) &&
          (!(iField w 13 11 == 3 || iField w 13 11 == 6) || z 5 0)
      | 7 => z 9 8 && iField w 13 11 < 6
      | 8 => z 5 5 && iField w 13 11 != 7
      | 9 => z 10 3 && iField w 13 12 != 3
      | 10 => z 13 3
      | _ => false)

/-! ### Executing (R394) -/

/-- What an attempt at an instruction gives: done, with a jump where one is taken, or a stall with its reason. -/
inductive Try where
  | did (s : State) (jump : Option Nat)
  | stall (s : State) (reason : Nat)

/-- The word a worker is about to execute is of an opcode, and its clock edge has come. -/
def State.ready (s : State) (n : Fin 32) (op : Nat) : Bool :=
  let w := s.worker n
  w.st == 1 && decide (w.edgeTick w.edge ≤ s.nowTick) && iField (s.instrAt n) 23 20 == op

/-- After an instruction: the next address, with the wrap and the set it applies (R394, R400). -/
def State.nextAddress (s : State) (n : Fin 32) (jump : Option Nat) : State :=
  let w := s.worker n
  match jump with
  | some a => s.setWorker n { w with pc := a }
  | none =>
    if w.pc = s.wcfg n 4 then
      let s1 := if s.flipPending n then s.applyWorker n else s
      s1.setWorker n { s1.worker n with pc := s1.wcfg n 3 }
    else s.setWorker n { w with pc := (w.pc + 1) % 32 }

/-- Complete an instruction: after a stall the delay runs from the first edge after this tick, otherwise from its own. -/
def State.complete (s : State) (n : Fin 32) (delay : Nat) (jump : Option Nat) (stalled : Bool) : State :=
  let w := s.worker n
  let e := if stalled then w.edgesBy s.nowTick + 1 + delay else w.edge + delay + 1
  ((s.setWorker n { w with st := 1, reason := 0, edge := e }).nextAddress n jump).disarm (.workerStall n)

/-- A stall begins: STALL_LIMIT runs (R398). -/
def State.beginStall (s : State) (n : Fin 32) (reason : Nat) : State :=
  let s1 := s.setWorker n { s.worker n with st := 2, reason := reason }
  let l := s.val (0x5040 + n.val) 4
  if l = 0 then s1 else s1.arm (.workerStall n) (nsec l)

/-- Run an attempt at the instruction at PC. -/
def State.run (s : State) (n : Fin 32) (stalled : Bool) (r : Try) : State :=
  match r with
  | .did t jump => State.rxFlow 16 n (t.complete n (iField (s.instrAt n) 19 14) jump stalled)
  | .stall t reason => if stalled then t else t.beginStall n reason

/-- Number of bits of a shift: 0 stands for 32 (R393). -/
def shiftBits (w : Nat) : Nat := if w % 32 = 0 then 32 else w % 32

/-- Take N bits from the leading end of SR: the bits and the SR left (R393). -/
def takeBits (order sr n : Nat) : Nat × Nat :=
  if order = 0 then (sr / 2 ^ (32 - n), sr * 2 ^ n % 2 ^ 32) else (sr % 2 ^ n, sr / 2 ^ n)

/-- Shift SR by N towards the leading end and fill the trailing N bits. -/
def fillBits (order sr n v : Nat) : Nat :=
  if order = 0 then sr * 2 ^ n % 2 ^ 32 + v % 2 ^ n else sr / 2 ^ n + v % 2 ^ n * 2 ^ (32 - n)

/-- OUT. -/
def State.tryOut (s : State) (n : Fin 32) : Try :=
  let i := s.instrAt n
  let k := shiftBits i
  let w := s.worker n
  if i.testBit 11 && w.count < k then
    match w.txWords s.nowTick with
    | x :: _ => go (s.setWorker n { w with tx := w.tx.drop 1, sr := x, count := 32 }) i k
    | [] => .stall s 4
  else go s i k
where
  go (s : State) (i k : Nat) : Try :=
    let w := s.worker n
    let q := takeBits (s.wcfg n 6) w.sr k
    let s1 := s.setWorker n { w with sr := q.2, count := w.count - k }
    .did (match iField i 13 12 with
      | 0 => s1.writePins n false (s1.wcfg n 7) q.1 k
      | 1 => s1.writePins n true (s1.wcfg n 7) q.1 k
      | 2 => s1.setWorker n { s1.worker n with cr := q.1 }
      | _ => s1) none

/-- The blocking push that ends an IN with DELIVER. -/
def State.tryDeliver (s : State) (n : Fin 32) : Try :=
  let w := s.worker n
  if s.rxRoom n = 0 then .stall s 5
  else .did ((s.pushRx n w.sr).setWorker n { (s.pushRx n w.sr).worker n with sr := 0, count := 0 }) none

/-- IN: a stalled one has already shifted. -/
def State.tryIn (s : State) (n : Fin 32) (levels : Nat) (stalled : Bool) : Try :=
  if stalled then s.tryDeliver n
  else
    let i := s.instrAt n
    let k := shiftBits i
    let w := s.worker n
    let v := match iField i 13 12 with
      | 0 => gather (s.wcfg n 8) (s.readPins n levels)
      | 1 => w.cr
      | 2 => 0
      | _ => 2 ^ 32 - 1
    let c := min 32 (w.count + k)
    let s1 := s.setWorker n { w with sr := fillBits (s.wcfg n 6) w.sr k v, count := c }
    if i.testBit 11 && s.wcfg n 0xA ≤ c then s1.tryDeliver n else .did s1 none

/-- PULL. -/
def State.tryPull (s : State) (n : Fin 32) : Try :=
  let i := s.instrAt n
  let w := s.worker n
  match w.txWords s.nowTick with
  | x :: _ =>
    let y := { w with tx := w.tx.drop 1, f := true }
    .did (s.setWorker n (if i.testBit 1 then { y with cr := x } else { y with sr := x, count := 32 })) none
  | [] => if i.testBit 0 then .stall s 2 else .did (s.setWorker n { w with f := false }) none

/-- PUSH. -/
def State.tryPush (s : State) (n : Fin 32) : Try :=
  let i := s.instrAt n
  let w := s.worker n
  let clear (t : State) : State := t.setWorker n { t.worker n with sr := 0, count := 0 }
  if s.rxRoom n = 0 then
    (if i.testBit 0 then .stall s 3 else .did (clear (s.bump (0x5060 + n.val) 7)) none)
  else .did (clear (s.pushRx n w.sr)) none

/-- SET. -/
def State.trySet (s : State) (n : Fin 32) : Try :=
  let i := s.instrAt n
  .did (s.writePins n (i.testBit 13) (s.wcfg n 9) (i % 256) 8) none

/-- WAIT (R393): `edge` is an edge on its pin, rising at the pad or not, with its pad stamp in ns; the worker sees it through IN_INVERT
(R394). A ring tick ends a WAIT of KIND 6 in `tickWorker`. -/
def State.tryWait (s : State) (n : Fin 32) (levels : Nat) (edge : Option (Bool × Nat)) (stalled : Bool) : Try :=
  let i := s.instrAt n
  let w := s.worker n
  let pin := (s.readPins n levels).testBit (i % 32)
  let flag := (s.flagsBefore (clusterOf n)).testBit (i % 8)
  let inverted := (s.wcfg n 0xC).testBit (i % 32)
  let holds := match iField i 13 11 with
    | 0 => pin == i.testBit 5
    | 1 => stalled && (match edge with
        | some (r, _) => r != inverted
        | none => false)
    | 2 => stalled && (match edge with
        | some (r, _) => r == inverted
        | none => false)
    | 3 => w.clockCount s.nowTick == w.cr
    | 4 => flag
    | 5 => !flag
    | _ => false
  if holds then
    .did (match iField i 13 11, edge with
      | 1, some (_, t) => s.setWorker n { w with stamp := some t }
      | 2, some (_, t) => s.setWorker n { w with stamp := some t }
      | _, _ => s) none
  else .stall s 1

/-- CMP. -/
def State.tryCmp (s : State) (n : Fin 32) : Try :=
  let i := s.instrAt n
  let w := s.worker n
  let cr := (w.cr + 0xFFFFFFFF) % 2 ^ 32
  let r := match iField i 13 11 with
    | 0 => w.sr == w.cr
    | 1 => w.sr != w.cr
    | 2 => decide (w.cr ≤ w.sr)
    | 3 => decide (w.sr < w.cr)
    | 4 => cr != 0
    | _ => decide (shiftBits i ≤ w.count)
  let s1 := if iField i 13 11 = 4 then s.setWorker n { w with cr := cr } else s
  .did (if i.testBit 10 then s1.setFlagBit n (iField i 7 5) r false
    else s1.setWorker n { s1.worker n with f := r }) none

/-- JMP. -/
def State.tryJmp (s : State) (n : Fin 32) (levels : Nat) : Try :=
  let i := s.instrAt n
  let w := s.worker n
  let pin := (s.readPins n levels).testBit (iField i 10 6)
  let c := match iField i 13 11 with
    | 0 => true
    | 1 => w.f
    | 2 => !w.f
    | 3 => pin
    | 4 => !pin
    | 5 => !(w.txWords s.nowTick).isEmpty
    | _ => w.count == 0
  .did s (if c then some (i % 32) else none)

/-- FLAG. -/
def State.tryFlag (s : State) (n : Fin 32) : Try :=
  let i := s.instrAt n
  let k := i % 8
  let s1 := s.setFlagBit n k (iField i 13 12 != 1) (iField i 13 12 == 2)
  .did (if i.testBit 11 then s1.raise (0x60 + n.val) 1 corrected (packArg [i16 n.val, i16 k]) else s1) none

/-- STAMP. -/
def State.tryStamp (s : State) (n : Fin 32) : Try :=
  let i := s.instrAt n
  let w := s.worker n
  let need := if i.testBit 0 then 2 else 1
  let t := if i.testBit 1 then w.stamp.getD s.nowNs else s.nowNs
  let f := if i.testBit 1 then w.stamp.isSome else w.f
  if s.rxRoom n < need then
    (if i.testBit 2 then .stall s 6 else .did (s.bump (0x5060 + n.val) 7) none)
  else
    let s1 := (s.setWorker n { w with f := f }).pushRx n (t % 1000000000)
    .did (if i.testBit 0 then s1.pushRx n (t / 1000000000 % 2 ^ 32) else s1) none

/-- A WAIT with KIND 6 ends: the divider restarts with this tick as edge 0. -/
def State.tickWorker (s : State) (n : Fin 32) : State :=
  let w := s.worker n
  let i := s.instrAt n
  if w.st = 2 && iField i 23 20 = 6 && iField i 13 11 = 6 then
    (s.setWorker n { (w.restart s.nowTick) with edge := 0 }).complete n (iField i 19 14) none true
  else s

/-- NOP (R393). -/
def execWorkerNop (n : Fin 32) (s : State) : Outc := done (if s.ready n 0 then s.run n false (.did s none) else s)
/-- OUT (R393, R394). -/
def execWorkerOut (n : Fin 32) (s : State) : Outc := done (if s.ready n 1 then s.run n false (s.tryOut n) else s)
/-- IN (R393, R394): `levels` are the synchronised levels of WP0–WP31. -/
def execWorkerIn (n : Fin 32) (levels : BitVec 32) (s : State) : Outc :=
  done (if s.ready n 2 then s.run n false (s.tryIn n levels.toNat false) else s)
/-- PULL (R393). -/
def execWorkerPull (n : Fin 32) (s : State) : Outc := done (if s.ready n 3 then s.run n false (s.tryPull n) else s)
/-- PUSH (R393). -/
def execWorkerPush (n : Fin 32) (s : State) : Outc := done (if s.ready n 4 then s.run n false (s.tryPush n) else s)
/-- SET (R393). -/
def execWorkerSet (n : Fin 32) (s : State) : Outc := done (if s.ready n 5 then s.run n false (s.trySet n) else s)
/-- WAIT (R393): one on the ring tick that begins in the tick of a ring tick ends in it (R394). -/
def execWorkerWait (n : Fin 32) (levels : BitVec 32) (s : State) : Outc :=
  done (if s.ready n 6 then
    let t := s.run n false (s.tryWait n levels.toNat none false)
    if s.wu.ringTicks[clusterOf n] = some s.nowTick then t.tickWorker n else t
  else s)
/-- CMP (R393). -/
def execWorkerCmp (n : Fin 32) (s : State) : Outc := done (if s.ready n 7 then s.run n false (s.tryCmp n) else s)
/-- JMP (R393). -/
def execWorkerJmp (n : Fin 32) (levels : BitVec 32) (s : State) : Outc :=
  done (if s.ready n 8 then s.run n false (s.tryJmp n levels.toNat) else s)
/-- FLAG (R393). -/
def execWorkerFlag (n : Fin 32) (s : State) : Outc := done (if s.ready n 9 then s.run n false (s.tryFlag n) else s)
/-- STAMP (R393). -/
def execWorkerStamp (n : Fin 32) (s : State) : Outc := done (if s.ready n 10 then s.run n false (s.tryStamp n) else s)

/-- STALL_END (R394): the condition of a stalled instruction holds; nothing happens while it does not. -/
def execStallEnd (n : Fin 32) (levels : BitVec 32) (edge : Option (Bool × Nat)) (s : State) : Outc :=
  done (if (s.worker n).st != 2 then s
  else match iField (s.instrAt n) 23 20 with
    | 1 => s.run n true (s.tryOut n)
    | 2 => s.run n true (s.tryIn n levels.toNat true)
    | 3 => s.run n true (s.tryPull n)
    | 4 => s.run n true (s.tryPush n)
    | 6 => s.run n true (s.tryWait n levels.toNat edge true)
    | 10 => s.run n true (s.tryStamp n)
    | _ => s)

/-! ### Ring ticks (R396) -/

/-- A ring tick of a cluster falls now: the cycle boundary, or a period point of ring time. -/
def State.ringTickNow (s : State) (c : Fin 4) : Bool :=
  s.timeGood && (match s.val (0x5110 + c.val) 1 with
    | 1 => s.cyc.have_ && s.cyc.current ≤ s.ringTime && s.ringTime < s.cyc.current + 2 * tickUnits
    | 2 =>
      let t := (s.ringTime % secs 1 + secs 1 - nsec (s.val (0x5110 + c.val) 3)) % nsec (s.val (0x5110 + c.val) 2)
      t < 2 * tickUnits
    | _ => false)

/-- RING_TICK (R396). -/
def execRingTick (c : Fin 4) (s : State) : Outc :=
  done (if s.ringTickNow c then
    let s1 := s.bump (0x5110 + c.val) 4
    ((List.finRange 32).filter fun n => clusterOf n == c).foldl State.tickWorker
      { s1 with wu := { s1.wu with ringTicks := s1.wu.ringTicks.set c (some s.nowTick) } }
  else s)

/-! ### Control (R397) -/

/-- Start a worker; starts of one tick act once (R395). Those of an isolated cluster are held in SAFE (R422). -/
def State.startWorker (s : State) (n : Fin 32) : State :=
  if s.isolated (34 + (clusterOf n).val) || s.startedNow n then s
  else
  let w := s.worker n
  let s1 := (if s.flipPending n then s.applyWorker n else s).startAt n
  ((s1.setWorker n { s1.worker n with startTick := some s.nowTick, ran := w.st == 1 || w.st == 2 }).bump (0x5060 + n.val) 0xA).disarm
    (.workerStall n)

/-- Restart a worker's clock. -/
def State.restartWorker (s : State) (n : Fin 32) : State :=
  let w := s.worker n
  if w.st = 1 || w.st = 2 then s.setWorker n (w.restart s.nowTick) else s

/-- Stop a worker; a start of the same tick comes after it (R395). -/
def State.stopWorker (s : State) (n : Fin 32) : State :=
  if s.startedNow n then s
  else
  let w := s.worker n
  let s1 := if w.st = 1 || w.st = 2 then s.setWorker n { w with st := 0, reason := 0 } else s
  let s2 := s1.disarm (.workerStall n)
  if s2.flipPending n && w.st != 0 then s2.applyWorker n else s2

/-- Do something to every worker of a mask. -/
def State.eachWorker (s : State) (mask : Nat) (k : State → Fin 32 → State) : State :=
  ((List.finRange 32).filter fun n => mask.testBit n.val).foldl k s

/-- START_MASK, RESTART_MASK and STOP_MASK of the window (R397, R404). -/
def State.startMask (s : State) (m : Nat) : State × Result :=
  if s.safe then (s, .accessDenied) else (s.eachWorker m State.startWorker, .ok)
def State.restartMask (s : State) (m : Nat) : State × Result := (s.eachWorker m State.restartWorker, .ok)
def State.stopMask (s : State) (m : Nat) : State × Result := (s.eachWorker m State.stopWorker, .ok)

/-- START_MASK (R397). -/
def execStartMask (rq : Requester) (mask : BitVec 32) (s : State) : Outc :=
  done (s.hwWrite rq 0x20020000 (leBytes 4 mask.toNat) fun t => t.startMask mask.toNat)
/-- RESTART_MASK (R397). -/
def execRestartMask (rq : Requester) (mask : BitVec 32) (s : State) : Outc :=
  done (s.hwWrite rq 0x20020004 (leBytes 4 mask.toNat) fun t => t.restartMask mask.toNat)
/-- STOP_MASK (R397). -/
def execStopMask (rq : Requester) (mask : BitVec 32) (s : State) : Outc :=
  done (s.hwWrite rq 0x20020008 (leBytes 4 mask.toNat) fun t => t.stopMask mask.toNat)

/-- WORKER_STALL (R398). -/
def execWorkerStall (n : Fin 32) (s : State) : Outc :=
  done (s.onDue (.workerStall n) fun t =>
    let w := t.worker n
    if w.st = 2 then
      (t.bump (0x5060 + n.val) 9).raise (0x60 + n.val) 3 corrected (packArg [i16 n.val, i16 w.reason, i16 w.pc])
    else t)

/-- Workers with RUN_AT_STARTUP start at the first boundary with good time (R398). -/
def State.startupWorkers (s : State) : State :=
  if s.wu.started || !s.timeGood then s
  else
    ((List.finRange 32).filter fun n => s.flag (0x5040 + n.val) 1).foldl State.startWorker
      { s with wu := { s.wu with started := true } }

/-- Workers of a list enter SAFE (R404): RUNNING and STALLED ones, with the pins of a mask at their safe levels. -/
def State.workersSafeIn (s : State) (l : List (Fin 32)) (pins : Nat) : State :=
  let drive := s.val 0x5100 0x25 &&& pins
  let s1 := l.foldl (fun (t : State) n =>
    let w := t.worker n
    if w.st = 1 || w.st = 2 then (t.setWorker n { w with st := 3, reason := 0 }).disarm (.workerStall n) else t) s
  ({ s1 with wu := { s1.wu with
      pinDir := bitsWithout s1.wu.pinDir pins ||| drive
      pinLevel := bitsWithout s1.wu.pinLevel drive ||| (s1.val 0x5100 0x26 &&& drive) } } : State).syncPins

/-- The safe state begins for every worker and pin. -/
def State.workersSafe (s : State) : State := s.workersSafeIn (List.finRange 32) 0xFFFFFFFF

/-! ### The worker window (R399, R401, R407) -/

/-- Store program words. -/
def State.storeProg (s : State) (n : Fin 32) (bank addr : Nat) (l : List Nat) : State :=
  { s with wu := { s.wu with prog := l.zipIdx.foldl (fun acc p =>
      let k := 64 * n.val + 32 * bank + addr + p.2
      if p.1 = 0 then adel acc k else aput acc k p.1) s.wu.prog } }

/-- A write of program words (R399). -/
def State.bankWrite (s : State) (n : Fin 32) (bank addr : Nat) (l : List Nat) : State × Result :=
  let pendingNames := match (s.group (0x5020 + n.val)).pending with
    | some set => s.setValue set (0x5000 + n.val) 1 == bank
    | none => false
  if s.wcfg n 1 = bank then (s, .inUse)
  else if pendingNames then (s, .stagedPending)
  else if !l.all instrOk then (s, .range)
  else ((s.storeProg n bank addr l).noteSave, .ok)

/-- Words for the TX FIFO: all or none (R401). -/
def State.txWrite (s : State) (n : Fin 32) (l : List Nat) : State × Result :=
  if s.txRoom n < l.length then (s, .busyRetry)
  else (s.setWorker n ((s.worker n).addTx s.nowTick l), .ok)

/-- CAP_POP of the worker window (R407). -/
def State.workerCapPop (s : State) (v : Nat) : State × Result :=
  s.popCaptures (Fin.ofNat 64 (32 + v % 32)) (bitField v 12 8)

/-- A write of the worker window (R407). -/
def State.workerWrite (s : State) (offset : Nat) (bytes : List Byte) : State × Result :=
  let rel := offset % 0x10000000
  let n : Fin 32 := Fin.ofNat 32 (rel / 0x1000)
  let p := rel % 0x1000
  let len := bytes.length
  let fits := rel % 4 = 0 && len % 4 = 0 && len != 0
  let word (k : Nat → State × Result) : State × Result := if fits && len = 4 then k (leNat bytes) else (s, .typeLength)
  if 0x32100 ≤ rel then (s, .noTarget)
  else if rel < 0x20000 then
    if p < 0x100 then
      (if fits && p % 0x80 + len ≤ 0x80 then s.bankWrite n (p / 0x80) (p % 0x80 / 4) (wordsOf bytes) else (s, .typeLength))
    else if p = 0x100 then (if fits && len ≤ 64 then s.txWrite n (wordsOf bytes) else (s, .typeLength))
    else if p < 0x11C then (s, .readOnly)
    else (s, .typeLength)
  else if rel = 0x20000 then word s.startMask
  else if rel = 0x20004 then word s.restartMask
  else if rel = 0x20008 then word s.stopMask
  else if rel < 0x20020 then (if rel < 0x2000C then (s, .typeLength) else (s, .readOnly))
  else if 0x30000 ≤ rel && rel < 0x32080 then (s, .readOnly)
  else if rel = 0x32080 then word s.workerCapPop
  else (s, .typeLength)

/-- BANK_WRITE (R399). -/
def execBankWrite (rq : Requester) (n : Fin 32) (bank : Fin 2) (addr : Fin 32) (words : List (BitVec 32)) (s : State) : Outc :=
  let offset := 0x20000000 + 0x1000 * n.val + 0x80 * bank.val + 4 * addr.val
  let bytes := (words.map fun w => leBytes 4 w.toNat).flatten
  done (s.hwWrite rq offset bytes fun t => t.workerWrite offset bytes)

/-- TX_FIFO_WRITE (R401). -/
def execTxFifoWrite (rq : Requester) (n : Fin 32) (words : List (BitVec 32)) (s : State) : Outc :=
  let offset := 0x20000100 + 0x1000 * n.val
  let bytes := (words.map fun w => leBytes 4 w.toNat).flatten
  done (s.hwWrite rq offset bytes fun t => t.workerWrite offset bytes)

/-- A read of the RX FIFO pops its words: all or none; never while a flow takes them (R401). -/
def State.rxRead (s : State) (n : Fin 32) (k : Nat) : State × Result × List Byte :=
  let w := s.worker n
  if s.val (0x5040 + n.val) 2 != 0xFFFF then (s, .inUse, [])
  else if k = 0 || 16 < k then (s, .typeLength, [])
  else if (w.rxWords s.nowTick).length < k then (s, .busyRetry, [])
  else (s.setWorker n { w with rx := w.rx.drop k }, .ok, ((w.rx.take k).map fun x => leBytes 4 x.1).flatten)

/-- RX_FIFO_READ (R401). -/
def execRxFifoRead (rq : Requester) (n : Fin 32) (k : Nat) (s : State) : Outc :=
  done (s.hwRead rq (0x20000104 + 0x1000 * n.val) (4 * k) fun t => t.rxRead n k)

/-- STATUS_n (R407). -/
def State.workerStatus (s : State) (n : Fin 32) : Nat :=
  let w := s.worker n
  2 ^ 29 * w.st + 2 ^ 28 * s.wcfg n 1 + (if s.flipPending n then 2 ^ 27 else 0) + (if w.f then 2 ^ 26 else 0) +
    2 ^ 16 * w.pc + 2 ^ 8 * w.count + w.reason

/-- Record i of a capture queue by its slot (R230). -/
def State.capBytes (s : State) (pin : Fin 64) (slot : Nat) : List Byte :=
  let u := s.tu.caps[pin]
  match u.recs[(slot + 16 - u.read) % 16]? with
  | some r => captureBytes pin.val r
  | none => leBytes 16 (s.openBits slot 128)

/-- CAP_STATE_n: COUNT and READ_INDEX (R371). -/
def State.capState (s : State) (pin : Fin 64) : Nat := s.tu.caps[pin].recs.length + s.tu.caps[pin].read * 2 ^ 8

/-- A word of the worker window as read; none in a hole or in a write-only area. -/
def State.workerWord (s : State) (rel : Nat) : Option Nat :=
  let n : Fin 32 := Fin.ofNat 32 (rel / 0x1000)
  let p := rel % 0x1000
  if rel < 0x20000 then
    if p < 0x100 then some (s.progWord n (p / 0x80) (p % 0x80 / 4))
    else match p with
      | 0x108 => some ((s.worker n).tx.length + (s.worker n).rx.length * 2 ^ 8)
      | 0x10C => some (s.workerStatus n)
      | 0x110 => some (s.worker n).sr
      | 0x114 => some (s.worker n).cr
      | 0x118 => some ((s.worker n).clockCount s.nowTick)
      | _ => none
  else if rel = 0x2000C then
    some (((List.finRange 32).filter fun k => (s.worker k).st == 1 || (s.worker k).st == 2).foldl (fun acc k => acc + 2 ^ k.val) 0)
  else if 0x20010 ≤ rel && rel < 0x20020 then some (s.wu.flags[Fin.ofNat 4 (rel / 4)].now s.nowTick)
  else if 0x30000 ≤ rel && rel < 0x32000 then
    let pin : Fin 64 := Fin.ofNat 64 (32 + rel % 0x10000 / 256)
    some (leAt (s.capBytes pin (rel % 256 / 16)) (rel % 16) 4)
  else if 0x32000 ≤ rel && rel < 0x32080 then some (s.capState (Fin.ofNat 64 (32 + rel % 0x2000 / 4)))
  else none
/-- Delivered words for a worker's TX FIFO (R402). -/
def execWorkerDeliver (n : Fin 32) (payload : List Byte) (s : State) : Outc :=
  let k := payload.length / 4
  let l := (List.range k).map fun i => beAt payload (4 * i) 4
  done (if payload.length % 4 != 0 || k = 0 || 16 < k || s.txRoom n < k then s.bump (0x5060 + n.val) 8
  else s.setWorker n ((s.worker n).addTx s.nowTick l))

/-- WORKER_CAP_POP (R407). -/
def execWorkerCapPop (rq : Requester) (value : BitVec 32) (s : State) : Outc :=
  done (s.hwWrite rq 0x20032080 (leBytes 4 value.toNat) fun t => t.workerCapPop value.toNat)

/-- The consistency check of a set for PINS (R412). -/
def State.pinsSetOk (s : State) (set : List (Nat × Nat)) : Bool :=
  let v (j : Nat) : Nat := s.setValue set 0x5100 j
  (List.range 32).all (fun p =>
      let owned := v (p + 5) != 0xFF
      let safeDrive := (v 0x25).testBit p
      (!(owned || safeDrive) || v (p / 8 + 1) != 0) && (!safeDrive || owned)) &&
    (List.range 4).all (fun k => v (k + 1) == s.val 0x5100 (k + 1) || s.wu.pinDir / 2 ^ (8 * k) % 256 == 0)

/-- An accepted set for PINS: a pin whose owner changes becomes an input (R412). -/
def State.pinsApplied (s : State) (before : State) : State :=
  let changed := ((List.range 32).filter fun p => s.val 0x5100 (p + 5) != before.val 0x5100 (p + 5)).foldl
    (fun acc p => acc + 2 ^ p) 0
  ({ s with wu := { s.wu with pinDir := bitsWithout s.wu.pinDir changed } } : State).syncPins

/-- The consistency check of a set for CLUSTER_TICK_c (R396). -/
def State.tickSetOk (s : State) (c : Fin 4) (set : List (Nat × Nat)) : Bool :=
  s.setValue set (0x5110 + c.val) 3 < s.setValue set (0x5110 + c.val) 2

/-! ### Quadrature helpers (R403) -/

def State.helper (s : State) (h : Fin 16) : Helper := s.wu.helpers[h]

def State.setHelper (s : State) (h : Fin 16) (x : Helper) : State := { s with wu := { s.wu with helpers := s.wu.helpers.set h x } }

/-- An encoder error: counted, and HELPER_ERROR at most once a second. -/
def State.encoderError (s : State) (h : Fin 16) : State :=
  let s1 := s.bump (0x5120 + h.val) 0xA
  let x := s1.helper h
  let s2 := s1.setHelper h { x with errInterval := true }
  let quiet := match x.lastError with
    | some t => decide (s.uptime < t + secs 1)
    | none => false
  if quiet then s2
  else (s2.setHelper h { s2.helper h with lastError := some s.uptime }).raise (0x80 + h.val) 1 corrected
    (packArg [i16 h.val, i32 (s2.val (0x5120 + h.val) 0xA)])

/-- The count of an accepted transition: +1 when A leads B. -/
def quadStep (onA a b : Bool) : Int := if onA then (if a != b then 1 else -1) else (if a == b then 1 else -1)

/-- HELPER_TRANSITION (R403): the channel that changed, the levels of A and B after it, its pad stamp in ns, and whether the
other channel changed in the same tick. -/
def execHelperTransition (h : Fin 16) (onA a b together : Bool) (ns : Nat) (s : State) : Outc :=
  let o := 0x5120 + h.val
  let x := s.helper h
  let last := if onA then x.lastA else x.lastB
  let close := match last with
    | some t => decide (ns < t + 20)
    | none => false
  let s1 := s.setHelper h (if onA then { x with lastA := some ns } else { x with lastB := some ns })
  let counts := match s.val o 2 with
    | 2 => true
    | 1 => onA
    | _ => onA && a
  let d := if s.flag o 3 then -(quadStep onA a b) else quadStep onA a b
  done (if !s.flag o 1 then s
  else if together || close then s1.encoderError h
  else if counts then (s1.setVal o 6 (ofSigned 32 (toSigned 32 (s1.val o 6) + d))).setVal o 7 (time80 (nsec ns))
  else s1)

/-- HELPER_INDEX (R403). -/
def execHelperIndex (h : Fin 16) (ns : Nat) (s : State) : Outc :=
  let o := 0x5120 + h.val
  done (if s.flag o 1 && s.flag o 5 then (s.setVal o 8 (s.val o 6)).setVal o 9 (time80 (nsec ns)) else s)

end Sys2Proof.Machine
end

