-- ==== Sys2Proof/Machine/Waggle.lean ====
section
/-!
DEFINITION. Waggles and belt axes (ch. 08): the window's writes, the execution of due entries, reports, AXIS frames in and
out. The unit's inner operations are in Machine/WagOps.lean.
-/

namespace Sys2Proof.Machine

/-! ### Window writes -/

/-- WAGGLE_TABLE_WRITE (R240): words 0 to 11 of an entry. -/
def execWaggleTableWrite (rq : Requester) (e : Fin 4096) (words : Vector (BitVec 32) 12) (s : State) : Outc :=
  let offset := 0x50000000 + 64 * e.val
  let bytes := (words.toList.map fun w => leBytes 4 w.toNat).flatten
  done (s.hwWrite rq offset bytes fun t => t.wagWrite offset bytes)

/-- WAGGLE_CONTROL_WRITE (R239): word 0 of an entry. -/
def execWaggleControlWrite (rq : Requester) (e : Fin 4096) (word : BitVec 32) (s : State) : Outc :=
  let offset := 0x50000000 + 64 * e.val
  let bytes := leBytes 4 word.toNat
  done (s.hwWrite rq offset bytes fun t => t.wagWrite offset bytes)

/-- Mirrored window writes whose apply time has come, in both members of a pair (R241); one that comes too late is evaluated as of
its apply time. -/
def State.wagApplies (s : State) : State :=
  let due := s.wag.applies.filter fun (a : WagApply) => a.time ≤ s.nowNs
  let s1 := { s with wag := { s.wag with applies := s.wag.applies.filter fun (a : WagApply) => s.nowNs < a.time } }
  due.foldl (fun (t : State) a =>
    match t.wagDecode a.offset a.bytes with
    | (.ok, e, l) =>
      { ({ t with ringTime := if a.time < t.nowNs then nsec a.time else t.ringTime } : State).wagApply e l with ringTime := t.ringTime }
    | _ => t) s1

/-- One core tick with no command waiting (R212, R241): time goes on, and mirrored waggle writes apply at their time. -/
def State.coreTick (s : State) : State :=
  let t := s.timeTick
  if t.wag.applies.any fun a => a.time ≤ t.nowNs then t.wagApplies else t

/-- Entries restored with ARM set are armed once the time STATE is good (R240). -/
def State.wagStartup (s : State) : State :=
  if [2, 3, 5].contains s.timeState && !s.wag.toArm.isEmpty then
    s.wag.toArm.foldl (fun (t : State) e => t.wagArm e (t.wagEntry e)) { s with wag := { s.wag with toArm := [] } }
  else s

/-- WAGGLE_FREEZE (R244): WAG_FREEZE_LEAD before its due time a SCHEDULED entry is FROZEN. -/
def execWaggleFreeze (e : Fin 4096) (s : State) : Outc :=
  let x := s.wagEntry e.val
  done (match x.due with
  | some d => if x.st = 2 && d ≤ s.nowNs + 1000 && !s.wagHeld x then s.putWag e.val { x with st := 4 } else s
  | none => s)

/-! ### Reports (R251, R252) -/

/-- The fields of a report in their order: width in bytes and value. -/
def State.reportFields (s : State) (e : Nat) (x : WagEntry) (due lateness : Nat) : List (Nat × Nat) :=
  let i := if (x.w 7).testBit 7 then s.followOf (x.w 7 % 64) else none
  let live := match i with
    | some k => s.axisLive k
    | none => false
  let stale := match i with
    | some k => s.val (0x3210 + k.val) 4 == 2
    | none => false
  let pos := match i with
    | some k => if live then s.axisAt k due else 0
    | none => 0
  let flags := (if nsec due < s.ringTime && !x.instant then 1 else 0) + (if live then 2 else 0) + (if stale then 4 else 0) + s.timeState * 8
  [(2, e), (1, flags), (1, 0), (4, x.w 10), (6, due / 1000000000), (4, due % 1000000000), (4, min 0xFFFFFFFF lateness),
    (1, if (x.w 7).testBit 7 then x.w 7 % 64 else 0xFF), (1, 0), (8, pos)]

/-- The report as the payload of a SEND frame. -/
def reportFrame (l : List (Nat × Nat)) : List Byte := (l.map fun p => beBytes p.1 p.2).flatten

/-- The report as the queue shows it. -/
def reportRecord (l : List (Nat × Nat)) : List Byte := (l.map fun p => leBytes p.1 p.2).flatten

/-- Write a report into the queue of 64 (R252). -/
def State.queueReport (s : State) (r : List Byte) : State :=
  if 64 ≤ s.wag.reports.length then s.bump 0x3110 4
  else
    let s1 : State := { s with wag := { s.wag with reports := s.wag.reports ++ [r] } }
    if s.wag.reports.isEmpty then s1.raiseVector 29 else s1

/-- What a write of POP does (R252). -/
def reportPopFx (n : Nat) (s : State) : State :=
  { s with wag := { s.wag with reports := s.wag.reports.drop n, readIndex := (s.wag.readIndex + n) % 64 } }

/-- REPORT_POP (R252). -/
def execReportPop (rq : Requester) (value : List Byte) (s : State) : Outc :=
  done (s.objectWrite rq (objKey 0x3110 3) value reportPopFx)

/-! ### Execution (R246 to R250, R255, R256) -/

/-- The entry after an execution or a suppression (R241, R247). -/
def State.wagAfter (s : State) (e : Nat) (x : WagEntry) (d : Nat) : State :=
  let y := { x with lastNs := d % 1000000000, instant := false }
  match y.next with
  | some l => (s.putWag e { y with st := 0, due := none, next := none }).wagApply e l
  | none =>
    if !y.repeats then s.putWag e { y with st := 0, due := none }
    else if y.trigger = trigTime then
      let p := max 1 (y.w 4)
      let n := (s.nowNs - (d + p) + p - 1) / p
      let s1 := if n = 0 then s else s.countMissed e (s.nowNs - (d + p)) n
      s1.wagEval e { (if n = 0 then y else y.addMissed n) with st := 1, due := some (d + p + n * p) }
    else if y.trigger = trigAxis then
      let t := if y.back then y.target + 2 ^ 64 - y.axisPeriod else y.target + y.axisPeriod
      s.wagEval e { y with st := 1, due := none, target := t % 2 ^ 64 }
    else s.putWag e { y with st := 1, due := none }

/-- An action is suppressed: 1 by the safe state, 2 by power state S3. -/
def State.wagSuppress (s : State) (action : Nat) : Option Nat :=
  if s.safe && (action == 1 || action == 2 || action == 6) then some 1
  else if s.combOff && (action == 3 || action == 2 || action == 6) then some 2
  else none

/-- A DIO action (R248 to R250): within a tick a higher entry decides. -/
def State.wagDio (s : State) (e : Nat) (x : WagEntry) (d : Nat) : State :=
  let m := s.turnMask (x.w 6 &&& s.dioOutputs) (1 + e)
  let s1 := (s.noteTurn m (1 + e)).addVal 0x3100 0xA (popCount (bitsWithout (x.w 6) s.dioOutputs))
  if (x.w 7).testBit 0 then s1.setLatch (bitsWithout s1.dio.latch m)
  else
    let s2 := s1.setLatch (s1.dio.latch ||| m)
    if x.w 8 = 0 then s2 else (maskPins m).foldl (fun (t : State) n => t.schedulePulse n (d + x.w 8)) s2

/-- What an action does at its due time (R248). -/
def State.wagAct (s : State) (e : Nat) (x : WagEntry) (d lateness : Nat) : State :=
  match x.action with
  | 1 => s.wagDio e x d
  | 2 => s.eachWorker (x.w 6) (if (x.w 7).testBit 0 then State.restartWorker else State.startWorker)
  | 3 =>
    if s.ownSend (x.w 6) then
      s.present { org := .waggle, typ := 0, entry := x.w 6, payload := reportFrame (s.reportFields e x d lateness) }
    else s.bump 0x2150 0x15
  | 4 => s.queueReport (reportRecord (s.reportFields e x d lateness))
  | 5 =>
    let y := s.wagEntry (x.w 6)
    let l := y.next.getD y.words
    s.wagApply (x.w 6) (putBit (l.getD 0 0) 31 (!(x.w 7).testBit 0) :: l.drop 1)
  | 6 => s.switchSupply (x.w 6) (!(x.w 7).testBit 0)
  | _ => s

/-- Execute an entry, or suppress its action. -/
def State.wagExecute (s : State) (e : Nat) (x : WagEntry) (d : Nat) : State :=
  match s.wagSuppress x.action with
  | some cause =>
    let s1 := (s.bump 0x3100 6).raise 0x14 3 corrected (packArg [i16 e, i16 cause])
    s1.wagAfter e { x with lastSuppressed := true, lastLate := false, lastMissed := false } d
  | none =>
    let late := nsec d < s.ringTime && !x.instant
    let lateness := s.nowNs - d
    let s1 := s.bump 0x3100 3
    let s2 := if late then s1.bump 0x3100 4 else s1
    let s3 := if late && s.flag 0x3120 2 then s2.raise 0x14 1 corrected (packArg [i16 e, i32 lateness]) else s2
    let y := { x with
      fires := x.fires + 1, late := if late then min 0xFFFF (x.late + 1) else x.late
      lastLate := late, lastMissed := false, lastSuppressed := false }
    let s4 := s3.wagAfter e y d
    s4.wagAct e x d lateness

/-- Entries whose moment lies in the present tick or before. -/
def State.wagDue (s : State) (x : WagEntry) : Bool :=
  (x.st == 2 || x.st == 4) && x.due.isSome && decide (nsec x.at_ < s.ringTime + tickUnits)

/-- An entry executes in its tick; at most 16 do in one tick, the others in the following ticks (R248). -/
def State.wagFire (s : State) (e : Nat) (action : Nat) : State :=
  let s0 := s.wagRefresh
  let x := s0.wagEntry e
  match x.due with
  | some d =>
    if x.action != action || !s0.wagDue x then s
    else
      let k := if s0.wag.tick = s0.nowTick then s0.wag.inTick else 0
      let s1 := { s0 with wag := { s0.wag with tick := s0.nowTick, inTick := k + 1 } }
      if k < 16 then s1.wagExecute e x d
      else
        let s2 := s1.putWag e { x with st := 4, at_ := s1.nowNs + 3 }
        if k = 16 then
          (s2.bump 0x3100 8).raise 0x14 4 corrected
            (packArg [i32 (s.nowNs % 1000000000), i16 (16 + (s1.wag.entries.filter fun p => s1.wagDue p.2).length)])
        else s2
  | none => s

/-- WAGGLE_DIO (R248). -/
def execWaggleDio (e : Fin 4096) (s : State) : Outc := done (s.wagFire e.val 1)
/-- WAGGLE_WORKER (R248). -/
def execWaggleWorker (e : Fin 4096) (s : State) : Outc := done (s.wagFire e.val 2)
/-- WAGGLE_SEND (R248). -/
def execWaggleSend (e : Fin 4096) (s : State) : Outc := done (s.wagFire e.val 3)
/-- WAGGLE_SNAPSHOT (R248). -/
def execWaggleSnapshot (e : Fin 4096) (s : State) : Outc := done (s.wagFire e.val 4)
/-- WAGGLE_ARM_OTHER (R248). -/
def execWaggleArmOther (e : Fin 4096) (s : State) : Outc := done (s.wagFire e.val 5)
/-- WAGGLE_SUPPLY (R248). -/
def execWaggleSupply (e : Fin 4096) (s : State) : Outc := done (s.wagFire e.val 6)
/-- WAGGLE_NONE (R247). -/
def execWaggleNone (e : Fin 4096) (s : State) : Outc := done (s.wagFire e.val 0)

/-! ### Axes followed (R261 to R263, R272) -/

/-- AXIS (R261, R262). -/
def execAxis (p : RingPort) (f : TakenFrame) (s : State) : Outc :=
  done (if !s.hears p || f.hdr.typ.toNat != typAxis || s.isSource f.hdr then s
  else if f.payload.length != 40 then s.portBump p 6
  else
    let b := f.payload
    match s.followOf (beAt b 0 1 % 64) with
    | none => s
    | some i =>
      if s.val (0x3210 + i.val) 2 = f.hdr.sNode.toNat then
        s.takeSample i (beAt b 1 1) (beAt b 4 8) (beAt b 12 5) (1000000000 * beAt b 20 6 + beAt b 26 4) (beAt b 32 4)
      else
        (s.bump (0x3210 + i.val) 0xA).raise 0x15 2 corrected (packArg [i16 (beAt b 0 1 % 64), i16 f.hdr.sNode.toNat]))

/-- AXIS_STALE (R263). -/
def execAxisStale (i : Fin 16) (s : State) : Outc := done (s.onDue (.axisStale i) fun t => (t.axisStale i).wagRefresh)

/-- What a write of a follow entry's settings does: the entry restarts in NONE (R272). -/
def followFx (i : Fin 16) (j v : Nat) (s : State) : State :=
  (((s.setVal (0x3210 + i.val) j v).setVal (0x3210 + i.val) 4 0).disarm (.axisStale i)).wagRefresh

/-! ### Axes published (R260, R261, R271) -/

/-- What a write of PRESET does. -/
def presetFx (i : Fin 4) (v : Nat) (s : State) : State :=
  { s with ax := { s.ax with pubs := s.ax.pubs.set i { s.ax.pubs[i] with preset := some v } } }

/-- PRESET (R260). -/
def execPreset (rq : Requester) (i : Fin 4) (value : List Byte) (s : State) : Outc :=
  done (s.objectWrite rq (objKey (0x3200 + i.val) 5) value (presetFx i))

/-- Mean velocity in 2^-8 counts/s over an interval of 2^-16 ns, rounded down. -/
def meanVelocity (d : Int) (units : Nat) : Int := (d * 256 * 1000000000 * 65536).fdiv (max 1 units : Nat)

/-- The fraction of a position in 2^-32 counts: velocity times the time since the last counted edge, less than one count
in the direction of motion (R260). -/
def axisFraction (v : Int) (ns : Nat) : Int :=
  let x := (v * 2 ^ 24 * (ns : Nat)).tdiv 1000000000
  max (1 - 2 ^ 32) (min (2 ^ 32 - 1) x)

/-- AXIS payload (R261). -/
def State.axisPayload (s : State) (id flags pos vel : Nat) : List Byte :=
  let t := inNs s.cyc.current
  beBytes 1 id ++ beBytes 1 flags ++ beBytes 2 0 ++ beBytes 8 pos ++ beBytes 5 vel ++ beBytes 3 0 ++
    beBytes 6 (t / 1000000000) ++ beBytes 4 (t % 1000000000) ++ beBytes 2 0 ++ beBytes 4 s.cycleNumber ++ beBytes 4 0

/-- Send an AXIS frame both ways; it is a shared function of a pair (R165, R261). -/
def State.sendAxis (s : State) (payload : List Byte) : State :=
  let r := s.takeMgmtSeq 0xFFF2
  let h := { ((r.2.ownHeader typAxis 1 0 0xFFF2 r.1 payload.length).dest s.ring 8191 0) with
    sNode := BitVec.ofNat 13 s.flowNode }
  r.2.ringChains 1 { hdr := h, payload := payload, arrival := arrivalOf s.ringTime } true

/-- One publish entry at a boundary (R260). -/
def State.publishAxis (s : State) (i : Fin 4) : State :=
  let o := 0x3200 + i.val
  let act := (s.val o 1, s.val o 2, s.val o 3, s.val o 4)
  let old := s.ax.pubs[i]
  let fresh := old.active.1 != act.1 || old.active.2.2.1 != act.2.2.1
  let p : AxisPub := if fresh then { old with active := act, last := none, mean := none } else { old with active := act }
  let s1 := { s with ax := { s.ax with pubs := s.ax.pubs.set i p } }
  if act.1 = 0 then s1
  else
    let h : Fin 16 := Fin.ofNat 16 act.2.2.1
    let ho := 0x5120 + h.val
    let count := toSigned 32 (s1.val ho 6)
    let t := s1.cyc.current
    let m : Option Int := p.last.map fun l => meanVelocity (toSigned 32 (ofSigned 32 (count - l.1))) (t - l.2)
    let v : Int := match m, p.mean with
      | some a, some b => if act.2.2.2 = 1 then (3 * a - b).fdiv 2 else a
      | some a, none => a
      | none, _ => 0
    let raw : Int := count * 2 ^ 32 + axisFraction v (inNs t - inNs (ofTime80 (s1.val ho 7)))
    let shift : Int := match p.preset with
      | some q => (q : Int) - raw
      | none => p.shift
    let pos := ofSigned 64 (raw + shift)
    let err := (s1.helper h).errInterval
    let flags := s1.val ho 1 + (if err then 2 else 0) + (if p.preset.isSome then 4 else 0)
    let s2 := { (s1.setHelper h { s1.helper h with errInterval := false }) with
      ax := { s1.ax with pubs := s1.ax.pubs.set i { p with last := some (count, t), mean := m, shift := shift, preset := none } } }
    let s3 := if err then (s2.bump o 9).raise 0x15 3 contained (packArg [i16 i.val, i16 h.val]) else s2
    let s4 := (((s3.setVal o 6 pos).setVal o 7 (ofSigned 64 v)).bump o 8).sendAxis (s3.axisPayload act.2.1 flags pos (ofSigned 40 v))
    match s4.followOf act.2.1 with
    | some k =>
      if s4.val (0x3210 + k.val) 2 = s4.flowNode then s4.takeSample k flags pos (ofSigned 40 v) (inNs t) s4.cycleNumber else s4
    | none => s4

/-- The publish entries sample at each cycle boundary (R260). -/
def State.publishAxes (s : State) : State := (List.finRange 4).foldl State.publishAxis s

end Sys2Proof.Machine
end

