-- ==== Sys2Proof/Machine/Bridge.lean ====
section
/-!
DEFINITION. Locks on far buses (R294 to R300), on the buses of this hub and for its own masters; tunnel ingress (R285, R286);
requests in flight (R279).
-/

namespace Sys2Proof.Machine

/-! ### Requests in flight (R279) -/

/-- A request ends: it is in flight no more. -/
def State.untrack (s : State) (p : Pending) : State :=
  let l := s.bridge.outstanding.erase p
  let s1 := { s with bridge := { s.bridge with outstanding := l } }
  if l.any fun x => x.num == p.num && x.tag == p.tag then s1 else s1.disarm (.reqTimeout p.num p.tag)

/-- The completion's place among the requests in flight: master, TAG and source node (R279). -/
def State.pendingOf (s : State) (num tag ring node : Nat) : Option Pending :=
  s.bridge.outstanding.find? fun p => p.num.val == num && p.tag.val == tag && p.ring == ring && p.node == node

/-! ### Tickets (R294) -/

/-- Ticket X is older than ticket Y. -/
def Ticket.older (x y : Ticket) : Bool :=
  x.issue < y.issue ||
    (x.issue == y.issue && (x.master.ring.val < y.master.ring.val ||
      (x.master.ring == y.master.ring && (x.master.node.val < y.master.node.val ||
        (x.master.node == y.master.node && x.master.num.val < y.master.num.val)))))

def State.ownTicket (s : State) (n : Fin 16) : OwnTicket := (s.bridge.tickets.find? fun t => t.num == n).getD { num := n }

/-- Keep a master's ticket; it ends when nothing keeps it (R294). -/
def State.putTicket (s : State) (t : OwnTicket) : State :=
  let keeps := !t.held.isEmpty || t.outstanding != 0 || t.backingOff || t.grace
  let u := if keeps then t else { t with issue := none }
  { s with bridge := { s.bridge with tickets := (s.bridge.tickets.filter fun x => x.num != t.num) ++ [u] } }

def State.updTicket (s : State) (n : Fin 16) (f : OwnTicket → OwnTicket) : State := s.putTicket (f (s.ownTicket n))

/-- A local master no longer holds a lock. -/
def State.dropHeld (s : State) (n : Fin 16) (ring node bus : Nat) : State :=
  if (s.ownTicket n).held.contains (ring, node, bus) then
    s.updTicket n fun t => { t with held := t.held.filter fun h => h != (ring, node, bus) }
  else s

/-- A local master holds a lock on a node, so that its requests there carry LOCKED (R297). -/
def State.holdsLockAt (s : State) (n : Fin 16) (ring node : Nat) : Bool :=
  (s.ownTicket n).held.any fun h => h.1 == ring && h.2.1 == node

/-- A bus of this hub among the locks that a master holds: 16 × slot + bus. -/
def State.ownBus (s : State) (b : Fin 16) : Nat := 16 * s.val 0x1001 3 + b.val

/-- LEASE_DEFAULT in µs. -/
def State.leaseDefault (s : State) : Nat := s.val 0x8400 1 / 1000

/-! ### Buses of this hub (R296 to R298) -/

/-- Base offset of a bus's data window (R20): CAN0–7 are buses 0–7, SER0–7 are 8–15. -/
def busOffset (b : Fin 16) : Nat := if b.val < 8 then 0x10000000 + 0x10000 * b.val else 0x10100000 + 0x10000 * (b.val - 8)

def State.setBus (s : State) (b : Fin 16) (x : LockBus) : State :=
  { s with bridge := { s.bridge with buses := s.bridge.buses.set b x } }

/-- A bus is under lock: tunnel replays and local transmissions wait (R297). -/
def State.busLocked (s : State) (b : Fin 16) : Bool := s.bridge.buses[b].holder.isSome

/-- The LOCK payload (R295). -/
def lockPayload (op : Nat) (b : Fin 16) (issue lease wait : Nat) : List Byte :=
  beBytes 1 op ++ beBytes 1 (if b.val < 8 then 1 else 2) ++ beBytes 1 (b.val % 8) ++ beBytes 1 0 ++
    beBytes 6 (issue / 1000000000) ++ beBytes 4 (issue % 1000000000) ++ beBytes 2 0 ++ beBytes 4 lease ++ beBytes 4 wait

/-- The LOCK payload with its slot in LSLOT (R295). -/
def lockSlot (slot : Nat) (b : List Byte) : List Byte := b.take 3 ++ beBytes 1 slot ++ b.drop 4

/-- Record a granted lock for a master of this hub (R299). -/
def State.noteGrant (s : State) (n : Fin 16) (ring node bus lease : Nat) : State :=
  s.updTicket n fun t => { t with
    quantum := lease, outstanding := t.outstanding - 1
    held := if t.held.contains (ring, node, bus) then t.held else t.held ++ [(ring, node, bus)] }

/-- Answer a lock request that succeeds (R295): the change is mirrored first in a pair (R300). -/
def State.lockOk (s : State) (rq : Requester) (b : Fin 16) (op issue lease : Nat) : State :=
  let data := beBytes 4 lease ++ beBytes 4 0
  if s.mirroring then s.mirror (.lock rq.master (lockPayload op b issue lease 0)) rq 0 (busOffset b) 8 data
  else s.answer rq (busOffset b) 8 .ok data

/-- A bus goes to a requester with its lease in µs (R296). -/
def State.grantLock (s : State) (rq : Requester) (b : Fin 16) (t : Ticket) (lease : Nat) : State :=
  let s1 := (s.setBus b { s.bridge.buses[b] with holder := some (t, lease) }).arm (.lease b.val) (usec lease)
  let s2 := s1.bump 0x8400 4
  let s3 := if s.isLocal rq.master then s2.noteGrant rq.master.num s.ring s.node (s.ownBus b) lease else s2
  s3.lockOk rq b 1 t.issue lease

/-- The bus is free: the oldest waiter gets it (R296, R298). -/
def State.freeBus (s : State) (b : Fin 16) : State :=
  let x := s.bridge.buses[b]
  match x.waiters with
  | (t, lease, rq) :: l =>
    ((s.setBus b { holder := none, waiters := l }).disarm (.lockWait b.val t.master)).grantLock rq b t lease
  | [] => (s.setBus b { holder := none }).disarm (.lease b.val)

/-- A bus of this hub is released by its holder, if it is that master (R296). -/
def State.releaseBus (s : State) (b : Fin 16) (m : MasterId) : State :=
  match s.bridge.buses[b].holder with
  | some (t, _) => if t.master = m then s.freeBus b else s
  | none => s

/-- The frame of a request: both ways (R273); from slot 0 of a wide node to another slot of the node over the board link to that slot,
a broadcast over both (R19, R160). -/
def State.sendRequest (s : State) (p : Pending) (slot : Nat) (locked : Bool) : State :=
  let here := s.dx.mode == 1 && s.ident.clusterId == 0 && p.ring == s.ring && slot != 0
  let link : Output := if slot = 1 then .bl0 else if slot = 2 then .bl1 else .bl2
  if here && p.node = s.node then
    (let r := s.flow0Frame p.typ p.cls p.num.val p.ring p.node 0 p.tag.val locked p.payload
     r.2.writeChain link (Fin.ofNat 4 p.cls) r.1)
  else
    let h := (s.flow0Frame p.typ p.cls p.num.val p.ring p.node 0 p.tag.val locked p.payload).1
    let t := s.sendFlow0 p.typ p.cls p.num.val p.ring p.node 0 p.tag.val locked p.payload
    if here && p.node = 8191 && t.lineUp link then t.writeChain link (Fin.ofNat 4 p.cls) h else t

/-- Send a RELEASE of the hub's own for a lock on another hub (R299). -/
def State.sendRelease (s : State) (n : Fin 16) (tag : Fin 65536) (issue ring node bus : Nat) : State :=
  let body := lockSlot (bus / 16) (lockPayload 3 (Fin.ofNat 16 bus) issue 0 0)
  let p : Pending := {
    num := n, tag := tag, via := .window, typ := typLock, ring := ring, node := node, offset := 0, length := 0
    payload := body, cls := 2, silent := true }
  let s1 := (s.sendRequest p (bus / 16) false).bump 0x8300 3
  (s1.track p).arm (.reqTimeout n tag) (nsec (s1.val 0x8300 1))

/-- A master of this hub meets LOCK_CONFLICT (R299): its locks are released and a back-off is drawn. `lease` is that of the
ACQUIRE, in µs. -/
def State.lockConflict (s : State) (n : Fin 16) (tag : Fin 65536) (lease : Nat) : State :=
  let t := s.ownTicket n
  let q := if t.quantum != 0 then t.quantum else if lease = 0 then s.leaseDefault else lease
  let s1 := t.held.foldl (fun (u : State) h =>
    if h.1 = s.ring ∧ h.2.1 = s.node ∧ h.2.2 / 16 = s.val 0x1001 3 then u.releaseBus (Fin.ofNat 16 h.2.2) (s.localMaster n)
    else u.sendRelease n tag (t.issue.getD 0) h.1 h.2.1 h.2.2) s
  let d := s1.draw (3 * q + 1)
  let s2 := d.2.updTicket n fun x => { x with held := [], outstanding := x.outstanding - 1, backingOff := true, grace := false }
  ((s2.disarm (.ticketGrace n)).arm (.backoff n) (usec (q + d.1))).bump 0x8400 7

/-- Answer LOCK_CONFLICT (R296); the winning ticket is the holder's. -/
def State.refuseLock (s : State) (rq : Requester) (b : Fin 16) (lease : Nat) : State :=
  let winner := match s.bridge.buses[b].holder with
    | some (t, _) => t.master.node.val
    | none => 0
  let s1 := (s.bump 0x8400 5).raise 0x1A 1 corrected (packArg [i16 b.val, i16 winner])
  let s2 := if s.isLocal rq.master then s1.lockConflict rq.master.num rq.tag lease else s1
  s2.answer rq (busOffset b) 8 .lockConflict []

/-- The access checker of a bus's window lets a LOCK pass (R505): it is checked at the window's base. -/
def State.lockAccess (s : State) (rq : Requester) (b : Fin 16) (k : State → State) : State :=
  if s.notMine rq then s
  else if s.permits rq (b.val + 1) .atomicLock (busOffset b) (busOffset b) then k s
  else (s.refuse rq (b.val + 1) (busOffset b)).answer rq (busOffset b) 8 .accessDenied []

/-- Insert a waiter: oldest ticket first. -/
def insertWaiter (w : Ticket × Nat × Requester) : List (Ticket × Nat × Requester) → List (Ticket × Nat × Requester)
  | [] => [w]
  | x :: l => if w.1.older x.1 then w :: x :: l else x :: insertWaiter w l

/-- An ACQUIRE at its target (R296): `issue` in ns, LEASE and WAIT in µs. -/
def State.acquire (s : State) (rq : Requester) (b : Fin 16) (issue lease wait : Nat) : State :=
  s.lockAccess rq b fun s =>
    let t : Ticket := ⟨issue, rq.master⟩
    let l := if lease = 0 then s.leaseDefault else lease
    if (lease != 0 && (lease < 1000 || 1000000 < lease)) || 1000000 < wait then s.answer rq (busOffset b) 8 .range []
    else match s.bridge.buses[b].holder with
      | none => s.grantLock rq b t l
      | some (h, _) =>
        if h = t then s.grantLock rq b t l
        else if t.older h && s.bridge.buses[b].waiters.length < 8 then
          (s.setBus b { s.bridge.buses[b] with waiters := insertWaiter (t, l, rq) s.bridge.buses[b].waiters }).arm
            (.lockWait b.val rq.master) (usec wait)
        else s.refuseLock rq b lease

/-- A RENEW at its target (R296). -/
def State.renew (s : State) (rq : Requester) (b : Fin 16) : State :=
  s.lockAccess rq b fun s =>
    match s.bridge.buses[b].holder with
    | some (h, lease) =>
      if h.master = rq.master then (s.arm (.lease b.val) (usec lease)).lockOk rq b 2 h.issue lease
      else s.answer rq (busOffset b) 8 .lockExpired []
    | none => s.answer rq (busOffset b) 8 .lockExpired []

/-- A RELEASE at its target (R296). -/
def State.release (s : State) (rq : Requester) (b : Fin 16) : State :=
  s.lockAccess rq b fun s =>
    match s.bridge.buses[b].holder with
    | some (h, _) =>
      if h.master = rq.master then
        let s1 := if s.isLocal rq.master then s.dropHeld rq.master.num s.ring s.node (s.ownBus b) else s
        (s1.freeBus b).lockOk rq b 3 h.issue 0
      else s.answer rq (busOffset b) 8 .lockExpired []
    | none => s.answer rq (busOffset b) 8 .lockExpired []

/-- LOCK_ACQUIRE (R296): an ACQUIRE taken at its target, with the ticket's issue time in ns. -/
def execLockAcquire (rq : Requester) (b : Fin 16) (issue : Nat) (lease wait : BitVec 32) (s : State) : Outc :=
  done (s.acquire rq b issue lease.toNat wait.toNat)

/-- LOCK_RENEW (R296). -/
def execLockRenew (rq : Requester) (b : Fin 16) (s : State) : Outc := done (s.renew rq b)

/-- LOCK_RELEASE (R296). -/
def execLockRelease (rq : Requester) (b : Fin 16) (s : State) : Outc := done (s.release rq b)

/-- LOCK_WAIT_EXPIRY (R296). -/
def execLockWaitExpiry (b : Fin 16) (m : MasterId) (s : State) : Outc :=
  done (s.onDue (.lockWait b.val m) fun t =>
    let x := t.bridge.buses[b]
    match x.waiters.find? fun w => w.1.master == m with
    | some (_, lease, rq) =>
      (t.setBus b { x with waiters := x.waiters.filter fun w => w.1.master != m }).refuseLock rq b lease
    | none => t)

/-- LOCK_EXPIRED (R298). -/
def execLockExpired (b : Fin 16) (s : State) : Outc :=
  done (s.onDue (.lease b.val) fun t =>
    match t.bridge.buses[b].holder with
    | some (h, _) =>
      let t1 := (t.bump 0x8400 6).raise 0x1A 2 contained (packArg [i16 b.val, i32 h.master.word])
      (if t.isLocal h.master then t1.dropHeld h.master.num t.ring t.node (t.ownBus b) else t1).freeBus b
    | none => t)

/-! ### Acquires of this hub's masters (R294, R299) -/

/-- A ticket's grace of one quantum ends (R294). It is looked at when the ticket is next used. -/
def State.endGrace (s : State) (n : Fin 16) : State :=
  if s.due (.ticketGrace n) then (s.disarm (.ticketGrace n)).updTicket n fun x => { x with grace := false } else s

/-- Issue an ACQUIRE of a local master: decided here for a bus of this hub (R300), sent to the far one otherwise. -/
def State.sendAcquire (s0 : State) (p : Pending) : State :=
  let s := s0.endGrace p.num
  let b : Fin 16 := Fin.ofNat 16 ((beAt p.payload 1 1 - 1) * 8 + beAt p.payload 2 1)
  let lease := beAt p.payload 16 4
  let old := s.ownTicket p.num
  let issue := old.issue.getD s.nowNs
  let wait := s.val 0x8400 2 / 1000
  let s1 := s.putTicket { old with issue := some issue, outstanding := old.outstanding + 1 }
  let slot := beAt p.payload 3 1 % 4
  if p.node = 0 ∨ (p.ring = s.ring ∧ p.node = s.node ∧ slot = s.val 0x1001 3) then
    s1.acquire { master := s.localMaster p.num, tag := p.tag, via := p.via, cls := Fin.ofNat 4 p.cls } b issue lease wait
  else
    let q : Pending := { p with payload := lockSlot slot (lockPayload 1 b issue lease wait) }
    ((((s1.sendRequest q slot false).bump 0x8300 3).track q).arm (.reqTimeout p.num p.tag) (nsec (s.val 0x8300 1) + usec wait))

/-! ### Tunnel ingress (R285, R286) -/

/-- The endpoint bound to a port: KIND 1 CAN, 2 RS-485, 3 SDCI. -/
def State.endpointOf (s : State) (kind port : Nat) : Option (Fin 32) :=
  (List.finRange 32).find? fun n => s.val (0x8200 + n.val) 1 == kind && s.val (0x8200 + n.val) 2 == port

def State.setEndpoint (s : State) (n : Fin 32) (e : Endpoint) : State :=
  { s with bridge := { s.bridge with endpoints := s.bridge.endpoints.set n e } }

/-- The tunnel head (R286): `flags` are TFLAGS, `ns` the origin. -/
def State.tunnelHead (s : State) (n : Fin 32) (flags ns : Nat) : List Byte :=
  let o := 0x8200 + n.val
  beBytes 1 (s.val o 1) ++ beBytes 1 flags ++ beBytes 1 n.val ++ beBytes 1 (s.val o 2) ++ beBytes 6 (ns / 1000000000) ++
    beBytes 4 (ns % 1000000000) ++ beBytes 2 (min 0xFFFF s.bridge.endpoints[n].lost)

/-- A foreign frame, or a part of one, enters the ring from an endpoint's port: the endpoint queues up to 16 frames. -/
def State.tunnelIn (s : State) (n : Fin 32) (flags ns : Nat) (body : List Byte) (first last : Bool) : State :=
  let o := 0x8200 + n.val
  let e := s.val o 3
  if e = 0xFFFF then s
  else if !s.ownSend e then s.bump 0x2150 0x15
  else if 16 ≤ s.waitingOf (.tunnel n) then
    (s.bump o 0xC).setEndpoint n { s.bridge.endpoints[n] with lost := s.bridge.endpoints[n].lost + 1 }
  else
    let s1 := s.present { org := .tunnel n, typ := 9, entry := e, payload := s.tunnelHead n flags ns ++ body, first := first,
                          last := last }
    let s2 := s1.setEndpoint n { s1.bridge.endpoints[n] with lost := 0 }
    if last then s2.bump o 6 else s2

/-- The consistency check of a set for TUNNEL_n (R293). -/
def State.tunnelSetOk (s : State) (n : Fin 32) (set : List (Nat × Nat)) : Bool :=
  let v (j : Nat) : Nat := s.setValue set (0x8200 + n.val) j
  (v 1 == 0 || (List.range 32).all fun k => k == n.val || s.val (0x8200 + k) 1 != v 1 || s.val (0x8200 + k) 2 != v 2) &&
    (v 3 == 0xFFFF || s.ownSend (v 3)) && !(v 1 == 3 && v 4 == 2)

/-! ### Frames that wait for replay (R291, R293) -/

/-- A foreign frame for the queue of 32, by its replay time; frames of one time keep their order. -/
def insertReplay (x : Replay) : List Replay → List Replay
  | [] => [x]
  | y :: l => if x.at_ < y.at_ then x :: y :: l else y :: insertReplay x l

/-- The moment at which an endpoint replays a frame that arrives now (R291), and whether it is late: ORIGIN + REPLAY_DELAY in FIXED
mode. -/
def State.replayTime (s : State) (n : Fin 32) (b : List Byte) : Nat × Bool :=
  let o := 0x8200 + n.val
  let t := 1000000000 * beAt b 4 6 + beAt b 10 4 + s.val o 5
  if s.val o 4 ≠ 2 then (s.nowNs, false) else if t < s.nowNs then (s.nowNs, true) else (t, false)

/-- A whole foreign frame is queued for replay in cells of the FIELD quota (R291). -/
def State.queueReplay (s : State) (n : Fin 32) (node : Nat) (b : List Byte) : State :=
  let o := 0x8200 + n.val
  let e := s.bridge.endpoints[n]
  let t := s.replayTime n b
  match (if 32 ≤ e.replay.length + e.offered.length then none else s.chainFor [] .field (cellsOf b.length) none) with
  | some l =>
    let s1 := s.setEndpoint n { e with replay := insertReplay ⟨t.1, node, b, l⟩ e.replay }
    if t.2 then s1.bump o 8 else s1
  | none => (s.bump o 9).raise 0x19 1 corrected (packArg [i16 n.val, i16 node])

/-- Frames queued for replay at an endpoint whose set has changed are replayed under the new mode (R293): each takes its time anew;
with REPLAY off they are discarded (DEDUCED, log entry 104). -/
def State.requeueReplay (s : State) (n : Fin 32) : State :=
  let e := s.bridge.endpoints[n]
  let s1 := s.setEndpoint n { e with replay := [] }
  if s.val (0x8200 + n.val) 4 = 0 then (s1.addVal (0x8200 + n.val) 9 e.replay.length).noteDrain .field
  else s1.setEndpoint n { e with
    replay := e.replay.foldl (fun l x => insertReplay { x with at_ := (s.replayTime n x.frame).1 } l) [] }

/-- The frame offered to the port has been replayed, or is given up: its cells are free. -/
def State.dropOffered (s : State) (n : Fin 32) : State :=
  (s.setEndpoint n { s.bridge.endpoints[n] with offered := s.bridge.endpoints[n].offered.drop 1 }).noteDrain .field

/-- Every frame that waits for replay at an endpoint is discarded. -/
def State.dropReplays (s : State) (n : Fin 32) : State :=
  (s.setEndpoint n { s.bridge.endpoints[n] with offered := [], replay := [] }).noteDrain .field

end Sys2Proof.Machine
end

