-- ==== Sys2Proof/Machine/Can.lean ====
section
/-!
DEFINITION. CAN ports (ch. 10): states, timing sets, filters and routing, receive queue, high-priority buffers, transmit
buffers, error handling, the port data window. The SDO server is in Machine/Sdo.lean.
-/

namespace Sys2Proof.Machine

/-! ### Ports -/

def State.canPort (s : State) (n : Fin 8) : CanPort := s.can[n]
def State.setCan (s : State) (n : Fin 8) (p : CanPort) : State := { s with can := s.can.set n p }
def State.updCan (s : State) (n : Fin 8) (f : CanPort → CanPort) : State := s.setCan n (f (s.canPort n))

/-- Members of CAN_PORT_n, CAN_TIMING_n and CAN_STATUS_n (R346, R347, R349). -/
def State.canCfg (s : State) (n : Fin 8) (j : Nat) : Nat := s.val (0x4000 + n.val) j
def State.canTiming (s : State) (n : Fin 8) (j : Nat) : Nat := s.val (0x4008 + n.val) j
def State.canStat (s : State) (n : Fin 8) (j : Nat) : Nat := s.val (0x4030 + n.val) j
def State.setCanStat (s : State) (n : Fin 8) (j v : Nat) : State := s.setVal (0x4030 + n.val) j v
def State.canCount (s : State) (n : Fin 8) (j : Nat) : State := s.bump (0x4030 + n.val) j

/-- PORT_STATE (R320). -/
def State.canState (s : State) (n : Fin 8) : Nat := s.canStat n 1
def State.setCanState (s : State) (n : Fin 8) (v : Nat) : State := s.setCanStat n 1 v

/-- The port takes part in the bus traffic: ERROR_ACTIVE or ERROR_PASSIVE. -/
def State.canLive (s : State) (n : Fin 8) : Bool := s.canState n == 3 || s.canState n == 4

/-- A state in which frames are received (R320, R341). -/
def State.canHears (s : State) (n : Fin 8) : Bool := s.canLive n || (6 ≤ s.canState n && s.canState n ≤ 9)

def State.canEvent (s : State) (n : Fin 8) (kind cls : Nat) (items : List (Nat × Nat)) : State :=
  s.raise (0x40 + n.val) kind cls (packArg (i16 n.val :: items))

/-- What a CAN port, 0 to 7, or an RS-485 port, 8 to 15, connects across its line: its termination, and the failsafe bias (R319, R343,
R358). Each member of a pair connects its half of the pair's. -/
def State.connectLine (s : State) (port : Fin 16) : State :=
  let i := if port.val < 8 then 0x4000 + port.val else 0x4100 + (port.val - 8)
  let pair := s.dx.mode == 2
  s.drive (.lineParts port.val (if s.flag i 2 then (if pair then 240 else 120) else 0)
    (if port.val < 8 || !s.flag i 3 then 0 else if pair then 50 else 100))

/-! ### Slots (R330) -/

/-- Data bytes that a DLC gives (R287). -/
def dlcBytes (flags dlc : Nat) : Nat :=
  if flags.testBit 1 then 0
  else if dlc ≤ 8 then dlc
  else if !flags.testBit 2 then 8
  else match dlc with
    | 9 => 12 | 10 => 16 | 11 => 20 | 12 => 24 | 13 => 32 | 14 => 48 | _ => 64

/-- Bytes `i` to `i + n - 1` of a slot as a number. -/
def imgAt (img i n : Nat) : Nat := img / 2 ^ (8 * i) % 2 ^ (8 * n)

/-- Bytes `i` to `i + n - 1` of a slot replaced. -/
def imgPut (img i n v : Nat) : Nat :=
  img % 2 ^ (8 * i) + v % 2 ^ (8 * n) * 2 ^ (8 * i) + img / 2 ^ (8 * (i + n)) * 2 ^ (8 * (i + n))

/-- The frame in a slot. -/
def imgFrame (img : Nat) : CanFrame where
  id := imgAt img 0 4
  flags := imgAt img 4 1
  dlc := imgAt img 5 1
  data := (leBytes 64 (imgAt img 24 64)).take (dlcBytes (imgAt img 4 1) (imgAt img 5 1))

/-- A slot from a frame: MATCH, stamp in ns and RX_SEQ. -/
def slotOf (f : CanFrame) (mt ns seq : Nat) : Nat :=
  leNat (leBytes 4 f.id ++ leBytes 1 f.flags ++ leBytes 1 f.dlc ++ leBytes 2 mt ++ leBytes 4 (ns % 1000000000) ++
    leBytes 6 (ns / 1000000000) ++ leBytes 2 seq ++ leBytes 4 0 ++ f.data)

/-- The body of a CAN tunnel frame or flow frame (R287). -/
def canBody (f : CanFrame) : List Byte :=
  beBytes 1 f.flags ++ beBytes 1 f.dlc ++ beBytes 2 0 ++ beBytes 4 f.id ++ f.data

/-- The frame a body spells, from byte `i` of a payload; none where its length or a reserved byte is wrong. -/
def bodyFrame (b : List Byte) (i : Nat) : Option CanFrame :=
  let f : CanFrame := {
    id := beAt b (i + 4) 4, flags := beAt b i 1, dlc := beAt b (i + 1) 1
    data := (b.drop (i + 8)).take (dlcBytes (beAt b i 1) (beAt b (i + 1) 1)) }
  if b.length = i + 8 + dlcBytes f.flags f.dlc && beAt b (i + 2) 2 = 0 then some f else none

/-- The frame a tunnel's body spells (R287); reserved fields change nothing (R9). -/
def tunnelFrame (b : List Byte) : Option CanFrame :=
  let f : CanFrame := {
    id := beAt b 20 4 % 2 ^ 29, flags := beAt b 16 1 % 32, dlc := beAt b 17 1
    data := (b.drop 24).take (dlcBytes (beAt b 16 1 % 32) (beAt b 17 1)) }
  if b.length = 24 + dlcBytes f.flags f.dlc then some f else none

/-- A frame may be sent by a port (R332). -/
def State.canValid (s : State) (n : Fin 8) (f : CanFrame) : Bool :=
  let fl (k : Nat) : Bool := f.flags.testBit k
  f.id < 2 ^ 29 && f.flags < 32 && f.dlc < 16 && (fl 0 || f.id ≤ 0x7FF) &&
    !((fl 3 || 8 < f.dlc) && !fl 2 && fl 1) && !(fl 2 && (fl 1 || s.canTiming n 2 == 0)) && !(fl 3 && !fl 2)

/-- Reserved bytes of a transmit slot are 0 (R330). -/
def imgReservedOk (img : Nat) : Bool := imgAt img 6 2 == 0 && imgAt img 20 4 == 0

/-! ### INIT and the states (R320, R323, R337 to R342) -/

/-- Enter OFF (R339); a timing set that waits applies at once in OFF (R323). -/
def State.canOff (s : State) (n : Fin 8) : State :=
  ((s.setCanState n 0).updCan n fun p => { p with then_ := .stay, chosen := none }).applySet (0x4010 + n.val)

/-- Pass through INIT: a pending timing set applies, then the state that MODE, the safe state, the pair and a forced listen
give; an isolated port is held in OFF (R422). Leaving BUS_OFF or FORCED_LISTEN the error counters restart at 0 (PRESUMED, log entry 35). -/
def State.canInit (s : State) (n : Fin 8) : State :=
  if s.isolated (8 + n.val) then s.canOff n
  else
  let s1 := s.applySet (0x4010 + n.val)
  let old := s.canState n
  let s2 := if old = 5 || old = 7 then (s1.setCanStat n 2 0).setCanStat n 3 0 else s1
  let next := if s2.flag 0x6000 1 then 8 else if !s2.drives then 9 else if (s2.canPort n).forced then 7
    else if s2.canTiming n 1 = 1 then 6 else 2
  (s2.setCanState n next).updCan n fun p => { p with then_ := .stay, chosen := none }

/-- The frame on the bus has ended: what waits for it happens. -/
def State.canFrameEnd (s : State) (n : Fin 8) : State :=
  match (s.canPort n).then_ with
  | .off => s.canOff n
  | .init => s.canInit n
  | .stay => s

/-- Do something when the frame on the bus ends, or at once on an idle bus. -/
def State.canWhenFree (s : State) (n : Fin 8) (receiving : Bool) (w : CanThen) : State :=
  let s1 := s.updCan n fun p => { p with then_ := w, chosen := none }
  if s.canLive n && (receiving || (s.canPort n).active.isSome) then s1 else s1.canFrameEnd n

/-- What a write of ENABLE does (R339). -/
def canEnableFx (n : Fin 8) (receiving : Bool) (v : Nat) (s : State) : State :=
  let s1 := s.setVal (0x4000 + n.val) 1 v
  if v = 1 then
    (if s.canState n = 0 then ((s1.setCanStat n 2 0).setCanStat n 3 0).canInit n
     else if (s.canPort n).then_ = .off then s1.updCan n fun p => { p with then_ := .init }
     else s1)
  else if s.canState n = 0 then s1
  else s1.canWhenFree n receiving .off

/-- CAN_ENABLE (R339): `receiving` where a frame of another node is on the bus. -/
def execCanEnable (rq : Requester) (n : Fin 8) (value : List Byte) (receiving : Bool) (s : State) : Outc :=
  done (s.objectWrite rq (objKey (0x4000 + n.val) 1) value (canEnableFx n receiving))

/-- What a write of 1 to RESTART does (R338). -/
def canRestartFx (n : Fin 8) (receiving : Bool) (s : State) : State :=
  let s1 := s.updCan n fun p => { p with forced := false, busOffs := [] }
  if s.canState n = 0 then s1 else s1.canWhenFree n receiving .init

/-- CAN_RESTART (R338). -/
def execCanRestart (rq : Requester) (n : Fin 8) (value : List Byte) (receiving : Bool) (s : State) : Outc :=
  done (s.objectWrite rq (objKey (0x4000 + n.val) 7) value fun _ t => canRestartFx n receiving t)

/-- A timing set answered OK (R323): `force` for COMMIT 2. Whether a frame of another node is then on the bus no command tells: that is a
free value (log entry 119). -/
def State.commitTiming (s : State) (n : Fin 8) (force : Bool) : State :=
  if s.canState n ≤ 1 then s.applySet (0x4010 + n.val)
  else if force then
    (let d := s.draw 2
     d.2.canWhenFree n (d.1 == 1) .init)
  else s

/-- The consistency check of a timing set (R322). -/
def State.canTimingOk (s : State) (n : Fin 8) (set : List (Nat × Nat)) : Bool :=
  let v (j : Nat) : Nat := s.setValue set (0x4008 + n.val) j
  let nomTq := 1 + v 4 + v 5
  let nom := v 3 * nomTq * 25
  let dataTq := 1 + v 8 + v 9
  let data := v 7 * dataTq * 25
  v 6 ≤ v 5 && v 0xA ≤ v 9 && 2000 ≤ nom && nom ≤ 200000 && 8 ≤ nomTq &&
    (v 2 == 0 || (250 ≤ data && data ≤ nom && 5 ≤ dataTq && (v 0xB == 1 || 2000 ≤ data)))

/-- The consistency check of a set for CAN_HP_n (R328). -/
def State.canHpOk (s : State) (n : Fin 8) (set : List (Nat × Nat)) : Bool :=
  let v (j : Nat) : Nat := s.setValue set (0x4028 + n.val) j
  let one (f e c : Nat) : Bool :=
    bitField (v f) 31 29 == 0 && bitField (v f) 63 62 != 3 && v c != 0 &&
      (v e == 0xFFFF || (s.ownSend (v e) && (s.flowEntry (v e)).cls == v c))
  one 1 2 3 && one 4 5 6

/-- CAN_INTEGRATED (R320). -/
def execCanIntegrated (n : Fin 8) (s : State) : Outc := done (if s.canState n = 2 then s.setCanState n 3 else s)

/-! ### Requests and cancels (R332, R333, R335) -/

def CanPort.upd (p : CanPort) (b : Fin 32) (f : CanBuf → CanBuf) : CanPort := { p with bufs := p.bufs.set b (f p.bufs[b]) }

/-- A final status: TX_DONE is set, and a shadow becomes the next request (R330, R335). -/
def State.finishBuf (s : State) (n : Fin 8) (b : Fin 32) (status : Nat) : State :=
  s.updCan n fun p =>
    let q := p.upd b fun x => { x with status := status, cancel := false }
    let d := { q with txDone := putBit q.txDone b.val true }
    match q.bufs[b].shadow with
    | some img =>
      { (d.upd b fun x => { x with img := img, status := 1, arb := 0, errors := 0, order := d.next, owner := none, shadow := none }) with
        next := d.next + 1 }
    | none => d

/-- A request of one buffer (R332); `owner` is the master that asked through the window. -/
def State.requestBuf (s : State) (n : Fin 8) (owner : Option MasterId) (b : Fin 32) : State :=
  let x := (s.canPort n).bufs[b]
  if x.status = 1 || x.status = 2 then s
  else if s.canValid n (imgFrame x.img) && imgReservedOk x.img then
    s.updCan n fun p =>
      { (p.upd b fun x => { x with status := 1, arb := 0, errors := 0, order := p.next, owner := owner }) with next := p.next + 1 }
  else (s.canCount n 0xD).finishBuf n b 7

/-- A cancel of one buffer (R333). -/
def State.cancelBuf (s : State) (n : Fin 8) (b : Fin 32) : State :=
  match (s.canPort n).bufs[b].status with
  | 1 => s.finishBuf n b 5
  | 2 => s.updCan n fun p => p.upd b fun x => { x with cancel := true }
  | _ => s

/-- Do something to every buffer of a mask, in rising order. -/
def State.eachBuf (s : State) (mask : Nat) (k : State → Fin 32 → State) : State :=
  ((List.finRange 32).filter fun b => mask.testBit b.val).foldl k s

/-! ### The port data window (R330, R331) -/

/-- Free the n oldest receive slots. -/
def State.canPop (s : State) (n : Fin 8) (k : Nat) : State × Result :=
  let p := s.canPort n
  if p.rx.length < k then (s, .range)
  else
    let l := p.rx.drop k
    (s.setCan n { p with rx := l, read := (p.read + k) % 64, overrun := p.overrun && !l.isEmpty }, .ok)

/-- A control write of one word. Bits that the table gives no meaning change nothing, as reserved ones (R9; DESIGN CHOICE, log
entry 113). -/
def State.canControl (s : State) (rq : Requester) (n : Fin 8) (p v : Nat) : State × Result :=
  match p with
  | 0x3100 => (s.eachBuf v fun t b => t.requestBuf n (some rq.master) b, .ok)
  | 0x3104 => (s.eachBuf v fun t b => t.cancelBuf n b, .ok)
  | 0x3108 => (s.updCan n fun c => { c with txDone := bitsWithout c.txDone v }, .ok)
  | 0x3110 => s.canPop n (v % 128)
  | 0x3118 =>
    (s.updCan n fun c =>
      let one (b : Fin 2) : CanHp := if v.testBit b.val then { c.hp[b] with full := false, overrun := false } else c.hp[b]
      { c with hp := Vector.ofFn one }, .ok)
  | _ => (s, .readOnly)

/-- A write of a transmit slot: bytes 8 to 19 are ignored. -/
def State.canSlotWrite (s : State) (n : Fin 8) (b : Fin 32) (i : Nat) (bytes : List Byte) : State × Result :=
  let x := (s.canPort n).bufs[b]
  if x.status = 1 || x.status = 2 then (s, .inUse)
  else
    let img := bytes.zipIdx.foldl (fun acc q => if 8 ≤ i + q.2 && i + q.2 < 20 then acc else imgPut acc (i + q.2) 1 q.1.toNat) x.img
    (s.updCan n fun p => p.upd b fun y => { y with img := img }, .ok)

/-- A write of the window at offset `p` of a port (R331). -/
def State.canWindow (s : State) (rq : Requester) (n : Fin 8) (p : Nat) (bytes : List Byte) : State × Result :=
  let len := bytes.length
  let aligned := p % 4 = 0 && len % 4 = 0 && len != 0
  if 0x3200 ≤ p || (0x3120 ≤ p && p < 0x3180) then (s, .noTarget)
  else if p < 0x1000 then
    (if aligned && p % 128 + len ≤ 88 then s.canSlotWrite n (Fin.ofNat 32 (p / 128)) (p % 128) bytes else (s, .typeLength))
  else if p < 0x3100 || 0x3180 ≤ p then (s, .readOnly)
  else if aligned && len = 4 then s.canControl rq n p (leNat bytes)
  else (s, .typeLength)

/-- Offset of a port's window. -/
def canBase (n : Fin 8) : Nat := 0x10000000 + 0x10000 * n.val

/-- One control word written by a command of its own. -/
def State.canWord (s : State) (rq : Requester) (n : Fin 8) (p v : Nat) : State :=
  s.hwWrite rq (canBase n + p) (leBytes 4 v) fun t => t.canControl rq n p v

/-- CAN_TX_REQUEST (R332). -/
def execCanTxRequest (rq : Requester) (n : Fin 8) (mask : BitVec 32) (s : State) : Outc := done (s.canWord rq n 0x3100 mask.toNat)
/-- CAN_TX_CANCEL (R333). -/
def execCanTxCancel (rq : Requester) (n : Fin 8) (mask : BitVec 32) (s : State) : Outc := done (s.canWord rq n 0x3104 mask.toNat)
/-- CAN_TX_DONE_CLEAR (R330). -/
def execCanTxDoneClear (rq : Requester) (n : Fin 8) (mask : BitVec 32) (s : State) : Outc := done (s.canWord rq n 0x3108 mask.toNat)
/-- CAN_RX_POP (R330). -/
def execCanRxPop (rq : Requester) (n : Fin 8) (value : BitVec 32) (s : State) : Outc := done (s.canWord rq n 0x3110 value.toNat)
/-- HP_RELEASE (R328). -/
def execHpRelease (rq : Requester) (n : Fin 8) (value : BitVec 32) (s : State) : Outc := done (s.canWord rq n 0x3118 value.toNat)

/-- The bytes of a window as read, from a slot or the control words (R330, R331). What a write-only word and an empty slot read as
is open (log entry 4). -/
def State.canRead (s : State) (n : Fin 8) (p len : Nat) : Result × List Byte :=
  let c := s.canPort n
  let slot (img : Nat) : Result × List Byte :=
    if p % 128 + len ≤ 128 then (.ok, ((leBytes 88 img ++ List.replicate 40 0#8).drop (p % 128)).take len) else (.typeLength, [])
  let b (v : Bool) (k : Nat) : Nat := if v then 2 ^ k else 0
  let live : Nat := ((List.finRange 32).filter fun k => c.bufs[k].status == 1 || c.bufs[k].status == 2).foldl
    (fun acc k => acc + 2 ^ k.val) 0
  let words : List Nat := [live, s.openWord 1, c.txDone, c.rx.length + c.read * 2 ^ 8, s.openWord 2,
    b c.hp[(0 : Fin 2)].full 0 + b c.hp[(0 : Fin 2)].overrun 1 + b c.hp[(1 : Fin 2)].full 2 + b c.hp[(1 : Fin 2)].overrun 3,
    s.openWord 3,
    s.canState n + s.canStat n 2 * 2 ^ 8 + s.canStat n 3 * 2 ^ 16]
  let stat : List Nat := (List.finRange 32).map fun k =>
    c.bufs[k].errors * 2 ^ 16 + c.bufs[k].arb * 2 ^ 8 + c.bufs[k].status
  let from_ (l : List Nat) (base : Nat) : Result × List Byte :=
    if p - base + len ≤ 4 * l.length then (.ok, ((l.map fun w => leBytes 4 w).flatten.drop (p - base)).take len)
    else (.typeLength, [])
  if 0x3200 ≤ p || (0x3120 ≤ p && p < 0x3180) then (.noTarget, [])
  else if p % 4 != 0 || len % 4 != 0 || len = 0 || 128 < len then (.typeLength, [])
  else if p < 0x1000 then slot c.bufs[Fin.ofNat 32 (p / 128)].img
  else if p < 0x3000 then slot (c.rx.getD (((p - 0x1000) / 128 + 64 - c.read) % 64) (s.openBits 4 704))
  else if p < 0x3100 then slot c.hp[Fin.ofNat 2 (p % 0x100 / 128)].img
  else if p < 0x3180 then from_ words 0x3100
  else from_ stat 0x3180

/-! ### Flow deliveries (R335) -/

/-- CAN_DELIVER (R335): a delivered frame for transmit buffer b. -/
def execCanDeliver (n : Fin 8) (b : Fin 32) (payload : List Byte) (s : State) : Outc :=
  done (match bodyFrame payload 16 with
  | some f =>
    if !s.canValid n f then s.canCount n 0xF
    else
      let img := slotOf f 0 0 0
      let x := (s.canPort n).bufs[b]
      if x.status = 2 then
        (if x.shadow.isSome then s.canCount n 0xE else s).updCan n fun p => p.upd b fun y => { y with shadow := some img }
      else
        (if x.status = 1 then s.canCount n 0xE else s).updCan n fun p =>
          { (p.upd b fun y => { y with img := img, status := 1, arb := 0, errors := 0, order := p.next, owner := none }) with
            next := p.next + 1 }
  | none => s.canCount n 0xF)

/-! ### Bus access (R334) -/

/-- The rank of a frame in arbitration: identifier, RTR and IDE bits as they stand on the bus, lower wins. -/
def arbRank (f : CanFrame) : Nat :=
  let rtr := if f.flags.testBit 1 then 1 else 0
  if f.flags.testBit 0 then f.id / 2 ^ 18 * 2 ^ 21 + 2 ^ 20 + 2 ^ 19 + f.id % 2 ^ 18 * 2 + rtr
  else f.id * 2 ^ 21 + rtr * 2 ^ 20

/-- The SDO response frame of a port. -/
def State.sdoFrame (s : State) (n : Fin 8) (data : List Byte) : CanFrame :=
  { id := 0x580 + s.canCfg n 4, flags := 0, dlc := 8, data := data }

/-- The head of a port's replay queue, as a CAN frame. -/
def State.canReplay (s : State) (n : Fin 8) : Option (Fin 32 × Nat × CanFrame) :=
  match s.endpointOf 1 n.val with
  | some e => match s.bridge.endpoints[e].offered with
    | (o, b) :: _ => (tunnelFrame b.frame).map fun f => (e, o, f)
    | [] => none
  | none => none

/-- The contenders of a port, with rank and place of request, buffers first (R334). Under a lock only the holder's own
requests contend. -/
def State.contenders (s : State) (n : Fin 8) : List (CanTx × Nat × Nat) :=
  let p := s.canPort n
  let holder := s.bridge.buses[Fin.ofNat 16 n.val].holder
  let bufs := (List.finRange 32).filterMap fun b =>
    let x := p.bufs[b]
    let mine := match holder with
      | some (t, _) => x.owner == some t.master
      | none => true
    if x.status = 1 && mine then some (CanTx.buf b, arbRank (imgFrame x.img), x.order) else none
  if holder.isSome then bufs
  else
    bufs ++ ((s.canReplay n).toList.map fun r => (CanTx.replay r.1, arbRank r.2.2, r.2.1)) ++
      (p.reply.toList.map fun r => (CanTx.sdo, arbRank (s.sdoFrame n r.2), r.1))

/-- CAN_BUS_IDLE (R334): the port chooses by identifier, or by the order of the requests. -/
def execCanBusIdle (n : Fin 8) (s : State) : Outc :=
  let s1 := if (s.canPort n).active.isNone then s.canFrameEnd n else s
  done (if !s1.canLive n || (s1.canPort n).active.isSome then s1
  else
    let key (c : CanTx × Nat × Nat) : Nat := if s1.canCfg n 5 = 0 then c.2.1 else c.2.2
    let best := (s1.contenders n).foldl (fun (acc : Option (CanTx × Nat × Nat)) c => match acc with
      | some x => if key c < key x then some c else some x
      | none => some c) none
    s1.updCan n fun p => { p with chosen := best.map (·.1) })

/-- The frame that a contender sends; ESI is the port's own (R334). -/
def State.canFrameOf (s : State) (n : Fin 8) (c : CanTx) : Option CanFrame :=
  let own (f : CanFrame) : CanFrame := { f with flags := f.flags % 16 + (if f.flags.testBit 2 && s.canState n = 4 then 16 else 0) }
  match c with
  | .buf b => let x := (s.canPort n).bufs[b]; if x.status = 1 || x.status = 2 then some (own (imgFrame x.img)) else none
  | .replay _ => (s.canReplay n).map fun r => own r.2.2
  | .sdo => (s.canPort n).reply.map fun r => s.sdoFrame n r.2

/-- The secondary sample point falls more than three data bits after the start of the bit, for a loop delay in ns (R324). -/
def State.tdcOver (s : State) (n : Fin 8) (delay : Nat) : Bool :=
  let tq2 := s.canTiming n 7 * 25
  3 * tq2 * (1 + s.canTiming n 8 + s.canTiming n 9) < 2 * delay + s.canTiming n 0xC * tq2

/-- CAN_TX_START (R332, R324): start of frame of the chosen contender; `loopDelay` is what the port measures on it. -/
def execCanTxStart (n : Fin 8) (loopDelay : Nat) (s : State) : Outc :=
  let p := s.canPort n
  done (match p.chosen with
  | some c =>
    if !s.canLive n || p.active.isSome then s
    else match s.canFrameOf n c with
      | some f =>
        let tdc := f.flags.testBit 3 && s.canTiming n 0xB = 1
        let s1 := if tdc then s.setCanStat n 5 loopDelay else s
        let late := tdc && s.tdcOver n loopDelay
        let s2 := if late then (s1.canCount n 0x11).canEvent n 6 corrected [i32 loopDelay] else s1
        s2.updCan n fun q =>
          let q1 := { q with chosen := none, active := some (c, s.nowNs, late) }
          match c with
          | .buf b => q1.upd b fun x => { x with status := 2 }
          | _ => q1
      | none => s.updCan n fun q => { q with chosen := none }
  | none => s)

/-- What is left of a replayed frame once it has gone out. -/
def State.replayDone (s : State) (e : Fin 32) : State :=
  (s.dropOffered e).bump (0x8200 + e.val) 7

/-- CAN_TX_SENT (R332, R333). -/
def execCanTxSent (n : Fin 8) (s : State) : Outc :=
  done (match (s.canPort n).active with
  | some (c, sof, noBrs) =>
    let sent := match s.canFrameOf n c with
      | some f => s.drive (.bus n.val (canBody { f with flags := if noBrs then putBit f.flags 3 false else f.flags }))
      | none => s
    let s1 := ((sent.canCount n 7).setCanStat n 2 (s.canStat n 2 - 1)).updCan n fun p => { p with active := none }
    let s2 := match c with
      | .buf b =>
        let stamped := s1.updCan n fun p => p.upd b fun x =>
          { x with img := imgPut (imgPut x.img 8 4 (sof % 1000000000)) 12 6 (sof / 1000000000) }
        if (s.canPort n).bufs[b].cancel then (stamped.canCount n 0xC).finishBuf n b 4 else stamped.finishBuf n b 3
      | .replay e => s1.replayDone e
      | .sdo => s1.updCan n fun p => { p with reply := none }
    let s3 := if s2.canState n = 4 && s2.canStat n 2 ≤ 127 && s2.canStat n 3 ≤ 127 then s2.setCanState n 3 else s2
    s3.canFrameEnd n
  | none => s)

/-- The frame being sent is given up: its buffer competes again, or ends CANCELLED (R332, R333). -/
def State.canGiveUp (s : State) (n : Fin 8) (lost : Bool) : State :=
  match (s.canPort n).active with
  | some (.buf b, _, _) =>
    let s1 := s.updCan n fun p => { (p.upd b fun x => { x with
      status := 1
      arb := if lost then min 255 (x.arb + 1) else x.arb
      errors := if lost then x.errors else min 255 (x.errors + 1) }) with active := none }
    if (s.canPort n).bufs[b].cancel then s1.finishBuf n b 5 else s1
  | _ => s.updCan n fun p => { p with active := none }

/-- CAN_ARB_LOST (R332): the frame that won is still on the bus. -/
def execCanArbLost (n : Fin 8) (s : State) : Outc := done (s.canGiveUp n true)

/-! ### Reception (R325 to R329) -/

/-- A filter matches a frame (R325). -/
def filterMatches (w : Nat) (f : CanFrame) : Bool :=
  let id1 := bitField w 60 32
  let id2 := bitField w 28 0
  let wide := f.flags.testBit 0
  let cut (x : Nat) : Nat := if wide then x else x % 0x800
  w.testBit 61 == wide && (wide || (id1 < 0x800 && id2 < 0x800)) &&
    (match bitField w 63 62 with
      | 1 => cut ((f.id ^^^ id1) &&& id2) == 0
      | 2 => id1 ≤ f.id && f.id ≤ id2
      | _ => false)

/-- The CAN flow payload (R329). -/
def canPayload (n : Fin 8) (f : CanFrame) (mt ns seq : Nat) : List Byte :=
  beBytes 6 (ns / 1000000000) ++ beBytes 4 (ns % 1000000000) ++ beBytes 2 mt ++ beBytes 1 n.val ++ beBytes 1 0 ++
    beBytes 2 seq ++ canBody f

/-- Route a frame to the receive queue (R327). -/
def State.canQueue (s : State) (n : Fin 8) (f : CanFrame) (mt ns : Nat) : State :=
  let p := s.canPort n
  if 64 ≤ p.rx.length then
    let s1 := s.canCount n 9
    if p.overrun then s1
    else (s1.updCan n fun q => { q with overrun := true }).canEvent n 4 corrected []
  else s.setCan n { p with rx := p.rx ++ [slotOf f mt ns p.seq] }

/-- Route a frame to the tunnel endpoint bound to the port (R285, R329). -/
def State.canTunnel (s : State) (n : Fin 8) (f : CanFrame) (ns : Nat) : State :=
  match s.endpointOf 1 n.val with
  | some e => s.tunnelIn e 0 ns (canBody f) true true
  | none => s.canCount n 0xF

/-- Route a frame to the port's flow (R329). -/
def State.canFlow (s : State) (n : Fin 8) (f : CanFrame) (mt ns : Nat) : State :=
  if s.canCfg n 6 = 0xFFFF then s
  else s.routeFlow (.can n) (s.canCfg n 6) (canPayload n f mt ns (s.canPort n).seq) (0x4030 + n.val) 0xF

/-- A frame goes to a high-priority buffer, and to its flow (R328). -/
def State.canHigh (s : State) (n : Fin 8) (b : Fin 2) (f : CanFrame) (ns : Nat) : State :=
  let p := s.canPort n
  let x := p.hp[b]
  let y : CanHp := { img := slotOf f (0x80 + b.val) ns p.seq, full := true, overrun := x.full || x.overrun }
  let s1 := s.setCan n { p with hp := p.hp.set b y }
  let s2 := if (s.canCfg n 8).testBit b.val then s1.raiseVector (Fin.ofNat 32 (13 + 2 * n.val + b.val)) else s1
  let e := s.val (0x4028 + n.val) (2 + 3 * b.val)
  if e = 0xFFFF then s2
  else if 4 ≤ s2.waitingOf (.canHp n b) then s2.canCount n 0xF
  else if !s2.ownSend e then s2.bump 0x2150 0x15
  else s2.present { org := .canHp n b, typ := 0, entry := e, payload := canPayload n f (0x80 + b.val) ns p.seq }

/-- A frame on the SDO request identifier (R56, R344): ignored and counted, as every one in a listen state, or handed to the server; a
command that no server part takes is aborted. -/
def State.canSdo (s : State) (n : Fin 8) (f : CanFrame) : State :=
  if !s.canLive n || f.flags != 0 || f.dlc != 8 then s.canCount n 0x12
  else
    let s1 := if (s.canPort n).reply.isSome then (s.canCount n 0x12).updCan n fun p => { p with reply := none } else s
    if 5 ≤ beAt f.data 0 1 / 32 then s1.sdoAbort n (leAt f.data 1 2 * 256 + beAt f.data 3 1) 0x05040001 0x05
    else s1.emit (.sdoRequest n.val f.data)

/-- As a duplex standby the port sees its own pending frame sent by the primary (R342). -/
def State.canSeen (s : State) (n : Fin 8) (f : CanFrame) (ns : Nat) : Option State :=
  if s.canState n != 9 then none
  else
    let p := s.canPort n
    let same (g : CanFrame) : Bool := g.id == f.id && g.flags % 16 == f.flags % 16 && g.dlc == f.dlc && g.data == f.data
    match (List.finRange 32).find? fun b => p.bufs[b].status == 1 && same (imgFrame p.bufs[b].img) with
    | some b =>
      some ((s.updCan n fun q => q.upd b fun x =>
        { x with img := imgPut (imgPut x.img 8 4 (ns % 1000000000)) 12 6 (ns / 1000000000) }).finishBuf n b 3)
    | none => match s.canReplay n with
      | some (e, _, g) => if same g then some (s.replayDone e) else none
      | none => none

/-- The first rule of R326 that applies to a frame. -/
def State.canRoute (s : State) (n : Fin 8) (f : CanFrame) (ns : Nat) : State :=
  let hp (b : Fin 2) : Bool := filterMatches (s.val (0x4028 + n.val) (1 + 3 * b.val)) f
  if s.canCfg n 3 = 1 && !f.flags.testBit 0 && f.id = 0x600 + s.canCfg n 4 then s.canSdo n f
  else if hp 0 then s.canHigh n 0 f ns
  else if hp 1 then s.canHigh n 1 f ns
  else match (List.range 128).find? fun k => filterMatches (s.val (0x4020 + n.val) (k + 1)) f with
    | some k =>
      match bitField (s.val (0x4020 + n.val) (k + 1)) 31 29 with
      | 1 => s.canQueue n f k ns
      | 2 => s.canTunnel n f ns
      | 3 => (s.canQueue n f k ns).canTunnel n f ns
      | 4 => s.canFlow n f k ns
      | 5 => (s.canQueue n f k ns).canFlow n f k ns
      | _ => s
    | none => s.canCount n 8

/-- REC after a good reception: one less, or from above 127 a value of ISO 11898-1 from 119 to 127, which is open. -/
def State.canRecDown (s : State) (n : Fin 8) : State :=
  let r := s.canStat n 3
  if 127 < r then
    let d := s.draw 9
    d.2.setCanStat n 3 (119 + d.1)
  else s.setCanStat n 3 (r - 1)

/-- CAN_FRAME_RX (R326): a frame valid for a receiver, stamped at its start of frame in ns. -/
def execCanFrameRx (n : Fin 8) (f : CanFrame) (ns : Nat) (s : State) : Outc :=
  done (if !s.canHears n then s
  else
    let s1 := if s.canLive n then s.canRecDown n else s
    let s2 := if s1.canState n = 4 && s1.canStat n 2 ≤ 127 && s1.canStat n 3 ≤ 127 then s1.setCanState n 3 else s1
    let s3 := match s2.canSeen n f ns with
      | some t => t
      | none => ((s2.canCount n 6).updCan n fun p => { p with seq := (p.seq + 1) % 65536 }).canRoute n f ns
    s3.canFrameEnd n)

/-! ### Errors and bus-off (R336, R337) -/

/-- The port enters BUS_OFF, or FORCED_LISTEN for the fourth time within 1 s. -/
def State.busOff (s : State) (n : Fin 8) : State :=
  let recent := ((s.canPort n).busOffs.filter fun t => s.uptime < t + secs 1) ++ [s.uptime]
  let s1 := ((s.canCount n 0xB).canEvent n 2 corrected [i16 (s.canStat n 4)]).updCan n fun p => { p with busOffs := recent, chosen := none }
  if 4 ≤ recent.length then
    ((s1.updCan n fun p => { p with forced := true, busOffs := [] }).setCanState n 7).canEvent n 3 contained []
  else s1.setCanState n 5

/-- A detected error (R336): kind 1 to 6. The counters move as ISO 11898-1 lays down: 8 for a transmitter, but none for a
missing acknowledgement of an error-passive one that sees no dominant bit; 1 for a receiver, or 8 with a dominant bit after
its error flag (PRESUMED, log entry 35). -/
def State.busError (s : State) (n : Fin 8) (kind : Nat) (dominant : Bool) : State :=
  if !s.canLive n then s
  else
    let sending := (s.canPort n).active.isSome
    let s1 := ((s.canCount n 0xA).setCanStat n 4 kind).canGiveUp n false
    let spared := kind = 3 && s.canState n = 4 && !dominant
    let tec := s.canStat n 2 + (if sending && !spared then 8 else 0)
    let rec_ := s.canStat n 3 + (if sending then 0 else if dominant then 8 else 1)
    let s2 := (s1.setCanStat n 2 (min 255 tec)).setCanStat n 3 (min 65535 rec_)
    let s3 := if 255 < tec then s2.busOff n
      else if s.canState n = 3 && (127 < tec || 127 < rec_) then
        (s2.setCanState n 4).canEvent n 1 corrected [i16 tec, i16 rec_]
      else s2
    s3.canFrameEnd n

/-- CAN_BUS_ERROR (R336): `dominant` where the bus shows a dominant bit after the port's error flag. -/
def execCanBusError (n : Fin 8) (kind : Fin 6) (dominant : Bool) (s : State) : Outc := done (s.busError n (kind.val + 1) dominant)

/-- BUS_OFF_RECOVERY (R337). -/
def execBusOffRecovery (n : Fin 8) (s : State) : Outc := done (if s.canState n = 5 then s.canInit n else s)

/-- PROTOCOL_EXCEPTION (R336): a recessive res bit; without PEX it is a form error. -/
def execProtocolException (n : Fin 8) (s : State) : Outc :=
  done (if s.canTiming n 0xD = 1 then
    (if s.canHears n then
      let s1 := s.canCount n 0x10
      if s.canLive n then (s1.setCanState n 2).canFrameEnd n else s1
     else s)
  else s.busError n 2 false)

/-- CAN_DOMINANT_TIMEOUT (R319): the transceiver has released the bus. -/
def execCanDominantTimeout (n : Fin 8) (s : State) : Outc :=
  done (if s.canLive n then s.canEvent n 5 contained [] else s)

/-! ### Safe state and duplex role (R340, R342) -/

/-- The safe state begins for one port: its frame is cut off, so that what waited for its end happens. -/
def State.canSafe (s : State) (n : Fin 8) : State :=
  let aborted := s.updCan n fun p =>
    let live (x : CanBuf) : Bool := x.status == 1 || x.status == 2
    let mask := ((List.finRange 32).filter fun b => live p.bufs[b]).foldl (fun acc b => acc ||| 2 ^ b.val) 0
    { p with
      bufs := p.bufs.map fun x => { (if live x then { x with status := 6 } else x) with cancel := false, shadow := none }
      txDone := p.txDone ||| mask, active := none, chosen := none, reply := none }
  let s1 := match s.endpointOf 1 n.val with
    | some e => aborted.dropReplays e
    | none => aborted
  let s2 := s1.canFrameEnd n
  if s2.canState n = 0 then s2 else s2.setCanState n 8

def State.cansSafe (s : State) : State := (List.finRange 8).foldl State.canSafe s

/-- The safe state ends: ports pass through INIT. -/
def State.cansUnsafe (s : State) : State :=
  (List.finRange 8).foldl (fun (t : State) n => if t.canState n = 8 then t.canInit n else t) s

/-- Ports follow the hub's role in a pair: STANDBY_LISTEN while it does not drive; at takeover they take part at once with
TEC and REC at 0. -/
def State.canRole (s : State) (n : Fin 8) : State :=
  if s.canState n = 0 || s.canState n = 8 then s
  else if !s.drives then
    (if s.canState n = 9 then s
     else
      let s1 := (s.canGiveUp n false).canFrameEnd n
      if s1.canState n = 0 then s1 else (s1.setCanState n 9).updCan n fun p => { p with chosen := none })
  else if s.canState n = 9 then
    (if (s.canPort n).forced || s.canTiming n 1 = 1 then s.canInit n
     else ((s.setCanStat n 2 0).setCanStat n 3 0).setCanState n 3)
  else s

def State.cansRole (s : State) : State := (List.finRange 8).foldl State.canRole s

end Sys2Proof.Machine
end

