-- ==== Sys2Proof/Machine/Serial.lean ====
section
/-!
DEFINITION. RS-485 ports (ch. 11, R350 to R359): framing sets, reception and routing, transmit slots, the port data window.
-/

namespace Sys2Proof.Machine

def State.serPort (s : State) (n : Fin 8) : SerPort := s.ser[n]
def State.setSer (s : State) (n : Fin 8) (p : SerPort) : State := { s with ser := s.ser.set n p }
def State.updSer (s : State) (n : Fin 8) (f : SerPort → SerPort) : State := s.setSer n (f (s.serPort n))
def SerPort.upd (p : SerPort) (b : Fin 4) (f : SerSlot → SerSlot) : SerPort := { p with slots := p.slots.set b (f p.slots[b]) }

/-- Members of SER_PORT_n and SER_FRAMING_n, counters of SER_STATUS_n (R382). -/
def State.serCfg (s : State) (n : Fin 8) (j : Nat) : Nat := s.val (0x4100 + n.val) j
def State.serFrm (s : State) (n : Fin 8) (j : Nat) : Nat := s.val (0x4108 + n.val) j
def State.serCount (s : State) (n : Fin 8) (j : Nat) : State := s.bump (0x4118 + n.val) j

def State.halfDuplex (s : State) (n : Fin 8) : Bool := s.serFrm n 1 == 0
def State.nineBit (s : State) (n : Fin 8) : Bool := s.serFrm n 3 == 9

/-- LINE_STATE (R382): 0 off, 1 idle, 2 receiving, where a commit found it so, 3 sending, 4 safe, 5 standby (log entry 119). -/
def State.lineState (s : State) (n : Fin 8) : Nat :=
  if s.serCfg n 1 = 0 || s.isolated (16 + n.val) then 0 else if s.safe then 4 else if !s.drives then 5
  else if (s.serPort n).active.isSome || (s.serPort n).trailing then 3
  else if (s.serPort n).receiving then 2 else 1

/-- Show LINE_STATE; a set that waits applies once the port is idle or off (R357). -/
def State.serSettle (s : State) (n : Fin 8) : State :=
  let idle := (s.serPort n).active.isNone && !(s.serPort n).trailing && !(s.serPort n).receiving
  let s1 := if idle || s.serCfg n 1 = 0 then s.applySet (0x4110 + n.val) else s
  s1.setVal (0x4118 + n.val) 1 (s1.lineState n)

/-- The consistency check of a framing set (R357). -/
def State.serSetOk (s : State) (n : Fin 8) (set : List (Nat × Nat)) : Bool :=
  let v (j : Nat) : Nat := s.setValue set (0x4108 + n.val) j
  (v 6 == 0 || v 3 == 9) && (v 3 != 9 || v 4 == 0) && 24 ≤ v 7

/-! ### Transmit slots (R354 to R356) -/

/-- The bytes a slot sends. -/
def SerSlot.bytes (x : SerSlot) : List Byte := leBytes (min 2048 x.len) x.img

/-- A final status; a shadow becomes the next request. -/
def State.finishSlot (s : State) (n : Fin 8) (b : Fin 4) (status : Nat) : State :=
  s.updSer n fun p =>
    let q := p.upd b fun x => { x with status := status, cancel := false }
    let d := { q with txDone := putBit q.txDone b.val true }
    match q.slots[b].shadow with
    | some l =>
      { (d.upd b fun x => { x with img := leNat l, len := l.length, status := 1, order := d.next, owner := none, shadow := none }) with
        next := d.next + 1 }
    | none => d

/-- A slot of this length may be sent. -/
def State.serLenOk (s : State) (n : Fin 8) (len : Nat) : Bool := 0 < len && len ≤ 2048 && !(s.nineBit n && len % 2 == 1)

/-- A request of one slot. -/
def State.requestSlot (s : State) (n : Fin 8) (owner : Option MasterId) (b : Fin 4) : State :=
  let x := (s.serPort n).slots[b]
  if x.status = 1 || x.status = 2 then s
  else if s.serLenOk n x.len then
    s.updSer n fun p => { (p.upd b fun x => { x with status := 1, order := p.next, owner := owner }) with next := p.next + 1 }
  else (s.updSer n fun p => { p with txInvalid := (p.txInvalid + 1) % 2 ^ 32 }).finishSlot n b 7

/-- A cancel of one slot (R355). -/
def State.cancelSlot (s : State) (n : Fin 8) (b : Fin 4) : State :=
  match (s.serPort n).slots[b].status with
  | 1 => s.finishSlot n b 5
  | 2 => s.updSer n fun p => p.upd b fun x => { x with cancel := true }
  | _ => s

def State.eachSlot (s : State) (mask : Nat) (k : State → Fin 4 → State) : State :=
  ((List.finRange 4).filter fun b => mask.testBit b.val).foldl k s

/-! ### The window (R350, R356) -/

def serBase (n : Fin 8) : Nat := 0x10100000 + 0x10000 * n.val

/-- A control write of one word. Reserved bits, and bits that the table does not list, change nothing (R9; log entry 113). -/
def State.serControl (s : State) (rq : Requester) (n : Fin 8) (p v : Nat) : State × Result :=
  let p0 := s.serPort n
  if p = 0x4000 then (s.eachSlot v fun t b => t.requestSlot n (some rq.master) b, .ok)
  else if p = 0x4004 then (s.eachSlot v fun t b => t.cancelSlot n b, .ok)
  else if p = 0x4008 then (s.updSer n fun c => { c with txDone := bitsWithout c.txDone v }, .ok)
  else if p = 0x4020 then
    (if p0.rx.length < v % 64 then (s, .range) else (s.setSer n { p0 with rx := p0.rx.drop (v % 64) }, .ok))
  else if 0x4040 ≤ p && p < 0x4050 then
    let b : Fin 4 := Fin.ofNat 4 ((p - 0x4040) / 4)
    (if p0.slots[b].status = 1 || p0.slots[b].status = 2 then (s, .inUse)
     else (s.updSer n fun c => c.upd b fun x => { x with len := v % 0x1000 }, .ok))
  else (s, .readOnly)

/-- An offset inside the window's map. -/
def serMapped (p : Nat) : Bool :=
  p < 0x4028 || (0x4040 ≤ p && p < 0x4050) || (0x4080 ≤ p && p < 0x4090)

/-- A write of the window. -/
def State.serWindow (s : State) (rq : Requester) (n : Fin 8) (p : Nat) (bytes : List Byte) : State × Result :=
  let len := bytes.length
  let aligned := p % 4 = 0 && len % 4 = 0 && len != 0
  if !serMapped p then (s, .noTarget)
  else if p < 0x2000 then
    let b : Fin 4 := Fin.ofNat 4 (p / 0x800)
    let x := (s.serPort n).slots[b]
    (if !aligned || 0x800 < p % 0x800 + len then (s, .typeLength)
     else if x.status = 1 || x.status = 2 then (s, .inUse)
     else (s.updSer n fun c => c.upd b fun y => { y with img := imgPut y.img (p % 0x800) len (leNat bytes) }, .ok))
  else if p < 0x4000 then (s, .readOnly)
  else if aligned && len = 4 then s.serControl rq n p (leNat bytes)
  else (s, .typeLength)

/-- The window as read. -/
def State.serRead (s : State) (n : Fin 8) (p len : Nat) : Result × List Byte :=
  let c := s.serPort n
  let area (base size : Nat) (l : List Byte) : Result × List Byte :=
    if p - base + len ≤ size then (.ok, ((l ++ List.replicate (size - l.length) 0#8).drop (p - base)).take len) else (.typeLength, [])
  let live : Nat := ((List.finRange 4).filter fun k => c.slots[k].status == 1 || c.slots[k].status == 2).foldl
    (fun acc k => acc + 2 ^ k.val) 0
  let head := c.rx.head?.getD ⟨[], 0, 0⟩
  let info : List Nat := if c.rx.isEmpty then (List.range 4).map fun k => s.openWord (3 + k)
    else [head.data.length + head.flags * 2 ^ 16, head.ns % 1000000000, head.ns / 1000000000 % 2 ^ 32,
      head.ns / 1000000000 / 2 ^ 32 % 2 ^ 16]
  let words : List Nat := [live, s.openWord 1, c.txDone, c.rx.length + (c.rx.map fun r => r.data.length).sum * 2 ^ 16] ++ info ++
    [s.openWord 2, s.lineState n]
  if !serMapped p then (.noTarget, [])
  else if p % 4 != 0 || len % 4 != 0 || len = 0 || 2040 < len then (.typeLength, [])
  else if p < 0x2000 then area (p / 0x800 * 0x800) 0x800 (leBytes 2048 c.slots[Fin.ofNat 4 (p / 0x800)].img)
  else if p < 0x4000 then area 0x2000 0x2000 head.data
  else if p < 0x4040 then area 0x4000 0x28 (words.map fun w => leBytes 4 w).flatten
  else if p < 0x4080 then area 0x4040 0x10 ((List.finRange 4).map fun k => leBytes 4 c.slots[k].len).flatten
  else area 0x4080 0x10 ((List.finRange 4).map fun k => leBytes 4 c.slots[k].status).flatten

/-- One control word written by a command of its own. -/
def State.serWord (s : State) (rq : Requester) (n : Fin 8) (p v : Nat) : State :=
  s.hwWrite rq (serBase n + p) (leBytes 4 v) fun t => t.serControl rq n p v

/-- SER_TX_REQUEST (R354). -/
def execSerTxRequest (rq : Requester) (n : Fin 8) (mask : BitVec 32) (s : State) : Outc := done (s.serWord rq n 0x4000 mask.toNat)
/-- SER_TX_CANCEL (R355). -/
def execSerTxCancel (rq : Requester) (n : Fin 8) (mask : BitVec 32) (s : State) : Outc := done (s.serWord rq n 0x4004 mask.toNat)
/-- SER_TX_DONE_CLEAR (R356). -/
def execSerTxDoneClear (rq : Requester) (n : Fin 8) (mask : BitVec 32) (s : State) : Outc := done (s.serWord rq n 0x4008 mask.toNat)
/-- SER_RX_POP (R356). -/
def execSerRxPop (rq : Requester) (n : Fin 8) (value : BitVec 32) (s : State) : Outc := done (s.serWord rq n 0x4020 value.toNat)

/-- SER_DELIVER (R356): a delivered frame for slot b. -/
def execSerDeliver (n : Fin 8) (b : Fin 4) (payload : List Byte) (s : State) : Outc :=
  let data := payload.drop 16
  done (if !s.serLenOk n data.length then s.serCount n 0xC
  else
    let x := (s.serPort n).slots[b]
    if x.status = 2 then
      (if x.shadow.isSome then s.serCount n 0xB else s).updSer n fun p => p.upd b fun y => { y with shadow := some data }
    else
      (if x.status = 1 then s.serCount n 0xB else s).updSer n fun p =>
        { (p.upd b fun y => { y with img := leNat data, len := data.length, status := 1, order := p.next, owner := none }) with
          next := p.next + 1 })

/-! ### Transmission (R354) -/

/-- The head of a port's replay queue: the endpoint, its place in the order, the characters. -/
def State.serReplay (s : State) (n : Fin 8) : Option (Fin 32 × Nat × List Byte) :=
  match s.endpointOf 2 n.val with
  | some e => match s.bridge.endpoints[e].offered with
    | (o, b) :: _ => some (e, o, b.frame.drop 24)
    | [] => none
  | none => none

/-- What the port sends next: the oldest request or replay; under a lock the holder's own slots alone (R354). -/
def State.serNext (s : State) (n : Fin 8) : Option SerTx :=
  let holder := s.bridge.buses[Fin.ofNat 16 (8 + n.val)].holder
  let slots := (List.finRange 4).filterMap fun b =>
    let x := (s.serPort n).slots[b]
    let mine := match holder with
      | some (t, _) => x.owner == some t.master
      | none => true
    if x.status = 1 && mine then some (SerTx.slot b, x.order) else none
  let all := if holder.isSome then slots else slots ++ (s.serReplay n).toList.map fun r => (SerTx.replay r.1, r.2.1)
  (all.foldl (fun (acc : Option (SerTx × Nat)) c => match acc with
    | some x => if c.2 < x.2 then some c else some x
    | none => some c) none).map (·.1)

/-- The port may drive its line (R358, R359). -/
def State.serMaySend (s : State) (n : Fin 8) : Bool := (s.lineState n == 1 || s.lineState n == 2) && s.serCfg n 4 == 0

/-- SER_TX_START (R354): GAP has passed on the transmit line, so that no frame is being received on it. -/
def execSerTxStart (n : Fin 8) (s0 : State) : Outc :=
  let s := if s0.halfDuplex n then (s0.updSer n fun p => { p with receiving := false }).serSettle n else s0
  done (if !s.serMaySend n then s
  else match s.serNext n with
    | some c =>
      let lead := if s.halfDuplex n then 1000000000 * s.serFrm n 8 / max 1 (s.serFrm n 2) else 0
      (s.updSer n fun p =>
        let q := { p with active := some c }
        match c with
        | .slot b => q.upd b fun x => { x with status := 2, stamp := s.nowNs + lead }
        | .replay _ => q).serSettle n
    | none => s)

/-- Characters that the frame being sent holds. -/
def State.serSending (s : State) (n : Fin 8) : List Byte :=
  match (s.serPort n).active with
  | some (.slot b) => (s.serPort n).slots[b].bytes
  | some (.replay _) => match s.serReplay n with
    | some r => r.2.2
    | none => []
  | none => []

/-- SER_TX_SENT (R354): the last stop bit has ended. -/
def execSerTxSent (n : Fin 8) (s : State) : Outc :=
  done (match (s.serPort n).active with
  | some c =>
    let s1 := (((s.drive (.bus (8 + n.val) (s.serSending n))).serCount n 3).updSer n fun p =>
      { p with active := none, trailing := s.halfDuplex n })
    let s2 := match c with
      | .slot b => if (s.serPort n).slots[b].cancel then (s1.serCount n 0xA).finishSlot n b 4 else s1.finishSlot n b 3
      | .replay e => s1.replayDone e
    s2.serSettle n
  | none => s)

/-- SER_COLLISION (R354, R355): the echo of character `sent` differs; the frame stops after it. -/
def execSerCollision (n : Fin 8) (sent : Nat) (s : State) : Outc :=
  done (match (s.serPort n).active with
  | some c =>
    if !s.halfDuplex n then s
    else
      let cut := (s.serSending n).take (if s.nineBit n then 2 * (sent + 1) else sent + 1)
      let slot := match c with
        | .slot b => b.val
        | .replay _ => 0xFFFF
      let s1 := (((s.drive (.bus (8 + n.val) cut)).serCount n 9).raise (0x48 + n.val) 2 corrected
        (packArg [i16 n.val, i16 slot])).updSer n fun p => { p with active := none, trailing := true }
      let s2 := match c with
        | .slot b => s1.finishSlot n b (if (s.serPort n).slots[b].cancel then 5 else 8)
        | .replay e => s1.dropOffered e
      s2.serSettle n
  | none => s)

/-- SER_DRIVER_RELEASE (R354). -/
def execSerDriverRelease (n : Fin 8) (s : State) : Outc :=
  done (if (s.serPort n).trailing then (s.updSer n fun p => { p with trailing := false }).serSettle n else s)

/-! ### Reception (R352, R353, R286, R288) -/

/-- Characters as stored: one byte, or two with DATA_BITS 9. -/
def serBytes (nine : Bool) (l : List (BitVec 9)) : List Byte :=
  (l.map fun c => if nine then beBytes 2 c.toNat else beBytes 1 c.toNat).flatten

/-- The RS-485 flow payload (R353). -/
def serPayload (n : Fin 8) (nine : Bool) (flags ns seq : Nat) (data : List Byte) : List Byte :=
  let cut := data.take 2032
  let fl := if 2032 < data.length && !flags.testBit 4 then flags + 16 else flags
  beBytes 6 (ns / 1000000000) ++ beBytes 4 (ns % 1000000000) ++ beBytes 1 n.val ++ beBytes 1 fl ++
    beBytes 2 (if nine then cut.length / 2 else cut.length) ++ beBytes 2 seq ++ cut

/-- A received frame enters the tunnel in up to four parts (R288). -/
def State.serTunnel (s : State) (n : Fin 8) (nine : Bool) (flags ns : Nat) (data : List Byte) : State :=
  match s.endpointOf 2 n.val with
  | none => s.serCount n 0xC
  | some e =>
    let cut := 8096 < data.length || flags.testBit 4
    let kept := data.take 8096
    let parts := (kept.length + 2023) / 2024
    let chars (l : Nat) : Nat := if nine then l / 2 else l
    let tf := (if cut then 1 else 0) + (if flags.testBit 1 || flags.testBit 2 then 2 else 0)
    let s1 := if 8096 < data.length then s.bump (0x8200 + e.val) 0xB else s
    (List.range parts).foldl (fun (t : State) k =>
      let d := (kept.drop (2024 * k)).take 2024
      t.tunnelIn e tf ns (beBytes 2 (chars d.length) ++ beBytes 1 (flags % 16) ++ beBytes 1 k ++ beBytes 4 (chars data.length) ++ d)
        (k == 0) (k + 1 == parts)) s1

/-- As a duplex standby the port sees its own pending frame sent by the primary (R359). -/
def State.serSeen (s : State) (n : Fin 8) (data : List Byte) (ns : Nat) : Option State :=
  if s.lineState n != 5 then none
  else match (List.finRange 4).find? fun b => (s.serPort n).slots[b].status == 1 && (s.serPort n).slots[b].bytes == data with
    | some b => some ((s.updSer n fun p => p.upd b fun x => { x with stamp := ns }).finishSlot n b 3)
    | none => match s.serReplay n with
      | some (e, _, d) => if d = data then some (s.replayDone e) else none
      | none => none

/-- A frame has been received, and no other is yet. -/
def State.serReceived (s : State) (n : Fin 8) : State := (s.updSer n fun p => { p with receiving := false }).serSettle n

/-- A frame ended by a gap or a break (R352, R353). One that had begun when COMMIT 2 ended it is flagged TRUNCATED (R357). -/
def State.serReceive (s : State) (n : Fin 8) (l : List (BitVec 9)) (parity framing ns : Nat) (brk : Bool) : State :=
  if s.serCfg n 1 = 0 || s.isolated (16 + n.val) || (s.halfDuplex n && s.lineState n = 3) then s
  else
    let nine := s.nineBit n
    let all := serBytes nine l
    let data := all.take 8192
    let long := 8192 < all.length
    let s1 := ((s.addVal (0x4118 + n.val) 4 parity).addVal (0x4118 + n.val) 5 framing)
    let s2 := if brk then s1.serCount n 6 else s1
    let s3 := if long then s2.serCount n 8 else s2
    let addressed := match l with
      | c :: _ => c.toNat.testBit 8 && (c.toNat % 256 == s.serCfg n 7 % 256 || c.toNat % 256 == 0xFF)
      | [] => false
    if s.serFrm n 6 = 1 && s.serCfg n 7 != 0xFFFF && !addressed then s3.serCount n 0xD
    else match s3.serSeen n data ns with
      | some t => t
      | none =>
        let flags := (if nine then 1 else 0) + (if 0 < parity then 2 else 0) + (if 0 < framing then 4 else 0) +
          (if brk then 8 else 0) + (if long || decide (ns < (s.serPort n).cutAt) then 16 else 0)
        let s4 := (s3.serCount n 2).updSer n fun p => { p with seq := (p.seq + 1) % 65536 }
        let dest := s.serCfg n 5
        let p := s4.serPort n
        let s5 := if dest.testBit 0 then
            (if 32 ≤ p.rx.length || 8192 < (p.rx.map fun r => r.data.length).sum + data.length then
              (s4.serCount n 7).raise (0x48 + n.val) 1 corrected (packArg [i16 n.val])
            else s4.setSer n { p with rx := p.rx ++ [⟨data, flags, ns⟩] })
          else s4
        let s6 := if dest.testBit 1 && s.serCfg n 6 != 0xFFFF then
            s5.routeFlow (.ser n) (s.serCfg n 6) (serPayload n nine flags ns p.seq data) (0x4118 + n.val) 0xC
          else s5
        if dest.testBit 2 then s6.serTunnel n nine flags ns all else s6

/-- SER_FRAME_RX (R352): the characters of a frame that a gap has ended, how many of them had parity and framing errors, and
its stamp in ns. -/
def execSerFrameRx (n : Fin 8) (chars : List (BitVec 9)) (parity framing ns : Nat) (s : State) : Outc :=
  done ((s.serReceive n chars parity framing ns false).serReceived n)

/-- SER_BREAK (R352). -/
def execSerBreak (n : Fin 8) (chars : List (BitVec 9)) (parity framing ns : Nat) (s : State) : Outc :=
  done ((s.serReceive n chars parity framing ns true).serReceived n)

/-! ### Settings, safe state and role (R357 to R359) -/

/-- The driver goes off: the frame being sent is given up. -/
def State.serCut (s : State) (n : Fin 8) (status : Nat) : State :=
  let s1 := match (s.serPort n).active with
    | some (.slot b) =>
      if status = 1 then s.updSer n fun p => p.upd b fun x => { x with status := 1 } else s.finishSlot n b status
    | _ => s
  (s1.updSer n fun p => { p with active := none, trailing := false }).serSettle n

/-- What a write of ENABLE or RECEIVE_ONLY does: with the driver off a request is held. -/
def serDriverFx (n : Fin 8) (j v : Nat) (s : State) : State :=
  let s1 := s.setVal (0x4100 + n.val) j v
  if (j = 1 && v = 0) || (j = 4 && v = 1) then s1.serCut n 1 else s1.serSettle n

/-- A framing set answered OK: COMMIT 2 applies at once; its ACTIVE slot ends ABORTED, and a frame being received ends (R357). COMMIT 1
waits for the end of a frame: whether one is then being received no command tells, and is a free value (log entry 119). -/
def State.commitSer (s : State) (n : Fin 8) (force : Bool) : State :=
  if force then (s.updSer n fun p => { p with receiving := false, cutAt := s.nowNs }).serCut n 6
  else
    let d := s.draw 2
    (d.2.updSer n fun p => { p with receiving := p.receiving || d.1 == 1 }).serSettle n

/-- The safe state begins for one port (R359). -/
def State.serSafe (s : State) (n : Fin 8) : State :=
  let s1 := s.updSer n fun p =>
    let live (x : SerSlot) : Bool := x.status == 1 || x.status == 2
    let mask := ((List.finRange 4).filter fun b => live p.slots[b]).foldl (fun acc b => acc ||| 2 ^ b.val) 0
    { p with
      slots := p.slots.map fun x => { (if live x then { x with status := 6 } else x) with cancel := false, shadow := none }
      txDone := p.txDone ||| mask, active := none, trailing := false }
  let s2 := match s.endpointOf 2 n.val with
    | some e => s1.dropReplays e
    | none => s1
  s2.serSettle n

def State.sersSafe (s : State) : State := (List.finRange 8).foldl State.serSafe s

/-- Ports follow the end of the safe state and the hub's role in a pair; a frame in progress completes on the member that started it
(R178). -/
def State.sersRole (s : State) : State :=
  (List.finRange 8).foldl State.serSettle s

end Sys2Proof.Machine
end

