-- ==== Sys2Proof/Machine/Sdci.lean ====
section
/-!
DEFINITION. SDCI master ports (ch. 11, R360 to R368), the current budgets (R378) and reduced mode (R379).
-/

namespace Sys2Proof.Machine

def State.sdciPort (s : State) (n : Fin 8) : SdciPort := s.sdci[n]
def State.setSdci (s : State) (n : Fin 8) (p : SdciPort) : State := { s with sdci := s.sdci.set n p }
def State.updSdci (s : State) (n : Fin 8) (f : SdciPort → SdciPort) : State := s.setSdci n (f (s.sdciPort n))

/-- Members of SDCI_CONFIG_n, SDCI_PORT_n and SDCI_STATUS_n (R383). -/
def State.sdciCfg (s : State) (n : Fin 8) (j : Nat) : Nat := s.val (0x4200 + n.val) j
def State.sdciSet (s : State) (n : Fin 8) (j : Nat) : Nat := s.val (0x4210 + n.val) j
def State.sdciStat (s : State) (n : Fin 8) (j : Nat) : Nat := s.val (0x4218 + n.val) j
def State.setSdciStat (s : State) (n : Fin 8) (j v : Nat) : State := s.setVal (0x4218 + n.val) j v
def State.sdciCount (s : State) (n : Fin 8) (j : Nat) : State := s.bump (0x4218 + n.val) j

/-- PORT_STATE (R361). -/
def State.sdciState (s : State) (n : Fin 8) : Nat := s.sdciStat n 1

def sdciBase (n : Fin 8) : Nat := 0x10200000 + 0x10000 * n.val

/-! ### Events (R365) -/

/-- Enter an event in the log of 16 (R365). -/
def State.logEvent (s : State) (n : Fin 8) (qualifier flags code node ns : Nat) : State :=
  let p := s.sdciPort n
  if 16 ≤ p.log.length then s.sdciCount n 0xD
  else
    let e := leNat (leBytes 4 (ns % 1000000000) ++ leBytes 6 (ns / 1000000000) ++ leBytes 1 qualifier ++ leBytes 1 flags ++
      leBytes 2 code ++ leBytes 2 node)
    (s.setSdci n { p with log := p.log ++ [e] }).sdciCount n 0xC

/-- An event of the port itself or of its device: logged, and sent to a bound tunnel endpoint of KIND 3 (R289, R365). -/
def State.sdciEvent (s : State) (n : Fin 8) (qualifier : Nat) (isMaster : Bool) (code ns : Nat) : State :=
  let b := if isMaster then 1 else 0
  let s1 := s.logEvent n qualifier b code 0 ns
  match s1.endpointOf 3 n.val with
  | some e => s1.tunnelIn e 0 ns (beBytes 1 qualifier ++ beBytes 1 b ++ beBytes 2 code ++ beBytes 4 0) true true
  | none => s1

/-- A master event; the qualifier that its entry holds is open (DESIGN CHOICE, log entry 36). -/
def State.masterEvent (s : State) (n : Fin 8) (code : Nat) : State := 
  s.sdciEvent n (Config.masterQualifier code).toNat true code s.nowNs

/-! ### L+ and C/Q (R367, R368) -/

/-- L_PLUS_STATE: 0 off, 1 on, 3 tripped or cut, 4 reduced. -/
def State.lPlusState (s : State) (n : Fin 8) : Nat :=
  let p := s.sdciPort n
  if p.trip || p.cut then 3 else if p.driven then (if s.dio.reduced then 4 else 1) else 0

/-- Drive the L+ pad as L_PLUS commands, whatever PORT_MODE (R446), less trips, cuts and a lost supply; in S3, where PD6 is off (R471),
it is off (DEDUCED, log entry 119). -/
def State.syncL (s : State) (n : Fin 8) : State :=
  let p := s.sdciPort n
  let new := s.sdciSet n 1 == 1 && !p.trip && !p.cut && !s.dio.fieldOff && s.val 0x7000 3 != 3
  let s1 := if new = p.driven then s else (s.drive (.pad (78 + n.val) new)).setSdci n { p with driven := new }
  s1.setSdciStat n 8 (s1.lPlusState n)

/-- Drive C/Q in DQ mode: PD_OUT byte 0 bit 0, or DQ_SAFE in the safe state; not as a standby (R363, R368). -/
def State.syncCq (s : State) (n : Fin 8) : State :=
  let p := s.sdciPort n
  let want := if s.safe then (match s.sdciCfg n 8 with
      | 1 => true
      | 2 => p.cq
      | _ => false)
    else p.pdOut.testBit 0
  if s.sdciState n != 3 || !s.drives then
    (if p.cqOut then (s.drive (.padOff (70 + n.val))).setSdci n { p with cqOut := false } else s)
  else if p.cqOut && want = p.cq then s
  else (s.drive (.pad (70 + n.val) want)).setSdci n { p with cq := want, cqOut := true }

/-- The state of the port on its line: PORT_STATE, or as a standby the state it follows (R361, R368). -/
def State.sdciPhase (s : State) (n : Fin 8) : Nat := if s.sdciState n = 9 then (s.sdciPort n).followed else s.sdciState n

/-- The state on the line changes; PORT_STATE of a standby stays STANDBY. -/
def State.setPhase (s : State) (n : Fin 8) (v : Nat) : State :=
  if s.sdciState n = 9 then s.updSdci n fun p => { p with followed := v } else s.setSdciStat n 1 v

/-- An ISDU in progress ends as aborted (R364). -/
def State.abortIsdu (s : State) (n : Fin 8) : State :=
  if (s.sdciPort n).isdu = 1 then (s.updSdci n fun p => { p with isdu := 5 }).disarm (.isdu n) else s

/-- The port runs its start-up under its configuration (R361, R362, R367). -/
def State.sdciStart (s : State) (n : Fin 8) : State :=
  let s1 := (((s.abortIsdu n).disarm (.sdciRetry n)).updSdci n fun p => { p with
    taken := none, restart := false, inValid := false, followed := 4 }).syncL n
  let mode := s1.sdciCfg n 1
  let st := if mode = 0 || s.isolated (24 + n.val) then 0 else if !(s1.sdciPort n).driven then 1 else if !s1.drives && mode = 1 then 9
    else if mode = 1 then 4 else mode
  let len := if mode = 2 then 1 else 0
  let lenO := if mode = 3 then 1 else 0
  ((((s1.setSdciStat n 1 st).setSdciStat n 2 0).setSdciStat n 6 len).setSdciStat n 7 lenO).syncCq n

/-- A configuration set answered OK: at the end of the M-sequence in progress, or at once (R362). -/
def State.commitSdci (s : State) (n : Fin 8) : State :=
  if (s.sdciPort n).taken.isSome then s.updSdci n fun p => { p with restart := true }
  else (s.applySet (0x4208 + n.val)).sdciStart n

/-- The consistency check of a configuration set (R362). -/
def State.sdciSetOk (s : State) (n : Fin 8) (set : List (Nat × Nat)) : Bool :=
  let v (j : Nat) : Nat := s.setValue set (0x4200 + n.val) j
  (v 3 == 0 || (v 4 != 0 && v 5 != 0)) && (v 3 != 2 || v 6 != 0)

/-! ### Process data (R363) -/

/-- The SDCI flow payload. -/
def State.sdciPayload (s : State) (n : Fin 8) : List Byte :=
  let p := s.sdciPort n
  let len := s.sdciStat n 6
  beBytes 6 (p.inNs / 1000000000) ++ beBytes 4 (p.inNs % 1000000000) ++ beBytes 1 n.val ++
    beBytes 1 (if p.inValid then 1 else 0) ++ beBytes 1 len ++ beBytes 3 0 ++ leBytes len p.pdIn

/-- Originate PD_IN on the port's flow. -/
def State.sdciFlow (s : State) (n : Fin 8) : State :=
  if s.sdciSet n 2 = 0xFFFF then s
  else s.routeFlow (.sdci n) (s.sdciSet n 2) (s.sdciPayload n) (0x4218 + n.val) 0xF

/-- PD_IN as an M-sequence or the DI filter leaves it, with the flow of PD_FLOW_MODE 1 and 2. -/
def State.takePdIn (s : State) (n : Fin 8) (data : Nat) (valid cyclic : Bool) (ns : Nat) : State :=
  let p := s.sdciPort n
  let changed := data != p.pdIn || valid != p.inValid
  let s1 := s.setSdci n { p with pdIn := data, inValid := valid, inNs := ns }
  if (s.sdciSet n 3 = 1 && cyclic) || (s.sdciSet n 3 = 2 && changed) then s1.sdciFlow n else s1

/-- PD_FLOW_MODE 3: at each ring cycle boundary. -/
def State.sdciBoundary (s : State) : State :=
  (List.finRange 8).foldl (fun (t : State) n => if t.sdciSet n 3 = 3 && t.sdciCfg n 1 != 0 then t.sdciFlow n else t) s

/-- M_SEQUENCE_START (R363): PD_OUT and VALID are taken whole; VALID is 0 in the safe state. -/
def execMSequenceStart (n : Fin 8) (s : State) : Outc :=
  done (if (4 ≤ s.sdciState n && s.sdciState n ≤ 6) || s.sdciState n = 9 then
    let p := s.sdciPort n
    let valid := p.outValid && !s.safe
    let s1 := s.setSdci n { p with taken := some (p.pdOut, valid) }
    if s.sdciState n = 6 && s.drives then
      s1.drive (.bus (16 + n.val) (leBytes (s.sdciStat n 7) p.pdOut ++ [if valid then 1#8 else 0#8]))
    else s1
  else s)

/-- The identity passes VALIDATION (R360, R362): 1 vendor and device, 2 the serial too. -/
def State.sdciValid (s : State) (n : Fin 8) (d : SdciDevice) : Bool :=
  let v := s.sdciCfg n 3
  (v == 0 || (s.sdciCfg n 4 == d.vendor.toNat && s.sdciCfg n 5 == d.device.toNat)) &&
    (v != 2 || s.sdciCfg n 6 == leNat (d.serial.takeWhile fun b => b != 0#8))

/-- Data storage at start-up (R366). -/
def State.dsStartup (s : State) (n : Fin 8) (d : SdciDevice) : State :=
  let backup := s.sdciCfg n 7
  match (s.sdciPort n).ds with
  | none => if backup = 1 then s.setSdciStat n 0xA 2 else s
  | some x =>
    if x.vendor = d.vendor.toNat && x.device = d.device.toNat then
      (if (backup = 1 || backup = 2) && x.checksum != d.checksum.toNat && s.drives then
         s.drive (.bus (16 + n.val) x.data) else s)
    else if backup = 1 then ((s.updSdci n fun p => { p with ds := none }).setSdciStat n 0xA 2).noteSave
    else if backup = 2 then s.masterEvent n 0xFF14
    else s

/-- The device is identified at the end of start-up: validation, then PREOPERATE with data storage. A standby follows (R368). -/
def State.sdciIdentified (s : State) (n : Fin 8) (d : SdciDevice) : State :=
  if s.sdciPhase n != 4 && s.sdciPhase n != 8 then s
  else
    let cycle := max (s.sdciCfg n 2) d.minCycle
    let s1 := ((((s.setSdciStat n 2 d.com.val).setSdciStat n 4 d.vendor.toNat).setSdciStat n 5 d.device.toNat).setSdciStat n 3
      cycle).setSdciStat n 6 d.pdIn.val
    let s2 := s1.setSdciStat n 7 d.pdOut.val
    if s2.sdciValid n d then (s2.setPhase n 5).dsStartup n d
    else if s2.sdciState n = 9 then s2.setPhase n 8
    else
      ((s2.setSdciStat n 1 8).raise (0x50 + n.val) 2 contained (packArg [i16 n.val, i32 d.device.toNat])).masterEvent n 0xFF11

/-- A device asks for an upload: at most one in 60 s (R366). -/
def State.dsRequest (s : State) (n : Fin 8) : State :=
  if s.sdciCfg n 7 != 1 then s
  else
    let start := (s.updSdci n fun p => { p with dsLast := some s.uptime }).setSdciStat n 0xA 2
    match (s.sdciPort n).dsLast with
    | some t => if s.uptime < t + secs 60 then (s.setSdciStat n 0xA 3).arm (.dsUpload n) (t + secs 60 - s.uptime) else start
    | none => start

/-- What an M-sequence brings beyond process data. -/
def State.sdciStep (s : State) (n : Fin 8) (k : SdciStep) : State :=
  match k with
  | .identified d => s.sdciIdentified n d
  | .operate => if s.sdciPhase n = 5 then s.setPhase n 6 else s
  | .uploadRequest => if s.sdciPhase n = 5 || s.sdciPhase n = 6 then s.dsRequest n else s
  | .uploadDone c data =>
    if s.sdciStat n 0xA = 2 then
      ((s.updSdci n fun p => { p with
        ds := some ⟨s.sdciStat n 4, s.sdciStat n 5, c.toNat, data.take 2048⟩ }).setSdciStat n 0xA 1).noteSave
    else s

/-- M_SEQUENCE_END (R363, R365): at `ns`, with PD_IN and VALID where it carries them, the device's event and what else it
brings. -/
def execMSequenceEnd (n : Fin 8) (ns : Nat) (pd : Option (List Byte × Bool)) (event : Option (BitVec 8 × BitVec 16))
    (step : Option SdciStep) (s : State) : Outc :=
  done (if !((4 ≤ s.sdciState n && s.sdciState n ≤ 6) || s.sdciState n = 8 || s.sdciState n = 9) then s
  else
    let s1 := s.updSdci n fun p => { p with taken := none }
    let s2 := match pd with
      | some (b, v) => if s.sdciPhase n = 6 then s1.takePdIn n (leNat (b.take (s.sdciStat n 6))) v true ns else s1
      | none => s1
    let s3 := match event with
      | some (q, c) => s2.sdciEvent n q.toNat false c.toNat ns
      | none => s2
    let s4 := match step with
      | some k => s3.sdciStep n k
      | none => s3
    if (s4.sdciPort n).restart then (s4.applySet (0x4208 + n.val)).sdciStart n else s4)

/-- SIO_DI_CHANGE (R363): a level that has persisted for 100 µs at C/Q, at `ns`. -/
def execSioDiChange (n : Fin 8) (level : Bool) (ns : Nat) (s : State) : Outc :=
  done (if s.sdciState n = 2 then s.takePdIn n (if level then 1 else 0) true false ns else s)

/-- PD_OUT_DELIVER (R363, R368). -/
def execPdOutDeliver (n : Fin 8) (payload : List Byte) (s : State) : Outc :=
  let len := beAt payload 12 1
  done (if s.safe || payload.length < 16 || len != s.sdciStat n 7 || payload.length != 16 + len then s.sdciCount n 0xF
  else
    (s.updSdci n fun p => { p with pdOut := leNat (payload.drop 16), outValid := (beAt payload 11 1).testBit 0 }).syncCq n)

/-! ### The window (R350, R363, R364) -/

/-- Bytes past the end of a response are kept from the buffer. -/
def sdciMapped (p : Nat) : Bool :=
  p < 0x30 || (0x40 ≤ p && p < 0x64) || (0x80 ≤ p && p < 0x84) || (0x100 ≤ p && p < 0x10C) || (0x200 ≤ p && p < 0x2E8) ||
    (0x400 ≤ p && p < 0x508)

/-- A write of ISDU_CMD (R364): it starts an ISDU; without communication it ends as aborted (DESIGN CHOICE, log entry 36). -/
def State.startIsdu (s : State) (n : Fin 8) (v : Nat) : State × Result :=
  if (s.sdciPort n).isdu = 1 then (s, .inUse)
  else if s.sdciState n = 5 || s.sdciState n = 6 then
    let p := s.sdciPort n
    let out := if v.testBit 7 then leBytes p.isduOut p.isduData else []
    (((s.drive (.bus (16 + n.val) (beBytes 4 (v - v % 128) ++ out))).setSdci n { p with
      isdu := 1, isduCmd := v - v % 128, isduLen := 0, isduErr := 0 }).arm (.isdu n) (secs 5), .ok)
  else (s.updSdci n fun p => { p with isdu := 5, isduCmd := v - v % 128, isduLen := 0, isduErr := 0 }, .ok)

/-- EV_POP (R363): n in bits 4 to 0. -/
def State.evPop (s : State) (n : Fin 8) (word : Nat) : State × Result :=
  let p := s.sdciPort n
  let v := word % 32
  if p.log.length < v then (s, .range)
  else (s.setSdci n { p with log := p.log.drop v, read := (p.read + v) % 16 }, .ok)

/-- A write of the window at offset `p` of a port. Bits that the table does not list, and the read-only length of PD_OUT, change
nothing (R9; DESIGN CHOICE, log entry 113). -/
def State.sdciWindow (s : State) (n : Fin 8) (p : Nat) (bytes : List Byte) : State × Result :=
  let len := bytes.length
  let aligned := p % 4 = 0 && len % 4 = 0 && len != 0
  let v := leNat bytes
  let c := s.sdciPort n
  if !sdciMapped p then (s, .noTarget)
  else if p < 0x30 || (0x80 ≤ p && p < 0x84) || (0x108 ≤ p && p < 0x10C) || (0x400 ≤ p && p < 0x504) then (s, .readOnly)
  else if !aligned then (s, .typeLength)
  else if p < 0x64 then
    (if 0x24 < p - 0x40 + len then (s, .typeLength)
     else if s.safe then (s, .accessDenied)
     else
      let whole := imgPut (c.pdOut % 2 ^ 256 + (if c.outValid then 2 ^ 264 else 0)) (p - 0x40) len v
      let word := whole / 2 ^ 256
      ((s.setSdci n { c with pdOut := whole % 2 ^ 256, outValid := word.testBit 8 }).syncCq n, .ok))
  else if p = 0x100 then (if len = 4 then s.startIsdu n v else (s, .typeLength))
  else if p = 0x104 then
    (if len != 4 then (s, .typeLength)
     else if c.isdu = 1 then (s, .inUse)
     else if v % 256 < 1 || 232 < v % 256 then (s, .range)
     else (s.setSdci n { c with isduOut := v % 256 }, .ok))
  else if p < 0x2E8 then
    (if 232 < p - 0x200 + len then (s, .typeLength)
     else if c.isdu = 1 then (s, .inUse)
     else (s.setSdci n { c with isduData := imgPut c.isduData (p - 0x200) len v }, .ok))
  else if p = 0x504 then (if len = 4 then s.evPop n v else (s, .typeLength))
  else (s, .typeLength)

/-- PORT_WORD. -/
def State.sdciWord (s : State) (n : Fin 8) : Nat :=
  s.sdciState n + s.sdciStat n 2 * 16 + (if (s.sdciPort n).di then 64 else 0) + (if (s.sdciPort n).driven then 128 else 0)

/-- The window as read. -/
def State.sdciRead (s : State) (n : Fin 8) (p len : Nat) : Result × List Byte :=
  let c := s.sdciPort n
  let area (base : Nat) (l : List Byte) : Result × List Byte :=
    if p - base + len ≤ l.length then (.ok, (l.drop (p - base)).take len) else (.typeLength, [])
  let b (v : Bool) : Nat := if v then 256 else 0
  let sec := c.inNs / 1000000000
  let entry (i : Nat) : List Byte := leBytes 16 (c.log.getD ((i + 16 - c.read) % 16) (s.openBits (4 + i) 128))
  if !sdciMapped p then (.noTarget, [])
  else if p % 4 != 0 || len % 4 != 0 || len = 0 || 2040 < len then (.typeLength, [])
  else if p < 0x30 then
    area 0 (leBytes 32 c.pdIn ++ leBytes 4 (s.sdciStat n 6 + b c.inValid) ++ leBytes 4 (c.inNs % 1000000000) ++
      leBytes 4 sec ++ leBytes 4 (sec / 2 ^ 32 % 65536))
  else if p < 0x64 then area 0x40 (leBytes 32 c.pdOut ++ leBytes 4 (s.sdciStat n 7 + b c.outValid))
  else if p < 0x84 then area 0x80 (leBytes 4 (s.sdciWord n))
  else if p < 0x10C then
    area 0x100 (leBytes 4 (s.openWord 1) ++ leBytes 4 c.isduOut ++ leBytes 4 (c.isdu + c.isduLen * 2 ^ 8 + c.isduErr * 2 ^ 16))
  else if p < 0x2E8 then area 0x200 (leBytes 232 c.isduData)
  else if p < 0x500 then area 0x400 ((List.range 16).map entry).flatten
  else area 0x500 (leBytes 4 (c.log.length + c.read * 2 ^ 8) ++ leBytes 4 (s.openWord 2))

/-- ISDU_CMD (R364). -/
def execIsduCmd (rq : Requester) (n : Fin 8) (word : BitVec 32) (s : State) : Outc :=
  done (s.hwWrite rq (sdciBase n + 0x100) (leBytes 4 word.toNat) fun t => t.startIsdu n word.toNat)

/-- EV_POP (R363). -/
def execEvPop (rq : Requester) (n : Fin 8) (word : BitVec 32) (s : State) : Outc :=
  done (s.hwWrite rq (sdciBase n + 0x504) (leBytes 4 word.toNat) fun t => t.evPop n word.toNat)

/-- ISDU_DONE (R364): the response data, or the device's error code. -/
def execIsduDone (n : Fin 8) (error : Option (BitVec 16)) (data : List Byte) (s : State) : Outc :=
  done (if (s.sdciPort n).isdu = 1 then
    (s.updSdci n fun p => match error with
      | some e => { p with isdu := 3, isduErr := e.toNat }
      | none => { p with isdu := 2, isduLen := min 232 data.length, isduData := leNat (data.take 232) }).disarm (.isdu n)
  else s)

/-- ISDU_TIMEOUT (R364). -/
def execIsduTimeout (n : Fin 8) (s : State) : Outc :=
  done (s.onDue (.isdu n) fun t => if (t.sdciPort n).isdu = 1 then t.updSdci n fun p => { p with isdu := 4 } else t)

/-! ### Communication and supply of a port (R361, R366, R367) -/

/-- SDCI_COMM_LOST (R361). -/
def execSdciCommLost (n : Fin 8) (s : State) : Outc :=
  done (if 4 ≤ s.sdciState n && s.sdciState n ≤ 6 then
    let s1 := ((s.abortIsdu n).updSdci n fun p => { p with taken := none, inValid := false }).setSdciStat n 1 7
    (((s1.sdciCount n 0xB).raise (0x50 + n.val) 1 contained (packArg [i16 n.val])).masterEvent n 0xFF10).arm (.sdciRetry n) (secs 1)
  else if s.sdciState n = 9 then s.updSdci n fun p => { p with followed := 4, inValid := false }
  else s)

/-- SDCI_STARTUP_RETRY (R361). -/
def execSdciStartupRetry (n : Fin 8) (s : State) : Outc :=
  done (s.onDue (.sdciRetry n) fun t => if t.sdciState n = 7 then t.setSdciStat n 1 4 else t)

/-- SDCI_L_TRIP (R367). -/
def execSdciLTrip (n : Fin 8) (s : State) : Outc :=
  done (if (s.sdciPort n).driven then
    let s1 := (s.updSdci n fun p => { p with trip := true }).sdciStart n
    let s2 := ((s1.sdciCount n 0xE).raise (0x50 + n.val) 3 contained (packArg [i16 n.val])).masterEvent n 0xFF12
    s2.arm (.lRetry n) (nsec (s2.sdciSet n 4))
  else s)

/-- L_RETRY (R367). -/
def execLRetry (n : Fin 8) (s : State) : Outc :=
  done (s.onDue (.lRetry n) fun t =>
    if t.sdciSet n 1 = 1 then (t.updSdci n fun p => { p with trip := false }).sdciStart n else t)

/-- What a write of L_PLUS does: off ends a trip and a cut (R367, R378). -/
def lPlusFx (n : Fin 8) (v : Nat) (s : State) : State :=
  let s1 := s.setVal (0x4210 + n.val) 1 v
  let s2 := if v = 0 then (s1.updSdci n fun p => { p with trip := false, cut := false }).disarm (.lRetry n) else s1
  if v = s.sdciSet n 1 then s2 else s2.sdciStart n

/-- DS_UPLOAD_DEFERRED (R366). -/
def execDsUploadDeferred (n : Fin 8) (s : State) : Outc :=
  done (s.onDue (.dsUpload n) fun t =>
    if t.sdciStat n 0xA = 3 then (t.updSdci n fun p => { p with dsLast := some t.uptime }).setSdciStat n 0xA 2 else t)

/-- What a write of 1 to DS_CLEAR does (R383). -/
def dsClearFx (n : Fin 8) (s : State) : State :=
  (((s.updSdci n fun p => { p with ds := none }).setSdciStat n 0xA 0).disarm (.dsUpload n)).noteSave

/-- DS_CLEAR (R383). -/
def execDsClear (rq : Requester) (n : Fin 8) (value : List Byte) (s : State) : Outc :=
  done (s.objectWrite rq (objKey (0x4210 + n.val) 5) value fun _ t => dsClearFx n t)

/-! ### Safe state and role (R368) -/

/-- The safe state begins or ends: DQ outputs take their safe or commanded level. -/
def State.sdcisSafe (s : State) : State := (List.finRange 8).foldl State.syncCq s

/-- Ports follow the hub's role in a pair: a standby listens, and at takeover drives C/Q (R368). -/
def State.sdcisRole (s : State) : State :=
  (List.finRange 8).foldl (fun (t : State) n =>
    if t.sdciCfg n 1 != 1 then t.syncCq n
    else if !t.drives && 4 ≤ t.sdciState n && t.sdciState n ≤ 8 then
      ((t.abortIsdu n).updSdci n fun p => { p with followed := if t.sdciState n = 7 then 4 else t.sdciState n }).setSdciStat n 1 9
    else if t.drives && t.sdciState n = 9 then t.setSdciStat n 1 (t.sdciPort n).followed
    else t) s

/-- Field supply is off or back: L+ follows (R380). -/
def State.syncLs (s : State) : State :=
  (List.finRange 8).foldl (fun (t : State) n =>
    let u := t.syncL n
    if (t.sdciPort n).driven = (u.sdciPort n).driven then u else u.sdciStart n) s

/-! ### Budgets (R378) -/

/-- The highest-numbered bit of a mask below `n`. -/
def topBit (n mask : Nat) : Option Nat := ((List.range n).reverse).find? fun i => mask.testBit i

/-- Cut a DIO output. -/
def State.cutDio (s : State) (i : Nat) : State :=
  ({ s with dio := { s.dio with cut := s.dio.cut ||| 2 ^ i } } : State).syncDio

/-- Cut a sensor supply. -/
def State.cutSupply (s : State) (i : Nat) : State :=
  ({ s with dio := { s.dio with supplyCut := s.dio.supplyCut ||| 2 ^ i } } : State).syncSupply

/-- Cut the L+ of a port. -/
def State.cutL (s : State) (i : Nat) : State :=
  let n : Fin 8 := Fin.ofNat 8 i
  (s.updSdci n fun p => { p with cut := true }).sdciStart n

/-- Ports whose L+ is on. -/
def State.lPlusOn (s : State) : Nat :=
  ((List.finRange 8).filter fun n => (s.sdciPort n).driven).foldl (fun acc n => acc + 2 ^ n.val) 0

/-- The member a budget cuts first: budgets 0–3 are the DIO groups, 4 all DIO outputs, 5 L+, 6 sensor supplies, 7 the total
through VIN (the numbering of the command's operand; log entry 37). -/
def State.budgetMember (s : State) (k : Fin 8) : Option (Nat × State) :=
  let supply := (topBit 4 s.dio.supplyDriven).map fun i => (i, s.cutSupply i)
  let lplus := (topBit 8 s.lPlusOn).map fun i => (i, s.cutL i)
  let dio (mask : Nat) := (topBit 32 (s.dio.driven &&& mask)).map fun i => (i, s.cutDio i)
  match k.val with
  | 4 => dio 0xFFFFFFFF
  | 5 => lplus
  | 6 => supply
  | 7 => (supply.or lplus).or (dio 0xFFFFFFFF)
  | g => dio (0xFF * 2 ^ (8 * g))

/-- The current budgets of the two ordering codes in mA (R5, R378). -/
def State.budgetLimit (s : State) (k : Fin 8) : Nat :=
  let full := if k.val = 4 then 6000 else if k.val = 7 then 12000 else 2000
  if s.ident.variant = 1 then full * 3 / 4 else full

/-- BUDGET_CUT (R5, R378, R474): `sum` is the current measured in mA, above its budget for 2 ms or still so 100 µs after the last
cut. -/
def execBudgetCut (k : Fin 8) (sum : Fin 65536) (s : State) : Outc :=
  done (if s.combOff || decide (sum.val ≤ s.budgetLimit k) then s
  else match s.budgetMember k with
  | some (m, t) => (t.bump 0x4310 0xB).raise 0x5A 1 contained (packArg [i16 (Config.budgetNumber k).toNat, i16 m])
  | none => s)

/-! ### Reduced mode (R379) -/

/-- VIN_REDUCED_ENTER (R379): what the argument holds for entry and exit is open (DESIGN CHOICE, log entry 37). -/
def execVinReducedEnter (s : State) : Outc :=
  done (if s.dio.reduced then s
  else
    let s1 := { s with dio := { s.dio with reduced := true } }
    let s2 := (List.finRange 8).foldl (fun (t : State) n =>
      let u := t.syncL n
      if u.sdciCfg n 1 = 1 then u.masterEvent n 0xFF13 else u) s1
    (s2.setVal 0x4310 9 1).raise 0x5A 2 corrected (packArg [i16 (Config.reducedArgument true).toNat]))

/-- VIN_REDUCED_EXIT (R379). -/
def execVinReducedExit (s : State) : Outc :=
  done (if !s.dio.reduced then s
  else
    let s1 := (List.finRange 8).foldl State.syncL { s with dio := { s.dio with reduced := false } }
    (s1.setVal 0x4310 9 0).raise 0x5A 2 corrected (packArg [i16 (Config.reducedArgument false).toNat]))

end Sys2Proof.Machine
end

