-- ==== Sys2Proof/Machine/Links.lean ====
section
/-!
DEFINITION. Board links, the roles of a duplex pair and the host interface, as every later family changes them (R157 to R173,
R183, R184, R301).
-/

namespace Sys2Proof.Machine

/-- PAIR_STATE (R184). -/
def State.pairState (s : State) : Nat := s.val 0x8110 2
def State.setPairState (s : State) (n : Nat) : State := s.setVal 0x8110 2 n

/-- The node number of the partner: slot 1 holds the number after slot 0 (R163). -/
def State.partnerNode (s : State) : Nat := if s.ident.clusterId == 1 then s.node - 1 else s.node + 1

/-- Serial number of the partner (R184). -/
def State.partnerSerial (s : State) : Nat := s.val 0x8110 3

/-- Field ports, outputs and worker pins follow the member's role (R166, R170, R405). -/
def State.followRole (s : State) : State := (((s.cansRole.sersRole).sdcisRole).syncDio).syncPins

/-- A member's role changes (R170, R184). -/
def State.setRole (s : State) (n : Nat) : State :=
  if s.val 0x8110 1 = n then s else ((s.setVal 0x8110 1 n).setVal 0x8110 0xC (time80 s.ringTime)).followRole

/-- A primary gives up: FAIL to the partner, at once on the line, and it returns as standby (R169, R171). Causes: 1 supply failing, 2 chip reset
reaction, 3 lockstep or collector fault, 4 role withdrawn. -/
def State.sendFail (s : State) (cause : Nat) : State :=
  if s.val 0x8110 1 == 1 && s.dx.links[0].up then
    let b := beBytes 1 0x11 ++ beBytes 1 0 ++ beBytes 1 cause ++ beBytes 5 0
    let h := s.pairHeader b.length
    ((h.2.emit (.line .bl0 h.1.sealed b (some (frameCrc h.1.sealed b)) false)).setRole 2).setPairState 2
  else s

/-- A standby loses BL0 without a FAIL: it probes the primary over the ring (R173). -/
def State.sendProbe (s : State) : State :=
  let n := s.dx.nextProbe
  let s1 := { s with dx := { s.dx with probe := some n, nextProbe := (n + 1) % 2 ^ 32 } }
  (s1.sendRingMsg s.ring s.partnerNode
    (beBytes 1 4 ++ beBytes 1 0 ++ beBytes 8 s.ident.serial ++ beBytes 4 n ++ beBytes 1 2 ++ beBytes 1 0)).arm .probe
      (nsec (s.val 0x8110 7))

/-- MEMBERS and STATE of the cluster (R183). MEMBERS counts this hub's own slot; a wide node needs slot 0 (R159). -/
def State.refreshCluster (s : State) : State :=
  if s.dx.mode = 0 then (s.setVal 0x8100 3 0).setVal 0x8100 4 0
  else
    let joined := (List.finRange 3).filter fun k => s.dx.links[k].up
    let members := joined.foldl (fun acc k => acc ||| 2 ^ s.dx.links[k].slot) (2 ^ s.ident.clusterId)
    (s.setVal 0x8100 3 members).setVal 0x8100 4 (if s.val 0x8100 5 != 0 then 3 else
      if joined.isEmpty || (s.dx.mode = 1 && !members.testBit 0) then 2 else 1)

/-- A board link that was up is lost (R158, R173): recorded; a standby that is not DETACHED probes its primary, and a primary
is unprotected. -/
def State.linkDown (s : State) (k : Fin 3) : State :=
  if !s.dx.links[k].up then s
  else
    let serial := s.dx.links[k].serial
    let s1 := { s with dx := { s.dx with links := s.dx.links.set k {} } }
    let s2 := ((s1.refreshCluster.setVal 0x6232 (1 + k.val) 0).setVal 0x6232 (4 + k.val) 0).raise (0x1C + k.val) 1 contained
      (packArg [i64 serial])
    if k.val != 0 then s2
    else
      let s3 := ((s2.disarm .heartbeatSend).disarm .heartbeatMiss).updEgress .bl0 fun g => { g with
        local_ := g.local_.map fun q => q.filter fun f => f.hdr.typ.toNat ≠ typHopMgmt }
      if s.standby && !s.dx.failSeen && s.pairState != 4 then s3.sendProbe
      else if s.val 0x8110 1 == 1 && (s.pairState == 1 || s.pairState == 3) then s3.setPairState 2
      else s3

/-- Reset of the host interface by PERST_N, hot reset or FLR (R301): DMA rings, translation table, MSI-X state and
configuration space. -/
def State.resetHost (s : State) : State :=
  let back (t : State) (i : Nat) (subs : List Nat) : State := subs.foldl (fun u j => u.setVal i j (objDefault (objKey i j))) t
  let s1 := (List.range 8).foldl (fun t r => (back t (0x8530 + r) [1, 2, 3, 4, 5, 6, 7]).disarm (.coalesce r)) s
  let s2 := (List.range 16).foldl (fun t a => back t (0x8510 + a) [1, 2, 3, 4]) s1
  { (s2.setFlag 0x8500 4 false) with host := { s2.host with
      rings := Vector.replicate 8 {}, table := Vector.replicate 32 (0, 0, 1), pba := 0 } }

end Sys2Proof.Machine
end

