-- ==== Sys2Proof/Machine/Collector.lean ====
section
/-!
DEFINITION. The fault collector, the event recorder, the hardware safe state, block resets and management restarts (ch. 13;
R29, R30, R475).
-/

namespace Sys2Proof.Machine

/-! ### The recorder (R434 to R439) -/

/-- The recorder is UNSTABLE while it is restored, cleared or recovered (R439). -/
def Recorder.unstable (r : Recorder) : Bool := r.starting || r.ecc || r.clearing.isSome

/-- Show UNSTABLE, and count EPOCH at the start and at the end of each UNSTABLE period. -/
def State.noteUnstable (s : State) : State :=
  if s.flag 0x6010 4 == s.rcd.unstable then s else (s.setFlag 0x6010 4 s.rcd.unstable).bump 0x6010 5

/-- SEQ after one: 1 to 2^32 − 1, then 1 again (R434). -/
def nextSeqNo (n : Nat) : Nat := if n = 2 ^ 32 - 1 then 1 else n + 1

/-- The last `n` of a list. -/
def lastOf {α : Type} (n : Nat) (l : List α) : List α := l.drop (l.length - n)

/-- Write a record in BRINE: a circle of 3,840, in NOR by groups of 16 (R435, R437). -/
def State.putBrine (s : State) (r : Rec) : State :=
  let brine := lastOf 3840 (s.rcd.brine ++ [r])
  let n := s.rcd.brineCount + 1
  { (s.bump 0x6010 7) with rcd := { s.rcd with
      brine := brine, brineCount := n, norBrine := if n % 16 = 0 then brine else s.rcd.norBrine } }

/-- Take the next SEQ. -/
def State.takeSeq (s : State) : Nat × State :=
  (s.rcd.headSeq, { s with rcd := { s.rcd with headSeq := nextSeqNo s.rcd.headSeq } })

/-- Flag bit 5: recorded while UNSTABLE, or taken before the restore. -/
def State.unstableBit (s : State) : Nat := if s.rcd.unstable || s.rcd.early != 0 then 32 else 0

/-- A record of the recorder's own, written directly: CRYSTAL_CLEARED kind 1, CRYSTAL_FULL kind 2 (R435). -/
def State.ownRecord (s : State) (kind arg : Nat) (crystal : Bool) : State :=
  let q := s.takeSeq
  let r : Rec := {
    seq := q.1, time := s.ringTime, code := eventCode 1 kind,
    flags := corrected + (if crystal then 16 else 0) + q.2.unstableBit, arg := arg, suppressed := 0, link := 0 }
  if crystal then
    { (q.2.bump 0x6010 7) with rcd := { q.2.rcd with
        crystal := q.2.rcd.crystal ++ [r], norCrystal := q.2.rcd.norCrystal ++ [r] } }
  else q.2.putBrine r

/-- CRYSTAL takes records until it holds 256 and while it is not being cleared (R435). -/
def State.crystalOpen (s : State) : Bool := s.rcd.clearing.isNone && s.rcd.crystal.length < 256

/-- Write a record in its area; the 256th of CRYSTAL is followed by CRYSTAL_FULL (R435). CRYSTAL is in NOR at once, which is
within the 10 ms of R437 (DESIGN CHOICE, log entry 38). -/
def State.storeRec (s : State) (r : Rec) : State :=
  if s.crystalOpen then
    let c := s.rcd.crystal ++ [{ r with flags := r.flags + 16 }]
    let s1 := { (s.bump 0x6010 7) with rcd := { s.rcd with crystal := c, norCrystal := c } }
    if c.length = 256 then s1.ownRecord 2 0 false else s1
  else s.putBrine r

/-- A record's bytes in the window (R434). -/
def Rec.bytes (r : Rec) : List Byte :=
  leBytes 4 r.seq ++ leBytes 10 (time80 r.time) ++ leBytes 2 r.code ++ leBytes 1 r.flags ++ leBytes 1 (r.suppressed / 65536) ++
    leBytes 8 r.arg ++ leBytes 2 r.suppressed ++ leBytes 4 r.link

/-- A record as a ring payload: each field most significant byte first (R424). -/
def Rec.payload (r : Rec) : List Byte :=
  beBytes 4 r.seq ++ beBytes 10 (time80 r.time) ++ beBytes 2 r.code ++ beBytes 1 r.flags ++ beBytes 1 (r.suppressed / 65536) ++
    beBytes 8 r.arg ++ beBytes 2 r.suppressed ++ beBytes 4 r.link

/-- A collector self-fault is held (R430). -/
def State.selfFault (s : State) : Bool := s.flag 0x6000 7

/-- Rate and burst of a code (R436, R441); the default limits during a self-fault (R430). -/
def State.rateOf (s : State) (code : Nat) : Nat × Nat :=
  if s.selfFault then (10, 4)
  else match (List.range 64).find? fun k => s.val 0x6011 (k + 1) != 0 && s.val 0x6011 (k + 1) / 65536 == code with
    | some k => (bitField (s.val 0x6011 (k + 1)) 15 8, s.val 0x6011 (k + 1) % 256)
    | none => (s.val 0x6010 9, s.val 0x6010 0xA)

/-- One token: a rate of 1 record/s fills one unit of it in 2^-16 ns. -/
def tokenUnit : Nat := 1000000000 * 65536

/-- Whether a message is admitted (R436). A bucket not used yet is full (DESIGN CHOICE, log entry 39). -/
def State.admitRecord (s : State) (code cls : Nat) : Bool × State :=
  let r := s.rateOf code
  let b := (aget s.rcd.buckets code).getD ⟨tokenUnit * r.2, s.uptime⟩
  let level := min (tokenUnit * r.2) (b.tokens + r.1 * (s.uptime - b.at_))
  let has := tokenUnit ≤ level && (r.1 != 0 || cls == fatal)
  let left := if has then level - tokenUnit else level
  (has || cls == fatal, { s with rcd := { s.rcd with buckets := aput s.rcd.buckets code ⟨left, s.uptime⟩ } })

/-- A message the rate limit does not admit (R436). -/
def State.suppress (s : State) (code : Nat) : State :=
  { (s.bump 0x6010 8) with rcd := { s.rcd with
      repeats := aput s.rcd.repeats code (min (2 ^ 24 - 1) ((aget s.rcd.repeats code).getD 0 + 1)) } }

/-- Originate an admitted record on NOTIFY_ENTRY (R424). -/
def State.notify (s : State) (r : Rec) : State :=
  let e := s.val 0x6000 0xD
  if e = 0xFFFF || r.flags % 4 < s.val 0x6000 0xE then s
  else if !s.ownSend e || 16 ≤ s.waitingOf .collector || s.coreIsolated || s.combOff then s.bump 0x6000 0xF
  else s.present { org := .collector, typ := 0, entry := e, payload := r.payload }

/-- The record of a message, not yet numbered (R434). -/
def Msg.toRec (m : Msg) (seq flags suppressed link : Nat) : Rec where
  seq := seq
  time := m.time
  code := eventCode m.source m.kind
  flags := flags
  arg := m.arg
  suppressed := suppressed
  link := link

/-- A shadow whose cause record this code is now has it, by its number, or has none where it was not written (R431). -/
def State.resolveShadows (s : State) (code seq : Nat) : State :=
  { s with coll := { s.coll with
      shadows := s.coll.shadows.map fun x => if x.waits = code then { x with waits := 0, link := seq } else x } }

/-- Number and write the record of an admitted message. -/
def State.writeRecord (s : State) (m : Msg) (flags link : Nat) : Rec × State :=
  let code := eventCode m.source m.kind
  let q := s.takeSeq
  let r := m.toRec q.1 (m.cls + flags + q.2.unstableBit) ((aget s.rcd.repeats code).getD 0) link
  let s1 := { q.2 with rcd := { q.2.rcd with repeats := adel q.2.rcd.repeats code } }
  (r, (s1.storeRec r).notify r)

/-! ### Reactions (R419 to R421) -/

/-- The default mask of a class (R420). -/
def defaultMask (source cls : Nat) : Nat :=
  if cls = corrected then 0x0001 else if cls = contained then 0x0007
  else if source = 0x10 then 0x00C7 else if source = 4 then 0x0187 else 0x0087

/-- A planned management restart: causes 4 to 7 (R29). -/
def plannedRestart (cause : Nat) : Bool := inSpan 4 7 cause

/-- The mask that a message takes: the configured one, the default during a self-fault, and what some events always or never
do (R29, R419, R420, R430). -/
def State.maskOf (s : State) (m : Msg) : Nat :=
  let word := s.val (0x6100 + m.source / 128) (m.source % 128 + 1)
  let base := if s.selfFault then defaultMask m.source m.cls else bitField word (16 * m.cls + 15) (16 * m.cls)
  if m.source = 0 && (m.kind = 1 || m.kind = 3) then base ||| 0x81
  else if m.source = 2 && (m.kind = 3 || m.kind = 4) then base ||| 1
  else if m.source = 7 && m.kind ≤ 2 then base ||| 0x81
  else if m.source = 2 && m.kind ≤ 2 && plannedRestart (m.arg / 2 ^ 48) && base.testBit 7 then base - 0x80
  else base

/-- A record goes to the event stream of the USB port (R419, R500). What the tag and the target of an event hold is open
(DESIGN CHOICE, log entry 10). -/
def State.usbEvent (s : State) (r : Rec) : State :=
  if s.flag 0x7020 1 && s.flag 0x7020 2 then s.emit
    (.usb 0x82 (beBytes 2 0x0200 ++ beBytes 2 Config.usbEventTag.toNat ++ beBytes 8 (Config.usbTarget Config.usbEventTag.toNat).toNat ++
      r.bytes)) else s

/-- Management takes an event: the trap writes SNAPSHOT, any other goes to the event stream (R419, R539). -/
def State.takeEvent (s : State) (r : Rec) (trap : Bool) : State :=
  if trap then s.raise 2 5 corrected (packArg [i16 r.code, i32 r.seq]) else s.usbEvent r

/-- An event for management; during a restart up to 64 are queued (R30). -/
def State.toManagement (s : State) (r : Rec) (trap : Bool) : State :=
  if !s.mgmt.restarting then s.takeEvent r trap
  else if s.mgmt.queue.length < 64 then { s with mgmt := { s.mgmt with queue := s.mgmt.queue ++ [(r, trap)] } }
  else { (s.bump 0x6000 0xC) with mgmt := { s.mgmt with lost := s.mgmt.lost + 1 } }

/-- INT_MGMT, INT_HOST and TRAP of an admitted message (R419); they wake the hub (R473). -/
def State.interrupts (s : State) (mask : Nat) (r : Rec) : State :=
  let s0 := if mask.testBit 1 || mask.testBit 2 || mask.testBit 3 then s.wakeTo 0 else s
  let s1 := if mask.testBit 3 then s0.toManagement r true else s0
  let s2 := if mask.testBit 1 then s1.toManagement r false else s1
  if mask.testBit 2 then s2.raiseVector 9 else s2

/-- Latch a FAULT_N reaction (R428). -/
def State.latchFaultN (s : State) (mask : Nat) : State :=
  if mask.testBit 7 then ({ s.wakeTo 0 with coll := { s.coll with faultLatch := true } } : State).driveFaultN else s

/-- Steps 2 and 3 of R421: record and interrupts. The answer's number is that of the record, 0 where there is none. -/
def State.recordMsg (s : State) (m : Msg) (mask flags link : Nat) : Nat × State :=
  let code := eventCode m.source m.kind
  let a := s.admitRecord code m.cls
  if !a.1 then (0, (a.2.suppress code).resolveShadows code 0)
  else if mask.testBit 0 then
    let w := a.2.writeRecord m flags link
    (w.1.seq, (w.2.resolveShadows code w.1.seq).interrupts mask w.1)
  else (0, (a.2.resolveShadows code 0).interrupts mask (m.toRec 0 (m.cls + flags) 0 link))

/-- A message taken is counted and reaches the EVENT triggers (R417, R440). -/
def State.noteTaken (s : State) (m : Msg) : State :=
  let code := eventCode m.source m.kind
  let s1 := s.bump 0x6000 8
  let s2 := if m.cls = fatal then s1.setVal 0x6000 6 code else s1
  s2.wagFault code (inNs m.time)

/-- An event of the collector itself, written as it happens, with the interrupts and FAULT_N of its mask. Before the recorder has
been restored it waits with the other messages (R446). -/
def State.ownPlain (s : State) (kind cls arg : Nat) : Nat × State :=
  if s.rcd.starting || s.val 0x2420 5 = 7 then (0, s.raise 0 kind cls arg)
  else
  let m : Msg := ⟨0, kind, cls, arg, s.ringTime⟩
  let s1 := s.noteTaken m
  (s1.latchFaultN (s1.maskOf m)).recordMsg m (s1.maskOf m) 0 0

/-! ### The hardware safe state (R425 to R428) -/

/-- Detectors shadowed for 10 ms by entry into the safe state (R422). -/
def safeShadowCodes : List Nat :=
  (List.range 8).map (fun n => eventCode (0x40 + n) 1) ++ (List.range 8).map (fun n => eventCode (0x48 + n) 2) ++
    (List.range 8).map (fun n => eventCode (0x50 + n) 1)

/-- A cause of the safe state: 0 reaction, 1 SAFE_N, 2 partner, 3 collector self-fault (R425, R426). A member of a pair sends
SAFE to its partner (R172). -/
def State.enterSafe (s : State) (cause : Nat) : State :=
  let causes := s.val 0x6000 2 ||| 2 ^ cause
  let s0 := s.setVal 0x6000 2 causes
  if s.safe then s0
  else
    let s1 := ((s0.wakeTo 0).dioSafe).setFlag 0x6000 1 true
    let s2 := ((((s1.cansSafe).sersSafe).sdcisSafe).workersSafe).driveFaultN
    let s3 := if s2.paired then s2.sendPair (beBytes 4 0x16000000) else s2
    let w := s3.ownPlain 9 contained (packArg [i16 causes])
    w.2.openShadow safeShadowCodes (msec 10) w.1 0

/-- An event of the collector itself with every reaction of its mask but CHIP_RESET. -/
def State.ownEvent (s : State) (kind cls arg : Nat) : Nat × State :=
  let m : Msg := ⟨0, kind, cls, arg, s.ringTime⟩
  let s1 := if (s.maskOf m).testBit 8 then s.enterSafe 0 else s
  s1.ownPlain kind cls arg

/-- The safe state ends (R427): each port resumes as its chapter lays down. -/
def State.exitSafe (s : State) : State :=
  if !s.safe then s
  else
    let causes := s.val 0x6000 2
    let s1 := ((s.setVal 0x6000 2 0).setFlag 0x6000 1 false).driveFaultN
    let s2 := ((s1.cansUnsafe).sersRole).sdcisSafe
    (s2.ownEvent 10 corrected (packArg [i16 causes])).2

/-- What a write of the exit key does. In a pair the exit reaches the partner as a mirrored write (R427; DESIGN CHOICE, log
entry 40). -/
def safeExitFx (s : State) : State :=
  if !s.safe then s
  else
    let s1 := if s.paired then s.sendMirror (.dict (BitVec.ofNat 32 (objOffset (objKey 0x6000 3))) (leBytes 4 0x73616665)) else s
    s1.exitSafe

/-- SAFE_EXIT (R427). -/
def execSafeExit (rq : Requester) (value : List Byte) (s : State) : Outc :=
  done (s.objectWrite rq (objKey 0x6000 3) value fun _ t => safeExitFx t)

/-- SAFE_N_LOW (R425): the pad fell and has been low for 1 µs; or it fell for less; or it rose again. -/
def execSafeNLow (e : SafeNEdge) (s : State) : Outc :=
  done (match e with
    | .rose => { s with coll := { s.coll with safeN := true } }
    | .short => (s.ownEvent 11 contained 0).2
    | .held => ({ (s.ownEvent 11 contained 0).2 with coll := { (s.ownEvent 11 contained 0).2.coll with safeN := false } } : State).enterSafe 1)

/-- A write of 1 to FAULT_CLEAR (R428). -/
def faultClearFx (m : MasterId) (s : State) : State :=
  let s1 := ({ s with coll := { s.coll with faultLatch := false } } : State).driveFaultN
  (s1.ownEvent 12 corrected (packArg [i32 m.word])).2

/-- FAULT_CLEAR (R428). -/
def execFaultClear (rq : Requester) (value : List Byte) (s : State) : Outc :=
  done (s.objectWrite rq (objKey 0x6000 5) value fun _ t => faultClearFx rq.master t)

/-! ### Blocks (R422) -/

/-- Detectors that a reset, an isolation or a release of a block shadows. -/
def blockCodes (b : Nat) : List Nat :=
  let kinds (source n : Nat) : List Nat := (List.range n).map fun k => eventCode source (k + 1)
  if b = 0 then portShadowCodes .east
  else if b = 1 then portShadowCodes .west
  else if b ≤ 4 then kinds (0x1C + b - 2) 3 ++ (if b = 2 then [eventCode 0x20 7, eventCode 0x20 5] else [])
  else if b = 5 then [eventCode 0x1B 1, eventCode 0x1B 2, eventCode 0x10 2]
  else if b = 6 then kinds 0x10 10 ++ [eventCode 0x18 1, eventCode 0x19 1]
  else if b = 7 then kinds 5 6 ++ kinds 6 3 ++ [eventCode 0 13]
  else if b ≤ 15 then kinds (0x40 + b - 8) 6 ++ [eventCode 0x19 1]
  else if b ≤ 23 then kinds (0x48 + b - 16) 2 ++ [eventCode 0x19 1]
  else if b ≤ 31 then kinds (0x50 + b - 24) 3
  else if b = 32 then [eventCode 0x58 1, eventCode 0x5A 1]
  else if b = 33 then [eventCode 0x59 1, eventCode 0x5A 1]
  else (((List.range 32).filter fun n => n % 16 / 4 = b - 34).map fun n => eventCode (0x60 + n) 3) ++
    ((List.range 4).map fun h => eventCode (0x80 + 4 * (b - 34) + h) 1) ++ [eventCode 0x15 3]

/-- Reset-and-settle time of a block. -/
def settleTime (b : Nat) : Nat :=
  if b ≤ 4 then msec 2 else if b = 5 then msec 100 else if b = 6 then msec 5 else if b = 7 then msec 40
  else if b ≤ 15 then msec 5 else if b ≤ 23 then secs 1 else if b ≤ 31 then secs 5 else if b ≤ 33 then msec 1 else usec 10

/-- Cells, queues and resequencers are flushed; the flow table and transit stay (R422). Records that wait for NOTIFY_ENTRY
count as drops (R424). Lossless flows begin a new epoch (DEDUCED, log entry 41). -/
def State.flushCore (s : State) : State :=
  let s1 := s.addVal 0x6000 0xF (s.waitingOf .collector)
  let cut (x : Option RxFrame) : Option RxFrame := x.map fun r => { r with local_ := none }
  let s2 : State := { s1 with
    sw := { s1.sw with
      outs := s1.sw.outs.map fun g => { g with local_ := Vector.replicate 4 [] }
      reseq := [], waiting := [] }
    alarms := s1.alarms.filter fun d => match d.alarm with
      | .holdDeadline _ | .resyncIdle _ | .creditStall _ => false
      | _ => true
    east := { s1.east with rx := cut s1.east.rx }, west := { s1.west with rx := cut s1.west.rx } }
  (Output.all.foldl State.noteDrain s2).newEpochs ((s2.sw.flow.filter fun p => p.2.isDeliver && p.2.lossless).map (·.1))

/-- Workers of a cluster. -/
def clusterWorkers (c : Nat) : List (Fin 32) := (List.finRange 32).filter fun n => (clusterOf n).val == c

/-- Dictionary requests that are not answered yet when management restarts (R31): they are answered BUSY_RETRY and not applied, what they
changed being taken back at both members; one that cannot be taken back was applied before the restart and is answered so (R30; log
entry 109). -/
def State.endDictWaits (s : State) : State :=
  let dict := s.dx.mirrorWait.filter fun w => w.offset < 0x10000000
  let key (w : MirrorWait) : Nat := w.offset / 0x1000 * 256 + w.offset / 16 % 256
  let s1 : State := { s with dx := { s.dx with mirrorWait := s.dx.mirrorWait.filter fun w => 0x10000000 ≤ w.offset } }
  let s2 := dict.reverse.foldl (fun (t : State) w => match w.old with
    | some v => ((t.setVal (key w / 256) (key w % 256) v).sendMirror
        (.dict (BitVec.ofNat 32 w.offset) (leBytes (objBits (key w) / 8) v))).disarm (.mirrorAck w.number)
    | none => t.disarm (.mirrorAck w.number)) s1
  dict.foldl (fun (t : State) w => t.sharedAt w.offset fun u =>
    u.sayObj w.requester w.op (key w) w.session w.pos (if w.fixed then w.result else .busyRetry) (if w.fixed then w.data else [])) s2

/-- A management restart begins (R29 to R31): staged values are discarded and sessions end. Causes as in R29. -/
def State.beginRestart (s0 : State) (cause : Nat) : State :=
  let s := s0.endDictWaits
  let s1 : State := { s with
    mgmt := { s.mgmt with restarting := true, cause := cause }
    groups := s.groups.map fun p => (p.1, { p.2 with staged := [], owner := none })
    rs := { s.rs with pushes := [] }
    sessions := []
    alarms := s.alarms.filter fun d => match d.alarm with
      | .claim _ | .session _ => false
      | _ => true }
  let s2 := if (s.sessions.any fun x => x.key == objKey 0x2420 9 && !x.finished) && s.val 0x2420 5 == 2 then s1.losePush else s1
  s2.raise 2 1 (if plannedRestart cause then corrected else contained) (packArg [i16 cause])

/-- Reset one block (R422). -/
def State.resetBlock (s : State) (b : Nat) : State :=
  let port (p : RingPort) : State := if s.isUp p then s.requestRetrain p ⟨(s.port p).rate, false, 4⟩ else s
  if b = 0 then port .east
  else if b = 1 then port .west
  else if b ≤ 4 then s.linkDown (Fin.ofNat 3 (b - 2))
  else if b = 5 then s.resetHost
  else if b = 6 then s.flushCore
  else if b = 7 then s.beginRestart 1
  else if b ≤ 15 then
    let n : Fin 8 := Fin.ofNat 8 (b - 8)
    if s.canState n = 0 then s else (s.canGiveUp n false).canInit n
  else if b ≤ 23 then s.serCut (Fin.ofNat 8 (b - 16)) 1
  else if b ≤ 31 then s.sdciStart (Fin.ofNat 8 (b - 24))
  else if b = 32 then
    let s1 : State := { s with
      dio := { s.dio with testing := 0, tested := [] }
      alarms := s.alarms.filter fun d => match d.alarm with
        | .testEnd _ => false
        | _ => true }
    s1.syncDio
  else if b = 33 then
    let s1 := (List.finRange 4).foldl (fun (t : State) i => t.disarm (.supplyRetry i)) s
    ({ s1 with dio := { s1.dio with supplyTrip := 0 } } : State).syncSupply
  else
    let s1 := (clusterWorkers (b - 34)).foldl State.stopWorker s
    (List.finRange 16).foldl (fun (t : State) h => if h.val / 4 = b - 34 then t.setHelper h {} else t) s1

/-- What isolation makes of a block (R422), once it is marked isolated. -/
def State.holdBlock (s : State) (b : Nat) : State :=
  let port (p : RingPort) : State :=
    let s1 := if s.isUp p then s.sendHopNow p (beBytes 4 0x07000000) else s
    let s2 := ((s1.leaveUp p .down).disarm (.detect p)).disarm (.trainRetry p)
    s2.updPort p fun e => { e with failRun := 0, deferred := [], running := none }
  if b = 0 then port .east
  else if b = 1 then port .west
  else if b ≤ 4 then s.linkDown (Fin.ofNat 3 (b - 2))
  else if b = 5 then (if s.host.pcie then (s.resetHost.setVal 0x8500 2 1).setVal 0x8500 3 0 else s)
  else if b = 6 then s.flushCore
  else if b = 7 then s
  else if b ≤ 15 then
    let n : Fin 8 := Fin.ofNat 8 (b - 8)
    if s.canState n = 0 then s else (s.canGiveUp n false).canOff n
  else if b ≤ 23 then s.serCut (Fin.ofNat 8 (b - 16)) 1
  else if b ≤ 31 then s.sdciStart (Fin.ofNat 8 (b - 24))
  else if b = 32 then s
  else if b = 33 then s.syncSupply
  else
    let l := clusterWorkers (b - 34)
    s.workersSafeIn l (l.foldl (fun acc n => acc ||| s.ownedBy n) 0)

/-- Isolate a block: its outputs go to their safe values first where the table says so (R422). -/
def State.isolate (s : State) (b : Nat) : State :=
  let s1 := if b = 32 then s.dioSafe else s
  (s1.setVal 0x6001 1 (s1.val 0x6001 1 ||| 2 ^ b)).holdBlock b

/-- A released block takes up its work again (R433). -/
def State.unisolate (s : State) (b : Nat) : State :=
  let s1 := s.setVal 0x6001 1 (bitsWithout (s.val 0x6001 1) (2 ^ b))
  if b = 0 then s1.startPort .east
  else if b = 1 then s1.startPort .west
  else if b = 5 then (if s1.host.pcie && !s1.host.perst then s1.setVal 0x8500 2 2 else s1)
  else if 8 ≤ b && b ≤ 15 then
    let n : Fin 8 := Fin.ofNat 8 (b - 8)
    if s1.canCfg n 1 = 1 then s1.canInit n else s1
  else if 16 ≤ b && b ≤ 23 then s1.serSettle (Fin.ofNat 8 (b - 16))
  else if b = 33 then s1.syncSupply
  else s1

/-! ### Chip reset (R423) -/

/-- Alarms of what a chip reset leaves running: ring ports, time unit, collector and recorder. -/
def keptAlarm : Alarm → Bool
  | .detect _ | .trainRetry _ | .marginTick _ | .fallbackHold _ | .retrainStart _ | .deferredRetrain _ | .neighbour _
  | .delayReq _ | .delayResp _ | .uprateWait _ | .hopReport _ | .shadow _ | .scrub | .brine | .crystalClear | .holdover
  | .extLoss | .plan => true
  | _ => false

/-- Records of 0x1000 to 0xFFFF whose objects a chip reset leaves: ring ports, transit counters, time unit, collector and recorder, what NOR
holds, ageing. -/
def keptRecords : List (Nat × Nat) :=
  [(0x2000, 0x2021), (0x2120, 0x2120), (0x3000, 0x3020), (0x6000, 0x6001), (0x6010, 0x6011), (0x6100, 0x6107), (0x6200, 0x6240),
   (0x7010, 0x7013)]

/-- Objects of other records that a chip reset leaves: indices, subindices. They hold figures since power-on or since manufacture, and
counters that start at power-on (DEDUCED, log entry 70). -/
def keptFigures : List ((Nat × Nat) × (Nat × Nat)) :=
  [((0x1010, 0x1010), (2, 3)), ((0x1030, 0x1030), (3, 3)), ((0x2150, 0x2150), (1, 0x16)), ((0x2400, 0x2400), (7, 7)),
   ((0x2420, 0x2420), (3, 4)), ((0x3100, 0x3100), (3, 0xB)),
   ((0x3110, 0x3110), (4, 4)), ((0x4030, 0x4037), (6, 0x12)), ((0x4310, 0x4310), (9, 9)),
   ((0x5060, 0x507F), (5, 0xA)), ((0x5110, 0x5113), (4, 4)), ((0x5120, 0x512F), (0xA, 0xA)), ((0x6211, 0x6211), (6, 6)),
   ((0x7000, 0x7000), (5, 5)), ((0x7000, 0x7000), (7, 0xA)), ((0x7020, 0x7020), (1, 1)), ((0x7020, 0x7020), (4, 4)),
   ((0x8300, 0x8300), (3, 7)), ((0x8310, 0x8310), (5, 5))]

/-- Objects that a chip reset leaves. -/
def keptObject (key : Nat) : Bool :=
  let i := key / 256
  let j := key % 256
  keptRecords.any (fun r => inSpan r.1 r.2 i) || keptFigures.any fun r => inSpan r.1.1 r.1.2 i && inSpan r.2.1 r.2.2 j

/-- What a start of the hub makes of an image on its way (DESIGN CHOICE, log entry 50): one that was arriving is REFUSED, one whose
signature was being checked is checked on, and an activation that had begun is given up, but for a loader, which starts at the next
management restart. -/
def State.cutUpdate (s : State) : State :=
  let s1 := (List.finRange 2).foldl (fun (t : State) k =>
    if t.val (0x7011 + k.val) 1 = 1 then t.setVal (0x7011 + k.val) 1 8
    else if t.val (0x7011 + k.val) 1 = 4 && s.up.loader != some k then t.setVal (0x7011 + k.val) 1 3 else t) s
  let s2 := if s1.val 0x7010 2 = 1 then s1.setVal 0x7010 2 0 else s1
  { s2 with up := { s2.up with
      rx := none, dist := none, loads := [], waiting := none, starts := none, phy := none, pair := none } }

/-- Every block is reset but the ring PHYs, the transit path, the time unit, the DIO output latches, the collector and the
recorder. Start-up then runs from settings load. -/
def State.resetChip (s : State) : State :=
  let cut (x : Option RxFrame) : Option RxFrame := x.map fun r => { r with local_ := none }
  let t : State := {
    pending := s.pending, out := s.out, freeCount := s.freeCount, uptime := s.uptime, ringTime := s.ringTime
    alarms := s.alarms.filter fun d => keptAlarm d.alarm
    ident := s.ident, jtag := s.jtag
    objs := s.cutUpdate.objs.filter fun kv => keptObject kv.1
    settings := s.cutSave
    groups := (s.groups.map fun p => (p.1, ({ applyCount := p.2.applyCount } : GroupState))).filter fun p => p.2.applyCount != 0
    coll := s.coll, rcd := s.rcd
    east := { s.east with rx := cut s.east.rx }, west := { s.west with rx := cut s.west.rx }
    sw := { outs := s.sw.outs.map fun g => { g with local_ := Vector.replicate 4 [] } }
    rs := { map := s.rs.map, stored := s.rs.stored, copies := s.rs.copies, gap := s.rs.gap, released := s.uptime }
    dx := { mode := s.dx.mode, guardOpen := s.dx.guardOpen }
    tu := { s.tu with caps := Vector.replicate 64 {} }
    dio := { s.dio with testing := 0, tested := [], pulseEnd := [] }
    wu := { pinLevel := s.wu.pinLevel, pinDir := s.wu.pinDir, padLevel := s.wu.padLevel, padDir := s.wu.padDir }
    sdci := s.sdci.map fun p => { driven := p.driven, cq := p.cq, trip := p.trip, ds := p.ds, dsLast := p.dsLast }
    hm := s.hm, pw := { spent := s.pw.spent, last := s.uptime }
    up := s.cutUpdate.up }
  let t1 := ((t.setVal 0x2420 1 3).setVal 0x2420 2 3).bump 0x2420 3
  if t.rs.map.version != 0 then t1.setMap t.rs.map else t1

/-- CHIP_RESET ordered by the event of a code, whose record has a number or 0 (R423). -/
def State.chipReset (s : State) (code seq : Nat) : State :=
  let s1 := (s.ownPlain 14 contained (packArg [i16 code, i32 seq])).2
  ((s1.sendFail 2).enterSafe 0).resetChip

/-- An event of the collector itself with every reaction of its mask. -/
def State.ownFull (s : State) (kind cls arg : Nat) : Nat × State :=
  let m : Msg := ⟨0, kind, cls, arg, s.ringTime⟩
  let w := s.ownEvent kind cls arg
  if (s.maskOf m).testBit 6 then (w.1, w.2.chipReset (eventCode 0 kind) w.1) else w

/-! ### Messages (R417, R421, R431, R432) -/

/-- The active shadow that covers a message's detector, the latest of several. A shadow's own cause is not covered by it. -/
def State.shadowOf (s : State) (code : Nat) : Option Shadow :=
  s.coll.shadows.reverse.find? fun x => x.codes.contains code && x.waits != code

/-- Resets of a block that still count towards escalation: those of the last 10 s (R432). -/
def State.recentResets (s : State) (b : Nat) : List (Nat × Nat) :=
  s.coll.resets.filter fun r => r.1 == b && s.uptime ≤ r.2 + secs 10

/-- A reset of this block was already ordered in this tick (R432). -/
def State.mergedReset (s : State) (b : Nat) : Bool := s.coll.resets.any fun r => r.1 == b && r.2 / tickUnits == s.uptime / tickUnits

/-- The block that a message's mask orders to be reset. -/
def State.resetOrdered (s : State) (m : Msg) (mask : Nat) : Option Nat :=
  match blockOf m.source with
  | some b => if mask.testBit 4 && !mask.testBit 5 && !s.isolated b && !s.mergedReset b then some b else none
  | none => none

/-- The reset would be the third within 10 s, and is turned into an isolation (R432, R434); block 7 has none. -/
def State.escalates (s : State) (m : Msg) (mask : Nat) : Bool :=
  match s.resetOrdered m mask with
  | some b => b != 7 && 2 ≤ (s.recentResets b).length
  | none => false

/-- Isolate a block on behalf of an event, with its record and its shadow (R422, R431). -/
def State.isolateFor (s : State) (b code seq : Nat) : State :=
  if s.isolated b then s
  else
    let w := s.ownFull 7 contained (packArg [i16 b, i16 code, i32 seq])
    (w.2.isolate b).openShadow (blockCodes b) (settleTime b) w.1 0

/-- Reset a block on behalf of an event, or isolate it in place of a third reset (R422, R431, R432). -/
def State.resetFor (s : State) (b code seq : Nat) : State :=
  let s0 : State := { s with coll := { s.coll with
    resets := (s.coll.resets.filter fun (r : Nat × Nat) => s.uptime ≤ r.2 + secs 10) ++ [(b, s.uptime)] } }
  if 2 ≤ (s.recentResets b).length then
    let s1 := ((s0.ownFull 5 fatal (packArg [i16 b, i16 code])).2).bump 0x6000 0xB
    if b = 7 then s1.chipReset code seq else s1.isolateFor b code seq
  else
    let w := s0.ownFull 6 corrected (packArg [i16 b, i16 code, i32 seq])
    ((w.2.bump 0x6001 3).resetBlock b).openShadow (blockCodes b) (settleTime b) w.1 0

/-- Take one message: its shadow, or its reactions in the order of R421. -/
def State.takeMessage (s : State) (m : Msg) : State :=
  let code := eventCode m.source m.kind
  let s0 := s.noteTaken m
  let mask := s0.maskOf m
  match s0.shadowOf code with
  | some x => (((s0.bump 0x6000 0xA).recordMsg m 1 4 x.link)).2
  | none =>
    let s1 := (if mask.testBit 8 then s0.enterSafe 0 else s0).latchFaultN mask
    let w := s1.recordMsg m mask (if s0.escalates m mask then 8 else 0) 0
    let s2 := match blockOf m.source with
      | some b =>
        if mask.testBit 5 then (w.2.wakeTo 0).isolateFor b code w.1
        else if (w.2.resetOrdered m mask).isSome then (w.2.wakeTo 0).resetFor b code w.1 else w.2
      | none => w.2
    if mask.testBit 6 then s2.chipReset code w.1 else s2

/-- COLLECTOR_MESSAGE (R417): the message at the head of the queue. Until the recorder has been restored the messages wait
(R446). When the queue has room again after an overrun, MESSAGE_OVERRUN is written. -/
def execCollectorMessage (s : State) : Outc :=
  done (if s.rcd.starting then s
  else match s.coll.queue with
    | [] => s
    | m :: l =>
      let lost := s.coll.overrunRun
      let s1 := ({ s with coll := { s.coll with queue := l, overrunRun := 0 } } : State).takeMessage m
      let s2 : State := { s1 with rcd := { s1.rcd with early := s1.rcd.early - 1 } }
      if lost = 0 then s2 else (s2.ownFull 4 corrected (packArg [i32 lost])).2)

/-- CONFIG_SCRUB (R429, R430): what a check of the configuration finds. -/
def execConfigScrub (found : ScrubResult) (s : State) : Outc :=
  let selfFault (kind arg : Nat) : State :=
    let s1 := s.setFlag 0x6000 7 true
    let s2 := ((s1.sendFail 3).enterSafe 3).latchFaultN 0x80
    (s2.ownFull kind fatal arg).2
  done (match found with
    | .clean => s
    | .fixed copy word => (s.ownFull 2 corrected (packArg [i16 copy.val, i16 word])).2
    | .uncorrectable copy word => selfFault 3 (packArg [i16 copy.val, i16 word])
    | .mismatch word => selfFault 1 (packArg [i16 word]))

/-- A detector that two shadows cover stays with the later cause until the later of the two ends (R431): an earlier shadow `y` carries on for
an ended one `x` with its link. -/
def inheritShadow (x y : Shadow) : List Shadow :=
  if y.id < x.id && y.codes.any x.codes.contains then
    [{ y with codes := y.codes.filter fun c => !x.codes.contains c },
     { y with codes := y.codes.filter fun c => x.codes.contains c, link := x.link, waits := x.waits }]
  else [y]

/-- A shadow ends. -/
def State.endShadow (s : State) (id : Nat) : State :=
  let ended := s.coll.shadows.filter fun x => x.id == id
  let rest := s.coll.shadows.filter fun x => x.id != id
  { s.disarm (.shadow id) with coll := { s.coll with
      shadows := ended.foldl (fun l x => l.flatMap (inheritShadow x)) rest } }

/-- The block of a shadow whose settling is a condition, an RS-485 or SDCI port, has met it: the first idle gap, or OPERATE (R422). -/
def State.settledShadow (s : State) (id : Nat) : Bool :=
  let codes := (s.coll.shadows.filter fun x => x.id == id).flatMap (·.codes)
  let of (b : Nat) : Bool := !codes.isEmpty && codes.all (blockCodes b).contains
  ((List.range 8).any fun n => of (16 + n)) || ((List.finRange 8).any fun n => of (24 + n.val) && s.sdciState n == 6)

/-- SHADOW_END (R422, R431): at its time, or where `settled` the condition of an RS-485 or SDCI block is met: the first idle
gap, or OPERATE. -/
def execShadowEnd (id : Nat) (settled : Bool) (s : State) : Outc :=
  done (if s.due (.shadow id) || (settled && s.settledShadow id) then s.endShadow id else s)

/-- A write of a block's number to RELEASE (R433). -/
def releaseFx (b : Nat) (s : State) : State :=
  let s1 : State := { s with coll := { s.coll with resets := s.coll.resets.filter fun r => r.1 != b } }
  let w := s1.ownFull 8 corrected (packArg [i16 b])
  ((w.2.unisolate b).resetBlock b).openShadow (blockCodes b) (settleTime b) w.1 0

/-- RELEASE (R433). -/
def execRelease (rq : Requester) (value : List Byte) (s : State) : Outc :=
  done (s.objectWrite rq (objKey 0x6001 2) value releaseFx)

/-! ### Recorder commands -/

/-- Serial number of a master's node, as far as this hub knows it: its own, and those the ring map holds. The spec does not say
how a hub knows another node's; else it is free (log entry 4). -/
def State.serialOf (s : State) (m : MasterId) : Nat × State :=
  if s.isLocal m then (s.ident.serial, s)
  else match s.rs.map.positions.find? fun p => p.node == m.node.val && p.serial != 0 with
    | some p => if m.ring.val = s.ring then (p.serial, s) else s.draw (2 ^ 48)
    | none => s.draw (2 ^ 48)

/-- The clear of CRYSTAL begins (R435, R439). -/
def crystalClearFx (m : MasterId) (s : State) : State :=
  if s.rcd.clearing.isSome then s
  else
    let d := s.serialOf m
    (({ d.2 with rcd := { d.2.rcd with crystal := [], clearing := some (d.1, m.num.val) } } : State).noteUnstable).arm .crystalClear
      (msec 500)

/-- CRYSTAL_CLEAR (R435). -/
def execCrystalClear (rq : Requester) (value : List Byte) (s : State) : Outc :=
  done (s.objectWrite rq (objKey 0x6010 6) value fun _ t => crystalClearFx rq.master t)

/-- CRYSTAL_CLEAR_DONE (R439): the slots and their copy in NOR are erased; CRYSTAL_CLEARED is the first record of the new
area. -/
def execCrystalClearDone (s : State) : Outc :=
  done (match s.rcd.clearing with
    | none => s
    | some (serial, num) =>
      let s1 := ({ s with rcd := { s.rcd with clearing := none, crystal := [], norCrystal := [] } } : State).noteUnstable
      (s1.disarm .crystalClear).ownRecord 1 (65536 * (serial % 2 ^ 48) + num) true)

/-- BRINE_FLUSH (R437). -/
def execBrineFlush (s : State) : Outc :=
  done (s.onDue .brine fun t => ({ t with rcd := { t.rcd with norBrine := t.rcd.brine } } : State).arm .brine (secs 10))

/-- RECORDER_ECC_RECOVERY (R439): recovery from RECORDER_ECC in a slot begins, or ends. -/
def execRecorderEccRecovery (slot : Fin 4096) (ends : Bool) (s : State) : Outc :=
  done (if ends then ({ s with rcd := { s.rcd with ecc := false } } : State).noteUnstable
    else (({ s with rcd := { s.rcd with ecc := true } } : State).noteUnstable).raise 1 3 corrected (packArg [i16 slot.val]))

/-- Records held, by SEQ (R438). -/
def State.recOf (s : State) (seq : Nat) : Option Rec := (s.rcd.crystal ++ s.rcd.brine).find? fun r => r.seq == seq

/-- A slot's bytes (R435). -/
def State.slotBytes (s : State) (i : Nat) : List Byte :=
  let r := if i < 256 then s.rcd.crystal[i]?
    else (s.rcd.brine.zipIdx.find? fun p => (s.rcd.brineCount - s.rcd.brine.length + p.2) % 3840 == i - 256).map (·.1)
  match r with
  | some x => x.bytes
  | none => leBytes 32 0

/-- Oldest SEQ in BRINE, 0 where it is empty. -/
def State.oldestSeq (s : State) : Nat := (s.rcd.brine.head?.map (·.seq)).getD 0

/-- The cursor view: `k` records from SEQ `q`, whose upper bits are those of the numbers now in use (R438). -/
def State.cursorBytes (s : State) (q k : Nat) : List Byte :=
  ((List.range k).map fun i =>
    match s.recOf ((q + i) % 2 ^ 32) with
    | some x => x.bytes
    | none => leBytes 32 0).flatten

/-- The SEQ that a cursor address names: the newest number with these 22 low bits that has been written, else the next one
(DEDUCED, log entry 42). -/
def State.cursorSeq (s : State) (low : Nat) : Nat :=
  let last := s.rcd.headSeq - 1
  let q := 2 ^ 22 * (last / 2 ^ 22) + low
  if q ≤ last then (if last < q + 2 ^ 21 || q < 2 ^ 21 then q else q + 2 ^ 22)
  else if 2 ^ 22 ≤ q && last + 2 ^ 21 < q then q - 2 ^ 22 else q

/-- A read of the recorder window (R438). While UNSTABLE, the bytes of records are free (R439). -/
def State.recorderRead (s : State) (offset len : Nat) : State × Result × List Byte :=
  let p := offset % 0x10000000
  let rows (bytes : List Byte) : State × Result × List Byte :=
    if s.rcd.unstable then
      let d := s.draw (2 ^ (8 * len))
      (d.2, .ok, leBytes len d.1)
    else (s, .ok, bytes)
  let word (v : Nat) : State × Result × List Byte :=
    if len = 4 then (s, .ok, leBytes 4 v) else (s, .typeLength, [])
  if p < 0x20000 then
    (if p % 4 ≠ 0 || len < 4 || 2016 < len || 0x20000 < p + len then (s, .typeLength, [])
     else rows ((((List.range ((p % 32 + len + 31) / 32)).map fun i => s.slotBytes (p / 32 + i)).flatten.drop (p % 32)).take len))
  else if p = 0x20000 then word s.rcd.headSeq
  else if p = 0x20004 then word s.oldestSeq
  else if p = 0x20008 then
    word ((if s.rcd.unstable then 1 else 0) + (s.rcd.crystal.length - 1) * 256 + (if s.rcd.crystal.isEmpty then 65536 else 0))
  else if p = 0x2000C then word (s.val 0x6010 5)
  else if 0x8000000 ≤ p then
    (if p % 32 ≠ 0 || len % 32 ≠ 0 || len = 0 || 2016 < len then (s, .typeLength, [])
     else rows (s.cursorBytes (s.cursorSeq (p % 0x8000000 / 32)) (len / 32)))
  else (s, .noTarget, [])

/-- A write of the recorder window (R438): READ_ONLY. -/
def State.recorderWrite (s : State) : State × Result := (s, .readOnly)

/-! ### Management restart (R29, R475) -/

/-- LOCKSTEP_MISMATCH (R29, R169): `pc` of the first core at detection. -/
def execLockstepMismatch (pc : BitVec 32) (s : State) : Outc :=
  done (((s.raise 2 3 fatal (packArg [i32 pc.toNat])).sendFail 3).beginRestart 2)

/-- WATCHDOG (R29). -/
def execWatchdog (pc : BitVec 32) (s : State) : Outc :=
  done ((s.raise 2 4 fatal (packArg [i32 pc.toNat])).beginRestart 3)

/-- MGMT_RESTART (R475): the restart starts once the write has been answered. -/
def execMgmtRestart (rq : Requester) (value : List Byte) (s : State) : Outc :=
  let r := s.writeCore rq (objKey 0x7000 6) value fun _ t => t
  let s1 := r.1.answerWrite rq 2 (objKey 0x7000 6) r.2 value
  done (if r.2 = .ok then s1.beginRestart 5 else s1)

end Sys2Proof.Machine
end

