-- ==== Sys2Proof/Machine/Pads.lean ====
section
/-!
DEFINITION. The pads of the package (ch. 17): the grid, the signal of each pad, and what an open pad reads as (R510 to R516).
-/

namespace Sys2Proof.Machine

/-- The 26 rows, from the edge nearest the pin-1 mark (R510). -/
def padRows : List String :=
  ["A", "B", "C", "D", "E", "F", "G", "H", "J", "K", "L", "M", "N", "P", "T", "U", "V", "W", "Y", "AA", "AB", "AC", "AD", "AE", "AF",
   "AG"]

/-- A place of the grid: the row's place in `padRows`, from 0, and the column, from 1 (R510). -/
structure Pad where
  row : Nat
  col : Nat
  deriving DecidableEq, Repr

/-- A pad's name, such as AG16. -/
def Pad.name (p : Pad) : String := padRows.getD p.row "" ++ toString p.col

/-- The signals (R511 to R513); of a pair, `n` is the second one, the _N or _L pad. -/
inductive PadSignal where
  | lane (p : RingPort) (n : Bool)
  | shield (p : RingPort)
  | blTx (k : Fin 3) (n : Bool)
  | blRx (k : Fin 3) (n : Bool)
  | usb (n : Bool)
  | vbus
  | cc (k : Fin 2)
  | ppsOut | perst | tck | tms | tdi | tdo | trst
  | can (k : Fin 8) (n : Bool)
  | serA (k : Fin 8)
  | serB (k : Fin 8)
  | serY (k : Fin 8)
  | serZ (k : Fin 8)
  | sdciLp (k : Fin 8)
  | sdciCq (k : Fin 8)
  | sdciDi (k : Fin 8)
  | supplyOut (k : Fin 4)
  | faultN | safeN | rstN
  | clusterId (k : Fin 2)
  | ppsIn
  | dio (k : Fin 32)
  | wp (k : Fin 32)
  deriving DecidableEq, Repr

/-- The place of a signal (R511 to R513). -/
def PadSignal.pad : PadSignal → Pad
  | .lane .east n => ⟨0, if n then 5 else 4⟩
  | .lane .west n => ⟨0, if n then 24 else 23⟩
  | .shield .east => ⟨0, 2⟩
  | .shield .west => ⟨0, 26⟩
  | .blTx k n => ⟨0, 7 + 3 * k.val + (if n then 1 else 0)⟩
  | .blRx k n => ⟨1, 7 + 3 * k.val + (if n then 1 else 0)⟩
  | .usb n => ⟨0, if n then 17 else 16⟩
  | .vbus => ⟨0, 19⟩
  | .cc k => ⟨0, 20 + k.val⟩
  | .ppsOut => ⟨1, 16⟩
  | .perst => ⟨1, 17⟩
  | .tck => ⟨1, 19⟩
  | .tms => ⟨1, 20⟩
  | .tdi => ⟨1, 21⟩
  | .tdo => ⟨1, 22⟩
  | .trst => ⟨1, 23⟩
  | .can k n => ⟨2 + 2 * k.val, if n then 25 else 26⟩
  | .serY k => ⟨2 + 2 * k.val, 24⟩
  | .serA k => ⟨3 + 2 * k.val, 26⟩
  | .serB k => ⟨3 + 2 * k.val, 25⟩
  | .serZ k => ⟨3 + 2 * k.val, 24⟩
  | .sdciLp k => ⟨2 + k.val, 1⟩
  | .sdciCq k => ⟨2 + k.val, 2⟩
  | .sdciDi k => ⟨2 + k.val, 3⟩
  | .supplyOut k => ⟨10 + k.val, 1⟩
  | .faultN => ⟨14, 1⟩
  | .safeN => ⟨14, 2⟩
  | .rstN => ⟨14, 3⟩
  | .clusterId k => ⟨15, 1 + k.val⟩
  | .ppsIn => ⟨15, 3⟩
  | .dio k => if k.val < 16 then ⟨25, k.val + 1⟩ else ⟨24, k.val - 15⟩
  | .wp k => ⟨20 + k.val / 8, 15 + k.val % 8⟩

/-- The signals of rows A and B (R512). -/
def laneSignals : List PadSignal :=
  [.lane .east false, .lane .east true, .shield .east, .lane .west false, .lane .west true, .shield .west, .blTx 0 false, .blTx 0 true,
   .blTx 1 false, .blTx 1 true, .blTx 2 false, .blTx 2 true, .blRx 0 false, .blRx 0 true, .blRx 1 false, .blRx 1 true, .blRx 2 false,
   .blRx 2 true, .usb false, .usb true, .vbus, .cc 0, .cc 1, .ppsOut, .perst, .tck, .tms, .tdi, .tdo, .trst]

/-- The signals of the CAN, RS-485 and SDCI port of a number (R513). -/
def portSignals (k : Fin 8) : List PadSignal :=
  [.can k false, .can k true, .serA k, .serB k, .serY k, .serZ k, .sdciLp k, .sdciCq k, .sdciDi k]

/-- The signals of rows T and U (R511). -/
def controlSignals : List PadSignal := [.faultN, .safeN, .rstN, .clusterId 0, .clusterId 1, .ppsIn]

/-- Every signal. -/
def allSignals : List PadSignal :=
  List.flatten [laneSignals, (List.finRange 8).flatMap portSignals, (List.finRange 4).map PadSignal.supplyOut, controlSignals,
    (List.finRange 32).map PadSignal.dio, (List.finRange 32).map PadSignal.wp]

/-- What a pad is for (R511): a signal, supply, one of the two returns, or a production test point (R514, R515). -/
inductive PadUse where
  | signal (s : PadSignal)
  | vin | pgnd | gnd | dnc
  deriving DecidableEq, Repr

/-- The use of a pad by the regions of R511. -/
def Pad.use (p : Pad) : PadUse :=
  let at_ (r0 r1 c0 c1 : Nat) : Bool := decide (r0 ≤ p.row) && decide (p.row ≤ r1) && decide (c0 ≤ p.col) && decide (p.col ≤ c1)
  match allSignals.find? fun s => s.pad == p with
  | some s => .signal s
  | none =>
    if at_ 16 23 1 8 then .vin
    else if at_ 10 13 2 3 || at_ 16 23 9 14 || at_ 24 25 17 26 || at_ 2 15 4 5 then .pgnd
    else if at_ 2 2 10 17 then .dnc
    else .gnd

/-- The level that an internal pull gives an open pad; none where it has no pull (R516). -/
def PadSignal.openLevel : PadSignal → Option Bool
  | .rstN | .safeN | .faultN | .clusterId _ | .tck | .tms | .tdi => some true
  | .ppsIn | .trst => some false
  | _ => none

/-- Transceiver pads of a CAN and an RS-485 port. -/
def busSignals (k : Fin 8) : List PadSignal := [.can k false, .can k true, .serA k, .serB k, .serY k, .serZ k]

/-- Signal pads that the hub only reads, or that serve the connectors and JTAG. -/
def inputSignals : List PadSignal :=
  List.flatten [(List.finRange 8).map PadSignal.sdciDi,
    [.safeN, .rstN, .clusterId 0, .clusterId 1, .ppsIn, .perst, .vbus, .cc 0, .cc 1, .shield .east, .shield .west, .tck, .tms, .tdi, .tdo,
     .trst]]

/-- The signal pads but the ring, board-link and USB lanes, as emissions and the boundary register of R502 number them from 0: DIO, WP,
SUPPLY_OUT, FAULT_N, PPS_OUT, C/Q, L+; from 86 the transceivers, from 134 the rest. -/
def numberedPad (i : Nat) : PadSignal :=
  if i < 32 then .dio (Fin.ofNat 32 i)
  else if i < 64 then .wp (Fin.ofNat 32 (i - 32))
  else if i < 68 then .supplyOut (Fin.ofNat 4 (i - 64))
  else if i = 68 then .faultN
  else if i = 69 then .ppsOut
  else if i < 78 then .sdciCq (Fin.ofNat 8 (i - 70))
  else if i < 86 then .sdciLp (Fin.ofNat 8 (i - 78))
  else if i < 134 then ((List.finRange 8).flatMap busSignals).getD (i - 86) .trst
  else inputSignals.getD (i - 134) .trst

end Sys2Proof.Machine
end

