-- ==== Sys2Proof/Machine/Power.lean ====
section
/-!
DEFINITION. Health monitors, margin plans, hold-up and power states (ch. 15; R73, R380).
-/

namespace Sys2Proof.Machine

/-! ### Power states (R471 to R475) -/

/-- The deepest state whose exit latency LATENCY_TOLERANCE allows (R471, R472). -/
def State.allowedState (s : State) : Nat :=
  let t := s.val 0x7000 1
  if 2500 ≤ t then 3 else if 60 ≤ t then 2 else if 6 ≤ t then 1 else 0

/-- A helper has ENABLE set (R406). -/
def State.anyHelper (s : State) : Bool := (List.range 16).any fun h => s.flag (0x5120 + h) 1

/-- The entry conditions in the order of the table of R472: bits 0–4 S1, 5–8 S2, 9–15 S3. Pair B is empty when no cell of it is in
use (R102, R104). -/
def State.powerConditions (s : State) : List Bool :=
  [s.val 0x8100 1 == 0,
   !s.pcieMode || s.host.perst,
   s.val 0x2420 5 == 4 || s.val 0x2420 5 == 5,
   !s.safe,
   s.val 0x7000 3 != 4,
   !s.isKeeper && !s.isBackup,
   s.sessions.isEmpty,
   s.settings.writing.isNone && s.val 0x7010 2 != 1 && !s.hm.planDue && !s.due .plan,
   s.usedCells.all fun c => decide (c < pairBFirst),
   (List.range 8).all fun n => !s.flag (0x4000 + n) 1 && !s.flag (0x4100 + n) 1,
   (List.range 8).all fun n => s.val (0x4200 + n) 1 == 0,
   s.dio.supply == 0,
   (s.wu.workers.toList.all fun w => w.st != 1 && w.st != 2) && !s.anyHelper,
   (List.range 4).all fun k => !s.flag (0x3200 + k) 1,
   s.val 0x3040 1 == 0 && s.val 0x3040 2 == 0,
   !s.flag 0x7020 4]

/-- Condition bits of the states up to a depth. -/
def depthBits (n : Nat) : Nat := match n with
  | 0 => 0
  | 1 => 5
  | 2 => 9
  | _ => 16

/-- The conditions of every state up to a depth hold. -/
def State.holdsTo (s : State) (n : Nat) : Bool := (s.powerConditions.take (depthBits n)).all id

/-- BLOCKERS (R472): unmet conditions of the states that the tolerance allows. -/
def State.showBlockers (s : State) : State :=
  s.setVal 0x7000 4 (((s.powerConditions.take (depthBits s.allowedState)).zipIdx.filter fun p => !p.1).foldl
    (fun acc p => acc + 2 ^ p.2) 0)

/-- Leave a state that the tolerance no longer allows or whose conditions have ceased, for the deepest one that both allow
(R473). -/
def State.powerCheck (s : State) : State :=
  let n := s.val 0x7000 3
  if 4 ≤ n then s
  else s.wakeTo (((List.range (n + 1)).filter fun k => k ≤ s.allowedState && s.holdsTo k).foldl max 0)

/-- Note since when the conditions of each depth have held; of S2 all but an empty pair B, which the controller brings about
itself (R472). -/
def State.noteConditions (s : State) : State :=
  let held (i : Fin 3) : Bool :=
    if i.val = 1 then (s.powerConditions.take 8).all id else s.holdsTo (i.val + 1)
  let since (i : Fin 3) : Option Nat := if held i then some ((s.pw.since[i]).getD s.uptime) else none
  { s with pw := { s.pw with since := Vector.ofFn since } }

/-- The conditions of a depth have held for ENTRY_DELAY. -/
def State.ripe (s : State) (i : Fin 3) : Bool :=
  match s.pw.since[i] with
  | some t => t + nsec (s.val 0x7000 2) ≤ s.uptime
  | none => false

/-- Enter S3: what the COMB holds is discarded (R474). -/
def State.enterS3 (s : State) : State :=
  let n := (Output.all.map fun o => (s.chainsAt o).length).sum
  (((s.flushCore.dropSpilled fun t _ => t.bump 0x7000 7).addVal 0x7000 7 n).setPower 3).syncLs

/-- Enter the deepest state that tolerance and conditions allow (R472). Pair B is asked to empty first; after 1 s in vain the hub
tries again after ENTRY_DELAY. -/
def State.powerEnter (s : State) : State :=
  let n := s.val 0x7000 3
  let a := s.allowedState
  if 3 ≤ n || s.pw.wakeAt.isSome then s
  else if 3 ≤ a && s.ripe 0 && s.ripe 1 && s.ripe 2 then s.enterS3
  else if 2 ≤ a && n < 2 && s.ripe 0 && s.ripe 1 then
    if s.holdsTo 2 then s.setPower 2
    else
      let s1 := if n = 1 then s else s.setPower 1
      match s1.pw.pairB with
      | none => { s1 with pw := { s1.pw with pairB := some s1.uptime }, sw := { s1.sw with pairBOff := true } }
      | some t =>
        if t + secs 1 ≤ s1.uptime then
          { s1 with
            pw := { s1.pw with pairB := none, since := s1.pw.since.set 1 (some s1.uptime) }
            sw := { s1.sw with pairBOff := false } }
        else s1
  else if 1 ≤ a && n = 0 && s.ripe 0 then s.setPower 1
  else s

/-- The exit from S3 ends: the requests held are delivered in arrival order (R474). -/
def State.powerWake (s : State) : State :=
  match s.pw.wakeAt with
  | some (t, n) =>
    if s.uptime < t then s
    else
      let woken := (s.setPower n).syncLs
      let s1 := { woken with pw := { woken.pw with held := [] } }
      s.pw.held.foldl (fun (u : State) h => u.takeRequest h.2.1 h.2.2 h.1) s1
  | none => s

/-- The worse value of a day: the lower one, or the higher one for the core and the DIO channels (R466). -/
def worse (k : Nat) (a b : Nat) : Nat := if k = 0 || inSpan 6 37 k then max a b else min a b

/-- Take a value into the present day of a margin. -/
def State.noteTrend (s : State) (k : Fin 39) (v : Nat) : State :=
  let x := s.hm.trends[k]
  { s with hm := { s.hm with trends := s.hm.trends.set k { x with today := some (match x.today with
      | some d => worse k.val d v
      | none => v) } } }

/-- The highest of the junction temperatures. -/
def hottestOf (m : Monitors) : Int := m.temps.toList.foldl max (m.temps[0])

/-- Show what the monitors measure (R462, R479, R480), and what may be raised again (R464, R468, R469). -/
def State.takeMonitors (s : State) (m : Monitors) : State :=
  let s1 := (List.finRange 6).foldl (fun (t : State) i =>
    let u := t.setVal 0x6210 (1 + i.val) (ofSigned 16 m.temps[i])
    if toSigned 16 (u.val 0x6210 (7 + i.val)) < m.temps[i] then u.setVal 0x6210 (7 + i.val) (ofSigned 16 m.temps[i]) else u) s
  let s2 := (List.finRange 48).foldl (fun (t : State) i => t.setVal 0x6220 (1 + i.val) (ofSigned 16 m.slacks[i])) s1
  let s3 := (s2.setVal 0x6211 1 m.vin).setVal 0x6211 2 m.ripple
  let s4 := (List.finRange 3).foldl (fun (t : State) i =>
    if t.dx.links[i].up then
      ((t.setVal 0x6232 (1 + i.val) m.blV[i]).setVal 0x6232 (4 + i.val) m.blH[i]).noteTrend (Fin.ofNat 39 (3 + i.val)) m.blV[i]
    else (t.setVal 0x6232 (1 + i.val) 0).setVal 0x6232 (4 + i.val) 0) s3
  let s5 := (List.finRange 32).foldl (fun (t : State) i =>
    if m.ron[i] = 0 then t else (t.setVal 0x6240 (1 + i.val) m.ron[i]).noteTrend (Fin.ofNat 39 (6 + i.val)) m.ron[i]) s4
  let calm := m.ripple * 100 < s5.val 0x6201 4 * 80
  let since : Option Nat := if calm then some (s5.hm.calmSince.getD s5.uptime) else none
  let rested := match since with
    | some t => t + secs 60 ≤ s5.uptime
    | none => false
  let rise := match s5.hm.planTemp with
    | some t => t + 100 ≤ (hottestOf m)
    | none => false
  { s5 with hm := { s5.hm with
      calmSince := since
      ripple := s5.hm.ripple && !rested
      hot := s5.hm.hot && decide ((s5.val 0x6201 3 : Int) * 10 - 50 < (hottestOf m))
      limit := s5.hm.limit && decide (1400 ≤ (hottestOf m))
      planDue := s5.hm.planDue || rise } }

/-- POWER_EVALUATION (R472, R473): every 1 ms, with what the monitors measure. -/
def execPowerEvaluation (m : Monitors) (s : State) : Outc :=
  done (let s1 := (s.takeMonitors m).countPower
    if s1.val 0x7000 3 = 4 then s1
    else (((s1.powerWake.powerCheck).noteConditions).powerEnter).showBlockers)

/-- LATENCY_TOLERANCE (R473, R474). -/
def latencyFx (v : Nat) (s : State) : State := (s.setVal 0x7000 1 v).powerCheck

def execLatencyTolerance (rq : Requester) (value : List Byte) (s : State) : Outc :=
  done (s.objectWrite rq (objKey 0x7000 1) value latencyFx)

/-! ### JTAG (R473, R502) -/

/-- What the hub drives at a numbered pad: a level, or none where the pad is high impedance or an input. -/
def State.padLevel (s : State) (i : Nat) : Option Bool :=
  match numberedPad i with
  | .dio k => some (s.dio.driven.testBit k.val)
  | .wp k => if s.wu.padDir.testBit k.val then some (s.wu.padLevel.testBit k.val) else none
  | .supplyOut k => some (s.dio.supplyDriven.testBit k.val)
  | .faultN => some (!s.flag 0x6000 4)
  | .ppsOut => some (s.tu.pps == s.flag 0x3030 5)
  | .sdciCq k => if (s.sdciPort k).cqOut then some (s.sdciPort k).cq else none
  | .sdciLp k => some (s.sdciPort k).driven
  | _ => none

/-- The level that an input brings to a numbered pad, where the hub knows it. -/
def State.padInput (s : State) (i : Nat) : Option Bool :=
  match numberedPad i with
  | .dio k => some (s.dio.driven.testBit k.val || s.dio.inRaw.testBit k.val)
  | .safeN => some s.coll.safeN
  | .perst => some (!s.host.perst)
  | .clusterId k => some (!s.ident.clusterId.testBit k.val)
  | .vbus => some (s.flag 0x7020 4)
  | _ => s.padLevel i

/-- Every pad that can drive takes the level of a source, or high impedance. -/
def State.drivePads (s : State) (level : Nat → Option Bool) : State :=
  (List.range 134).foldl (fun (t : State) i => match level i with
    | some b => t.emit (.pad i b)
    | none => t.emit (.padOff i)) s

/-- The pads as SAMPLE captures them: what the hub drives, the inputs it knows, and a free value of any other pad (log entry 114). -/
def State.samplePads (s : State) : Nat × State :=
  let d := s.draw (2 ^ 158)
  ((List.range 158).foldl (fun acc i => if (s.padInput i).getD (d.1.testBit i) then acc + 2 ^ i else acc) 0, d.2)

/-- The value of IDCODE (R502): its version is the low nibble of the hub die revision. -/
def State.idcode (s : State) : Nat := 2 ^ 28 * (s.ident.siliconRev / 256 % 16) + 0x055486B5

/-- The JTAG port takes an instruction. Pads that JTAG gives back take the hub's levels again. -/
def State.jtagTake (s : State) (i : JtagInstr) : State :=
  let t : State := { s with jtag := { s.jtag with instruction := i } }
  if s.jtag.taken && !t.jtag.taken then t.drivePads s.padLevel else t

/-- The boundary register gives the sampled pads and takes new bits. -/
def State.jtagShift (s : State) (bits : BitVec 158) : State :=
  let sample := s.samplePads
  let t := sample.2.emit (.tdo 158 sample.1)
  { t with jtag := { t.jtag with boundary := bits } }

/-- Pad levels of a boundary register. -/
def padBits (b : BitVec 158) (k : Nat) : Option Bool := some (b.getLsbD k)

/-- WAKE (R473, R502): an instruction of the JTAG port, with the bits shifted into the boundary register; WAKE alone sets a wake
request. What is shifted out is emitted. -/
def execWake (i : JtagInstr) (bits : BitVec 158) (s : State) : Outc :=
  let t := s.jtagTake i
  done (match i with
  | .wake => t.wakeTo 0
  | .bypass => t.emit (.tdo 1 0)
  | .idcode => t.emit (.tdo 32 t.idcode)
  | .samplePreload => t.jtagShift bits
  | .extest => (t.jtagShift bits).drivePads (padBits bits)
  | .clamp => (t.emit (.tdo 1 0)).drivePads (padBits t.jtag.boundary)
  | .highz => (t.emit (.tdo 1 0)).drivePads fun _ => none)

/-- VBUS_CHANGE (R473, R500): USB enumerates or detaches. -/
def execVbusChange (applied : Bool) (s : State) : Outc :=
  done (((s.setFlag 0x7020 4 applied).setFlag 0x7020 1 (applied && s.usbReady)).powerCheck)

/-! ### The margin plan (R464 to R467) -/

/-- Sum over the days of a list, the newest first, of day number times value, with the oldest as day 0. -/
def dayMoments (l : List Nat) : Int × Int :=
  ((l.reverse.zipIdx.map fun p => ((p.1 * p.2 : Nat) : Int)).sum, ((l.sum : Nat) : Int))

/-- Least-squares slope against day of `n` values, as numerator and denominator (R466). -/
def slopeOf (l : List Nat) : Int × Int :=
  let n : Int := l.length
  let m := dayMoments l
  (n * m.1 - n * (n - 1) / 2 * m.2, n * n * (n * n - 1) / 12)

/-- The days that a projection uses: the last PROJECTION_DAYS, none below 7 (R466). -/
def State.lastDays (s : State) (k : Fin 39) : Option (List Nat) :=
  let l := (s.hm.trends[k]).days.take (s.val 0x6201 6)
  if l.length < 7 then none else some l

/-- Days to a floor (R466); a margin whose floor lies above it when `up`. -/
def State.projection (s : State) (k : Fin 39) (floor : Nat) (up : Bool) : Option Nat :=
  match s.lastDays k with
  | none => none
  | some l =>
    let (num, den) := slopeOf l
    let last : Int := l.headD 0
    let gap : Int := if up then floor - last else last - floor
    if (up && num ≤ 0) || (!up && 0 ≤ num) then none
    else some ((max 0 gap * den / num.natAbs).toNat)

/-- Days in a U16 object: 0xFFFF for none. -/
def dayField (d : Option Nat) : Nat := match d with
  | some n => min 0xFFFE n
  | none => 0xFFFF

/-- MARGIN_LOW (R463, R466): kind, instance and value. -/
def State.marginLowEvent (s : State) (kind inst v : Nat) : State :=
  s.raise 4 1 contained (packArg [i16 kind, i16 inst, i32 v])

/-- The margins: trend, kind and instance as in LIFE_LIMITER, floor, floor above, object that shows the days. -/
def State.marginTable (s : State) : List (Fin 39 × Nat × Nat × Nat × Bool × Nat × Nat) :=
  [(0, 1, 0, 900, true, 0x6200, 9)] ++
    ([RingPort.east, .west].map fun p => (Fin.ofNat 39 (1 + p.num), 2, p.num, s.portVal p 0xD, false, 0x6230 + p.num, 0xB)) ++
    ((List.range 3).map fun i => (Fin.ofNat 39 (3 + i), 3, i, 25, false, 0x6232, 7 + i)) ++
    ((List.range 32).map fun i => (Fin.ofNat 39 (6 + i), 4, i, s.val 0x6201 0xA, true, 0x6240, 0x21 + i)) ++
    [(38, 5, 0, s.val 0x6201 0xB, false, 0x6200, 0xA)]

/-- Project one margin, and raise MARGIN_LOW where it is at its floor (R466). A MARGIN_LOW of the plan itself starts no further
plan (DESIGN CHOICE, log entry 45). -/
def State.projectOne (s : State) (r : Fin 39 × Nat × Nat × Nat × Bool × Nat × Nat) : State × Option (Nat × Nat) :=
  let (k, kind, inst, floor, up, index, sub) := r
  let d := s.projection k floor up
  let s1 := s.setVal index sub (dayField d)
  let x := s.hm.trends[k]
  let low := match x.today.or x.days.head? with
    | some v => if up then decide (floor ≤ v) else decide (v ≤ floor)
    | none => false
  let v := (x.today.or x.days.head?).getD 0
  (if low then s1.marginLowEvent kind inst v else s1, d.map fun n => (n, kind * 256 + inst))

/-- Project every margin, and find the smallest projection with the margin that sets it. -/
def State.projectAll (s : State) : State × Option (Nat × Nat) :=
  s.marginTable.foldl (fun (acc : State × Option (Nat × Nat)) r =>
    let w := acc.1.projectOne r
    (w.1, match acc.2, w.2 with
      | some a, some b => if b.1 < a.1 then some b else some a
      | some a, none => some a
      | none, x => x)) (s, none)

/-- LIFE and LIFE_LIMITER, and LIFE_LOW when LIFE first falls below LIFE_WARN (R466). -/
def State.takeLife (s : State) (x : Option (Nat × Nat)) : State :=
  let life := match x with
    | some (d, _) => min 0xFFFE (d * 100 / 365)
    | none => 0xFFFF
  let limiter := (x.map (·.2)).getD 0
  let s1 := (s.setVal 0x6200 7 life).setVal 0x6200 8 limiter
  let warn := s1.val 0x6201 5
  let s2 : State := { s1 with hm := { s1.hm with lifeLow := (s1.hm.lifeLow && decide (life ≤ warn)) || decide (life < warn) } }
  if life < warn && !s1.hm.lifeLow then s2.raise 4 7 contained (packArg [i16 life, i16 limiter]) else s2

/-- The day ends: its worst values become daily values (R466, R467). -/
def State.closeDay (s : State) : State :=
  { s with hm := { s.hm with trends := s.hm.trends.map fun x => match x.today with
      | some v => ⟨(v :: x.days).take 255, none⟩
      | none => x } }

/-- Daily values of a port's hop (R467). -/
def State.closePortDay (s : State) (p : RingPort) : State :=
  let e := s.port p
  let h := 0x6230 + p.num
  let crc := s.val (0x2010 + p.num) 5
  let s1 := match e.dayV, e.dayH with
    | some v, some w => ((s.setVal h 6 v).setVal h 7 w).noteTrend (Fin.ofNat 39 (1 + p.num)) v
    | _, _ => s
  (s1.setVal h 9 ((crc + 2 ^ 32 - e.crc0 % 2 ^ 32) % 2 ^ 32)).updPort p fun x => { x with dayV := none, dayH := none, crc0 := crc }

/-- Baselines (R467): the first after 24 h UP, one asked for, and one of MARGIN_V after a change of rate. -/
def State.takeBaseline (s : State) (p : RingPort) : State :=
  let e := s.port p
  let h := 0x6230 + p.num
  let day := match e.upSince with
    | some t => decide (t + secs 86400 ≤ s.uptime)
    | none => false
  if s.isUp p && (e.rebase || (s.val h 1 == 0 && day)) then
    (((((((s.setVal h 1 2).setVal h 2 (s.portVal p 9)).setVal h 3 (s.portVal p 0xA)).setVal h 4 (s.linkDelay p)).setVal h 5
      (time80 s.ringTime)).updPort p fun x => { x with rebase := false, rebaseV := false }).noteSave)
  else if s.isUp p && e.rebaseV && s.val h 1 != 0 then
    ((s.setVal h 2 (s.portVal p 9)).updPort p fun x => { x with rebaseV := false }).noteSave
  else s

/-- Drift and degradation of a hop (R467). Margins: 0 MARGIN_V, 1 MARGIN_H, 2 LINK_DELAY; their numbers are open (DESIGN CHOICE, log
entry 46). -/
def State.checkHop (s : State) (p : RingPort) : State :=
  let h := 0x6230 + p.num
  if s.val h 1 = 0 || !s.isUp p then s
  else
    let drift : Int := (s.linkDelay p : Nat) - (s.val h 4 : Nat)
    let s1 := s.setVal h 8 (ofSigned 32 drift)
    let kind : Option Nat :=
      if s1.val h 6 + s1.val 0x6201 7 < s1.val h 2 then some 0
      else if s1.val h 7 + s1.val 0x6201 8 < s1.val h 3 then some 1
      else if 65536 * s1.val 0x6201 9 < 1000 * drift.natAbs then some 2
      else none
    match kind with
    | some k =>
      if s1.val h 1 = 1 then s1
      else (s1.setVal h 1 1).raise 4 6 corrected (packArg [i16 p.num, i16 (bitField (s1.portVal p 8) 27 15),
        i16 (Config.marginKind k).toNat])
    | none => s1

/-- SLOPE_V in µV per day, rounded toward zero (R480). -/
def State.showSlope (s : State) (p : RingPort) : State :=
  match s.lastDays (Fin.ofNat 39 (1 + p.num)) with
  | some l => s.setVal (0x6230 + p.num) 0xA (ofSigned 32 ((1000 * (slopeOf l).1).tdiv (slopeOf l).2))
  | none => s.setVal (0x6230 + p.num) 0xA 0

/-- The up-rate conditions (R73). -/
def State.upratePort (s : State) (p : RingPort) : State :=
  let e := s.port p
  let long := match e.slowSince with
    | some t => decide (t + secs 86400 ≤ s.uptime)
    | none => false
  let good := !e.slowMargins.isEmpty && e.slowMargins.all fun x => decide (120 ≤ x.2.v) && decide (350 ≤ x.2.h)
  if s.isUp p && s.portVal p 3 == 1 && s.portVal p 2 == 2 && e.rate = .fallback && e.partnerRate = .full && long && good && !s.armed (.uprateWait p) then
    s.plannedRetrain p ⟨.full, false, 1⟩
  else s

/-- The core voltage of a plan (R465): the lowest step whose predicted slack meets SLACK_TARGET; an open one where none does (DESIGN
CHOICE, log entry 47). -/
def State.planVoltage (s : State) (m : PlanMeasure) : Nat :=
  match (List.finRange 37).find? fun k => decide ((s.val 0x6201 1 : Int) ≤ m.slackAt[k]) with
  | some k => 720 + 5 * k.val
  | none => 720 + 5 * (Config.unmetVoltage m.slackAt[36]).val

/-- WORST_SLACK and WORST_MONITOR from the path monitors. -/
def State.worstSlack (s : State) : Int × Nat :=
  (List.range 48).foldl (fun (acc : Int × Nat) i =>
    let v := toSigned 16 (s.val 0x6220 (1 + i))
    if v < acc.1 then (v, i) else acc) (toSigned 16 (s.val 0x6220 1), 0)

/-- Publish a drive delay that differs by 0.5 ns or more (R465). -/
def State.publishDelay (s : State) (sub : Nat) (v : Option Nat) : State :=
  match v with
  | some d => if 500 ≤ natDist d (s.val 0x3130 sub) then s.setVal 0x3130 sub d else s
  | none => s

/-- A time-stamp offset takes its measurement, by at most 20 ps in a plan (R465). -/
def towards (old new : Int) : Int := max (old - 20) (min (old + 20) new)

/-- What a plan measures and re-tunes (R465). The stamps that commands bring are those at the pads (R64, R229), already corrected by
the delays held here (log entry 120). -/
def State.planTune (s : State) (m : PlanMeasure) : State :=
  let v := s.planVoltage m
  let w := s.worstSlack
  let s1 := (((s.setVal 0x6200 3 v).setVal 0x6200 4 (ofSigned 16 w.1)).setVal 0x6200 5 w.2).noteTrend 0 v
  let s2 := (((s1.setVal 0x6211 3 m.capacitance).setVal 0x6211 4 m.esr).setVal 0x6211 5 m.holdup).noteTrend 38 m.holdup
  let s3 := (List.finRange 32).foldl (fun (t : State) i =>
    (t.publishDelay (1 + i.val) m.onDelay[i]).publishDelay (0x21 + i.val) m.offDelay[i]) s2
  { s3 with hm := { s3.hm with
      capDelay := m.capDelay
      phyTx := Vector.ofFn fun i => towards s3.hm.phyTx[i] m.phyTx[i]
      phyRx := Vector.ofFn fun i => towards s3.hm.phyRx[i] m.phyRx[i] } }

/-- A plan, from its measurements to its record. `daily` where a day ends with it. -/
def State.formPlan (s : State) (m : PlanMeasure) (daily : Bool) : State :=
  let ports (t : State) (f : State → RingPort → State) : State := f (f t .east) .west
  let s1 := s.planTune m
  let s2 := if daily then (ports s1 State.closePortDay).closeDay else s1
  let s3 := ports (ports (ports (ports s2 State.takeBaseline) State.checkHop) State.showSlope) State.upratePort
  let q := s3.projectAll
  let s4 := q.1.takeLife q.2
  let hottest := (List.range 6).foldl (fun (acc : Int) i => max acc (toSigned 16 (s4.val 0x6210 (1 + i)))) (-32768)
  let s5 : State := { (s4.bump 0x6200 1).setVal 0x6200 2 (time80 s4.ringTime) with
    hm := { s4.hm with planDue := false, planTemp := some hottest } }
  s5.raise 4 2 corrected (packArg [i16 (s5.val 0x6200 3), i16 (s5.val 0x6200 7)])

/-- MARGIN_PLAN (R464): daily or on a trigger, not during a management restart or hold-up. -/
def execMarginPlan (m : PlanMeasure) (s : State) : Outc :=
  done (if s.mgmt.restarting || s.combOff then s
  else if s.due .plan then
    (match s.deadline .plan with
    | some d => (s.armRing .plan (d.at_ + secs 86400)).formPlan m true
    | none => s)
  else if s.hm.planDue then s.formPlan m false
  else s)

/-- What a write of PLAN_NOW does. -/
def planNowFx (s : State) : State := { s with hm := { s.hm with planDue := true } }

/-- PLAN_NOW (R464). -/
def execPlanNow (rq : Requester) (value : List Byte) (s : State) : Outc :=
  done (s.objectWrite rq (objKey 0x6200 0xB) value fun _ t => planNowFx t)

/-- What a write of BASELINE_RESET does. -/
def baselineFx (p : RingPort) (s : State) : State := s.updPort p fun e => { e with rebase := true }

/-- BASELINE_RESET (R467). -/
def execBaselineReset (rq : Requester) (p : RingPort) (value : List Byte) (s : State) : Outc :=
  done (s.objectWrite rq (objKey (0x6230 + p.num) 0xC) value fun _ t => baselineFx p t)

/-- SLACK_EVENT (R463): an in-situ detector reports a slack. -/
def execSlackEvent (d : Fin 16) (slack : Int) (s : State) : Outc :=
  done (if (s.val 0x6201 2 : Int) ≤ slack then s
  else
    let v := s.val 0x6200 3
    let s1 := planNowFx ((s.setVal 0x6220 (0x21 + d.val) (ofSigned 16 slack)).bump 0x6200 6)
    if 900 ≤ v then s1.marginLowEvent 1 0 v else s1.setVal 0x6200 3 (min 900 (v + 10)))

/-- THERMAL_HIGH (R468): a sensor has been above the threshold for 1 s. -/
def execThermalHigh (sensor : Fin 6) (temp : Int) (s : State) : Outc :=
  done (if s.hm.hot || temp ≤ (s.val 0x6201 3 : Int) * 10 then s
  else ({ s with hm := { s.hm with hot := true } } : State).raise 4 3 contained (packArg [i16 sensor.val, i16 (ofSigned 16 temp)]))

/-- THERMAL_LIMIT (R468): 140 °C on the hub die. -/
def execThermalLimit (sensor : Fin 4) (temp : Int) (s : State) : Outc :=
  done (if s.hm.limit || temp < 1400 then s
  else ({ s with hm := { s.hm with limit := true } } : State).raise 4 4 fatal (packArg [i16 sensor.val, i16 (ofSigned 16 temp)]))

/-- RIPPLE_HIGH (R464, R469): the ripple has been above its limit for 10 s. -/
def execRippleHigh (mv : Nat) (s : State) : Outc :=
  done (if s.hm.ripple || mv ≤ s.val 0x6201 4 then s
  else (planNowFx { s with hm := { s.hm with ripple := true, calmSince := none } }).raise 4 5 corrected (packArg [i16 mv]))

/-! ### Field ports across a loss of their domains -/

/-- Field ports start with the configuration they have (R447, R470). -/
def State.startFieldPorts (s : State) : State :=
  let s1 := (List.finRange 8).foldl (fun (t : State) n => if t.canCfg n 1 = 1 then t.canInit n else t) s
  let s2 := (List.finRange 8).foldl State.serSettle s1
  (List.finRange 8).foldl State.sdciStart s2

/-- Program banks as the settings hold them: worker × 2 + bank, 32 words (R40, R399). -/
def banksOf (prog : List (Nat × Nat)) : List (Nat × List Nat) :=
  ((List.range 64).map fun k => (k, (List.range 32).map fun a => (aget prog (32 * k + a)).getD 0)).filter fun p =>
    p.2.any fun w => w != 0

def progOf (banks : List (Nat × List Nat)) : List (Nat × Nat) :=
  banks.foldl (fun acc p => p.2.zipIdx.foldl (fun (l : List (Nat × Nat)) w =>
    if w.1 = 0 then l else aput l (32 * p.1 + w.2) w.1) acc) []

/-- Program banks saved last. -/
def State.savedProg (s : State) : List (Nat × Nat) := match s.settings.newest with
  | some c => progOf c.banks
  | none => []

/-- Alarms of the blocks in PD1 to PD9. -/
def fieldAlarm : Alarm → Bool
  | .holdDeadline _ | .resyncIdle _ | .creditInterval _ | .creditRefresh _ | .creditStall _ | .wheel _ | .replay _ | .coalesce _
  | .workerStall _ | .testEnd _ | .supplyRetry _ | .isdu _ | .sdciRetry _ | .lRetry _ | .dsUpload _ | .heartbeatSend
  | .heartbeatMiss | .session _ => true
  | _ => false

/-- Status objects of the field ports and workers go back to their defaults. -/
def State.clearField (s : State) : State :=
  { s with objs := s.objs.filter fun kv =>
      let i := kv.1 / 256
      !(inSpan 0x4030 0x4037 i || inSpan 0x4118 0x411F i || inSpan 0x4218 0x421F i || inSpan 0x5060 0x507F i ||
        (inSpan 0x5120 0x512F i && 6 ≤ kv.1 % 256)) }

/-- PD1 to PD9 go off (R470): frames in the COMB are discarded and counted, and the state of workers, CAN, RS-485 and SDCI is
lost; the board links and USB go down with their domains. -/
def State.dropDomains (s : State) : State :=
  let s1 := Output.all.foldl (fun (t : State) o => t.addVal 0x2150 (o.num + 1)
    ((s.chainsAt o).filter fun c => !c.2.isEmpty).length)
    (s.dropSpilled fun t o => t.bump 0x2150 (o.num + 1))
  let s2 := s1.addVal 0x6000 0xF (s1.waitingOf .collector)
  let cut (x : Option RxFrame) : Option RxFrame := x.map fun r => { r with local_ := none }
  let pins := ({ s2 with wu := { s2.wu with pinDir := 0 } } : State).syncPins
  let s3 : State := { pins.clearField with
    sw := { pins.sw with
      outs := pins.sw.outs.map fun g => { g with local_ := g.local_.map fun l => l.filter fun f => f.chain.isEmpty }
      reseq := [], waiting := [], onWheel := [] }
    alarms := pins.alarms.filter fun d => !fieldAlarm d.alarm
    east := { pins.east with rx := cut pins.east.rx }, west := { pins.west with rx := cut pins.west.rx }
    can := Vector.replicate 8 {}, ser := Vector.replicate 8 {}
    sdci := pins.sdci.map fun p => { driven := p.driven, ds := p.ds, dsLast := p.dsLast }
    wu := { prog := [], padLevel := pins.wu.padLevel, padDir := pins.wu.padDir }
    dx := { pins.dx with links := Vector.replicate 3 {} }
    bridge := { pins.bridge with endpoints := Vector.replicate 32 {} }
    sessions := [] }
  let s4 := if s3.host.pcie then (s3.resetHost.setVal 0x8500 2 1).setVal 0x8500 3 0 else s3
  s4.refreshCluster

/-- Detectors that a loss of VIN shadows (R422). -/
def vinShadowCodes : List Nat :=
  [eventCode 0x58 1, eventCode 0x59 1, eventCode 0x5A 1] ++ (List.range 8).map (fun n => eventCode (0x50 + n) 1) ++
    (List.range 8).map (fun n => eventCode (0x50 + n) 3)

/-- VIN_LOST (R169, R380, R470). -/
def execVinLost (s : State) : Outc :=
  done (if s.val 0x7000 3 = 4 then s
  else
    let old := s.val 0x7000 3
    let s1 := s.sendFail 1
    let s2 := (({ s1 with dio := { s1.dio with fieldOff := true } } : State).syncDio).syncSupply
    let s3 := ((s2.syncLs.raise 0x5A 3 contained 0).openShadow vinShadowCodes 0 0 (eventCode 0x5A 3)).disarm
      (.shadow s2.syncLs.coll.nextShadow)
    let s4 := ((s3.dropDomains).bump 0x6211 6).raise 3 2 contained (packArg [i16 old])
    let s5 := s4.enterPower 4
    { s5 with pw := { s5.pw with before := old, heldAt := s5.uptime, since := Vector.replicate 3 none } })

/-- The shadow of a loss of VIN, the only one without a time, ends 10 ms after VIN has returned (R422). -/
def State.endVinShadow (s : State) : State :=
  s.coll.shadows.foldl (fun (t : State) x =>
    if !t.armed (.shadow x.id) then t.arm (.shadow x.id) (msec 10) else t) s

/-- VIN_RETURN (R380, R470): PD1–PD9, the outputs and the ports are back. The command stands for the end of the return, 1 ms to
2.5 ms after VIN rose above 6.0 V. The hub returns to the state it held at entry (DESIGN CHOICE, log entry 48). -/
def execVinReturn (s : State) : Outc :=
  done (if s.val 0x7000 3 != 4 then s
  else
    let s1 := s.setPower s.pw.before
    let s2 := s1.raise 3 3 corrected (packArg [i32 (inNs (s.uptime - s.pw.heldAt))])
    let s3 : State := { s2 with dio := { s2.dio with fieldOff := false }, wu := { s2.wu with prog := s2.savedProg } }
    let s4 := ((s3.syncDio).syncSupply).syncLs
    let s5 := if s4.host.pcie && !s4.host.perst then s4.setVal 0x8500 2 2 else s4
    let s6 := s5.newEpochs ((s5.sw.flow.filter fun p => p.2.isDeliver && p.2.lossless).map (·.1))
    s6.startFieldPorts.endVinShadow)

/-! ### Power off -/

/-- Objects whose values NOR keeps apart from the settings: start-ups and hold-ups since manufacture, update slots and the
channel images. -/
def norObject (key : Nat) : Bool :=
  key == objKey 0x2420 3 || key == objKey 0x6211 6 || inSpan 0x7011 0x7013 (key / 256) || key == objKey 0x7010 2

/-- The hub without power: what NOR holds, the module's constants, the levels at its input pads SAFE_N, PERST_N and VBUS, and the
model's own record. SEQ is kept so that the next start
can tell how many numbers are missing (R437). -/
def State.powerOff (s : State) : State :=
  { pending := s.pending, out := s.out, freeCount := s.freeCount, ident := s.ident
    objs := s.cutUpdate.objs.filter fun kv => norObject kv.1 || kv.1 == objKey 0x7020 4
    coll := { safeN := s.coll.safeN }, host := { perst := s.host.perst }
    settings := s.cutSave
    rcd := { crystal := s.rcd.norCrystal, brine := s.rcd.norBrine, norCrystal := s.rcd.norCrystal, norBrine := s.rcd.norBrine
             brineCount := s.rcd.brineCount, headSeq := s.rcd.headSeq }
    rs := { map := s.rs.map, stored := s.rs.stored, copies := s.rs.copies }
    sdci := s.sdci.map fun p => { ds := p.ds }
    up := { heads := s.up.heads, verifying := s.up.verifying, loader := s.up.loader, channels := s.up.channels, nextOrder := s.up.nextOrder, oldFw := s.up.oldFw
            oldLoader := s.up.oldLoader, oldMirror := s.up.oldMirror, oldCopy := s.up.oldCopy, loaderTrial := s.up.loaderTrial
            resetList := s.up.resetList } }

/-- HOLDUP_EXPIRY (R470): the hub stops. -/
def execHoldupExpiry (s : State) : Outc := done (if s.val 0x7000 3 = 4 then s.powerOff else s)

end Sys2Proof.Machine
end

