-- ==== Sys2Proof/Machine/Settings.lean ====
section
/-!
DEFINITION. Settings in NOR: saves, loads, defaults and the release of the node number (R40 to R43, R60, R113, R495).
-/

namespace Sys2Proof.Machine

/-! ### The persistent set (R40, R113, R240, R366, R399) -/

/-- The persistent set as it stands, with the sequence number of the next save. -/
def State.persistentSet (s : State) : SavedSet := sealSet {
  seq := (s.val 0x1010 2 + 1) % 2 ^ 32
  release := s.ident.fwVersion
  objs := s.objs.filter fun kv => keyPersistent kv.1
  flow := (s.sw.flow.filter fun p => p.2.valid).map fun p => (p.1, [p.2.w0, p.2.w1, p.2.w2, p.2.w3])
  waggles := (s.wag.entries.filter fun p => p.2.persists).map fun p => (p.1, p.2.words)
  banks := banksOf s.wu.prog
  node := s.rs.stored
  ringMap := s.rs.map
  storage := (List.finRange 8).filterMap fun n => (s.sdciPort n).ds.map fun d => (n.val, d)
  crc := 0 }

/-- A set of another hub, or of another release, as a save of this one: the next sequence number; values of another format version
are left to their defaults (R44, R454). -/
def State.adoptSet (s : State) (set : SavedSet) : SavedSet :=
  sealSet { set with
    seq := (s.val 0x1010 2 + 1) % 2 ^ 32
    release := s.ident.fwVersion
    objs := set.objs.filter fun kv => sameFormat set.release s.ident.fwVersion kv.1 }

/-- Field engines follow configuration objects that have changed without a write of their own. -/
def State.reconfigure (s old : State) : State :=
  let differs (i : Nat) (l : List Nat) : Bool := l.any fun j => s.val i j != old.val i j
  let s1 := (List.finRange 8).foldl (fun (t : State) n =>
    if t.canCfg n 1 = 0 then (if t.canState n = 0 then t else t.canWhenFree n false .off)
    else if t.canState n = 0 || differs (0x4008 + n.val) (List.range 14) then t.canInit n else t) s
  let s2 := (List.finRange 8).foldl State.serSettle s1
  let s3 := (List.finRange 8).foldl (fun (t : State) n =>
    if differs (0x4200 + n.val) (List.range 9) || differs (0x4210 + n.val) [1] then t.sdciStart n else t) s2
  let s4 := (List.range 4).foldl (fun (t : State) i =>
    if differs 0x4400 [i + 1] then t.switchSupply (2 ^ i) (t.flag 0x4400 (i + 1)) else t) s3
  let s5 := (List.range 4).foldl (fun (t : State) g => t.dioApplied g (old.val (0x4300 + g) 1)) s4
  let s6 := (List.finRange 16).foldl State.connectLine s5
  (s6.followShapers old).syncPins

/-- Load a whole persistent set over the present one (R40, R240, R446, R454): objects, flow table, waggles, program banks and
data storage. Entries saved with ARM set wait for good time. -/
def State.loadAll (s : State) (set : SavedSet) : State :=
  let s1 := s.loadSet set
  let wags := set.waggles.foldl (fun (acc : List (Nat × WagEntry)) p => aput acc p.1 { words := p.2 }) s1.wag.entries
  let arm := (set.waggles.filter fun p => (p.2.getD 0 0).testBit 31).map (·.1)
  let s2 : State := { s1 with
    wag := { s1.wag with entries := wags, toArm := arm }
    wu := { s1.wu with prog := progOf set.banks } }
  (List.finRange 8).foldl (fun (t : State) n => t.updSdci n fun p => { p with ds := aget set.storage n.val }) s2

/-! ### Saves -/

/-- A save starts (R40, R60); during a management restart it waits for the end (R113). -/
def State.startSave (s : State) : State :=
  if s.mgmt.restarting then { s.disarm .save with settings := { s.settings with held := true } }
  else ({ s.disarm .save with settings := { s.settings with writing := some s.persistentSet, again := false, held := false } } :
    State).setVal 0x1010 1 2

/-- SAVE_START (R40): 2 s after the first unsaved change; a save in progress is followed by the next. -/
def execSaveStart (s : State) : Outc :=
  done (s.onDue .save fun t =>
    if t.settings.writing.isSome then { t with settings := { t.settings with again := true } } else t.startSave)

/-- What a write of SAVE_NOW does. -/
def saveNowFx (s : State) : State :=
  if s.settings.writing.isSome then { s with settings := { s.settings with again := true } } else s.startSave

/-- SAVE_NOW (R60). -/
def execSaveNow (rq : Requester) (value : List Byte) (s : State) : Outc :=
  done (s.objectWrite rq (objKey 0x1010 5) value fun _ t => saveNowFx t)

/-- The set goes to the keeper's backup copy (R25, R40): the keeper keeps its own. -/
def State.backUp (s : State) (set : SavedSet) : State :=
  if s.isKeeper then { s with rs := { s.rs with copies := aput s.rs.copies s.node set } }
  else if s.node = 0 then s
  else s.emit (.savedSet (s.val 0x2401 1) set)

/-- A completed save is in its copy. -/
def State.storeSave (s : State) (set : SavedSet) : State :=
  let b := s.saveToB
  let s1 : State := { s with settings := if b then { s.settings with copyB := some set } else { s.settings with copyA := some set } }
  ((((s1.setVal 0x1010 2 set.seq).setVal 0x1010 3 (if b then 1 else 0)).setVal 0x1010 1 (if s1.armed .save then 1 else 0))).backUp set

/-- The set of another node has come to the keeper after that node's save (R25, R40); how it travels the spec does not say (DESIGN
CHOICE, log entry 115). -/
def State.takeSet (s : State) (node : Nat) (set : SavedSet) : State :=
  if s.isKeeper then { s with rs := { s.rs with copies := aput s.rs.copies node set } } else s

/-- SAVE_DONE (R40, R60): the save has completed, or it has failed in NOR. A restart that waits for a set follows the save that holds
it (R42, R43). With `other` it is the save of another node, whose set comes to its keeper. -/
def execSaveDone (ok : Bool) (other : Option (Fin 8192 × SavedSet)) (s : State) : Outc :=
  done (match other, s.settings.writing with
    | some x, _ => s.takeSet x.1.val x.2
    | none, none => s
    | none, some set =>
      let s1 : State := { s with settings := { s.settings with writing := none, again := false, restart := none } }
      let s2 := if ok then s1.storeSave set
        else (s1.setVal 0x1010 1 3).raise 6 1 contained (packArg [i32 set.seq])
      let s3 := match s.settings.restart with
        | some (cause, false) => s2.beginRestart cause
        | some (cause, true) => { s2 with settings := { s2.settings with restart := some (cause, false) } }
        | none => s2
      if s.settings.again then s3.startSave else s3)

/-- Save, and request a planned management restart once that save has ended (R42, R43): the next one, where a save runs already. -/
def State.saveAndRestart (s : State) (cause : Nat) : State :=
  let s1 := saveNowFx s
  { s1 with settings := { s1.settings with restart := some (cause, s.settings.writing.isSome) } }

/-- What a write of the key to RESTORE_DEFAULTS does (R42): node number, ring map and keeper copies are kept. -/
def restoreFx (s : State) : State :=
  (({ s with objs := s.objs.filter fun kv => !keyPersistent kv.1 || kv.1 == objKey 0x1001 1 } : State).reconfigure s).startPorts.saveAndRestart
    6

/-- RESTORE_DEFAULTS (R42). -/
def execRestoreDefaults (rq : Requester) (value : List Byte) (s : State) : Outc :=
  done (s.objectWrite rq (objKey 0x1010 4) value fun _ t => restoreFx t)

/-- What a write of the key to RELEASE_NUMBER does (R43). -/
def releaseNumberFx (s : State) : State :=
  let s1 := (((s.setVal 0x1001 1 0).setVal 0x1001 2 0).setVal 0x2420 5 (if s.bench then 7 else if s.val 0x2420 5 = 6 then 6 else 0)).setMap {}
  ({ s1 with rs := { s1.rs with stored := 0, copies := [], grant := none, renumber := none } } : State).saveAndRestart 7

/-- RELEASE_NUMBER (R43). -/
def execReleaseNumber (rq : Requester) (value : List Byte) (s : State) : Outc :=
  done (s.objectWrite rq (objKey 0x1001 8) value fun _ t => releaseNumberFx t)

end Sys2Proof.Machine
end

