-- ==== Sys2Proof/Machine/Update.lean ====
section
/-!
DEFINITION. The update engine (ch. 16): image headers and blocks, segmented and distributed staging, channel images, activation
of management, loader and PHY images, trial and fallback; the end of a management restart (R29, R30); KIND 0x03 of USB.
-/

namespace Sys2Proof.Machine

/-! ### Headers and blocks (R482 to R487) -/

/-- Body limit of a CLASS and TYPE pair (R482); none where the pair is not in the table. -/
def bodyLimit (cls typ : Nat) : Option Nat :=
  if cls = 1 then
    (if typ = 1 then some 262144 else if typ = 2 || typ = 3 then some 65536 else none)
  else if cls = 2 then
    (if typ = 0x10 then some 4177920 else if typ = 0x11 then some 1048576 else if typ = 0x12 then some 524288 else none)
  else none

/-- The fields of a header (R483), whose numbers are little-endian. -/
def headOf (b : List Byte) : ImageHead where
  cls := leAt b 5 1
  typ := leAt b 6 1
  keyId := leAt b 7 1
  version := leAt b 12 4
  length := leAt b 16 4
  check := leAt b 24 4
  mirrorMin := leAt b 28 1
  mirrorVersion := leAt b 29 1

/-- The first step of R484 that a header fails, 0 where it passes all. -/
def State.headerStep (s : State) (b : List Byte) : Nat :=
  let h := headOf b
  if leAt b 0 4 != 0x49354855 || leAt b 4 1 != 1 then 1
  else if crc32c (b.take 60) != leAt b 60 4 then 2
  else if leAt b 8 4 != 0x00554835 then 3
  else match bodyLimit h.cls h.typ with
    | none => 4
    | some m =>
      if m < h.length then 5
      else if s.ident.loaderVersion < leAt b 20 4 then 6
      else if leAt b 30 2 != 0 || leAt b 48 12 != 0 then 7
      else 0

/-- Blocks of a staged body (R485). -/
def ImageHead.blocks (h : ImageHead) : Nat := (h.length + 4095) / 4096

/-- First byte of the body in the stream. -/
def ImageHead.body (h : ImageHead) : Nat := if h.cls = 2 then 64 + 4 * h.blocks else 64

/-- Bytes `pos` to `pos + n - 1` of a stream, as far as they have arrived. -/
def piecesAt (l : List (Nat × List Byte)) (pos n : Nat) : List Byte :=
  (l.map fun p =>
    if pos < p.1 + p.2.length && p.1 < pos + n then (p.2.take (pos + n - p.1)).drop (pos - p.1) else []).flatten

/-- Bytes `pos` to `pos + n - 1` have all arrived. -/
def Reception.has (r : Reception) (pos n : Nat) : Bool := (piecesAt r.pieces pos n).length == n

/-- The whole stream has arrived. -/
def Reception.whole (r : Reception) : Bool := r.has 0 r.total

/-- MISSING (R507): bit s set for a 1,024-byte segment that has not arrived. -/
def Reception.missing (r : Reception) : List Byte :=
  let n := (r.total + 1023) / 1024
  let bit (k : Nat) : Bool := k < n && !r.has (1024 * k) (min 1024 (r.total - 1024 * k))
  (List.range ((n + 7) / 8)).map fun j =>
    BitVec.ofNat 8 ((List.range 8).foldl (fun acc i => if bit (8 * j + i) then acc + 2 ^ i else acc) 0)

/-! ### Slots (R486) -/

/-- Objects of a slot: 1 STATE, 2 TYPE, 3 VERSION, 4 LENGTH, 5 BLOCKS_OK, 6 KEY_ID. -/
def State.slotVal (s : State) (k : Fin 2) (j : Nat) : Nat := s.val (0x7011 + k.val) j
def State.setSlot (s : State) (k : Fin 2) (j v : Nat) : State := s.setVal (0x7011 + k.val) j v

/-- A slot becomes EMPTY. -/
def State.emptySlot (s : State) (k : Fin 2) : State :=
  { [1, 2, 3, 4, 5, 6].foldl (fun (t : State) j => t.setSlot k j 0) s with up := { s.up with heads := s.up.heads.set k none } }

/-- The slot that a new staged image takes: EMPTY, REFUSED, VERIFIED, or PREVIOUS after a CONFIRM, in this order, the lower
number first (DESIGN CHOICE, log entry 49). -/
def State.freeSlot (s : State) : Option (Fin 2) :=
  let is (k : Fin 2) (st : Nat) : Bool := s.slotVal k 1 == st
  let of (st : Nat) : Option (Fin 2) := (List.finRange 2).find? fun k => is k st && !(st == 7 && s.onTrial)
  (((of 0).or (of 8)).or (of 3)).or (of 7)

/-- Versions that channels of a type run, from 0x7013. -/
def State.runningVersions (s : State) (typ : Nat) : List Nat :=
  let subs := if typ = 1 then (List.range 8).map (1 + ·) else if typ = 2 then (List.range 8).map (9 + ·) else (List.range 4).map (17 + ·)
  subs.map (s.val 0x7013)

/-- The channel area with a new image of a type (R492): it replaces the one that no channel runs; none where channels run both. -/
def State.channelPlace (s : State) (typ : Nat) : Option (List ChanImage) :=
  let same := s.up.channels.filter fun c => c.typ == typ
  if same.length < 2 then some s.up.channels
  else
    let idle := same.filter fun c => !(s.runningVersions typ).contains c.version
    match idle.foldl (fun (acc : Option ChanImage) c => match acc with
        | some a => if c.order < a.order then some c else some a
        | none => some c) none with
    | some old => some (s.up.channels.filter fun c => c != old)
    | none => none

/-! ### Reception (R484 to R492) -/

/-- What the receiver makes of newly arrived bytes: taken; a bad block that starts at a position; refused; no slot. -/
inductive Received where
  | ok
  | badBlock (start : Nat)
  | refused
  | noSlot
  deriving DecidableEq, Repr

def State.setRx (s : State) (r : Option Reception) : State := { s with up := { s.up with rx := r } }

/-- Refuse an image (R484, R487, R488): REFUSE_CAUSE, the record, the slot. -/
def State.refuseImage (s : State) (slot : Option (Fin 2)) (cause typ : Nat) : State :=
  let s1 := (((s.setRx none).setVal 0x7010 2 4).setVal 0x7010 3 cause).raise 5 1 corrected (packArg [i16 cause, i16 typ])
  match slot with
  | some k => s1.setSlot k 1 8
  | none => s1

/-- The header of an arriving image is complete (R484, R486, R492). -/
def State.takeHead (s : State) (r : Reception) : State × Received :=
  let b := piecesAt r.pieces 0 64
  let h := headOf b
  let k := s.headerStep b
  if k != 0 then (s.refuseImage none k 0, .refused)
  else if h.cls = 1 then
    (if (s.channelPlace h.typ).isSome then (s.setRx (some { r with head := some h }), .ok)
     else ((s.setRx none).setVal 0x7010 2 0, .noSlot))
  else match s.freeSlot with
    | none => ((s.setRx none).setVal 0x7010 2 0, .noSlot)
    | some n =>
      let s1 := (((((s.setSlot n 1 1).setSlot n 2 h.typ).setSlot n 3 h.version).setSlot n 4 h.length).setSlot n 5 0).setSlot n 6
        h.keyId
      ({ s1 with up := { s1.up with
          rx := some { r with head := some h, slot := some n }, heads := s1.up.heads.set n (some h) } }, .ok)

/-- Check the block table, whose entries are little-endian, against CHECK (R485, R487). -/
def State.takeTable (s : State) (r : Reception) (h : ImageHead) : State × Received :=
  if r.tableOk || h.cls = 1 || !r.has 64 (4 * h.blocks) then (s, .ok)
  else if crc32c (piecesAt r.pieces 64 (4 * h.blocks)) = h.check then (s.setRx (some { r with tableOk := true }), .ok)
  else (s.refuseImage r.slot 8 h.typ, .refused)

/-- Bytes of a block of the body. -/
def ImageHead.blockLen (h : ImageHead) (i : Nat) : Nat := min 4096 (h.length - 4096 * i)

/-- Check one block that has arrived whole (R487). -/
def State.takeBlock (s : State) (r : Reception) (h : ImageHead) (i : Nat) : State × Received :=
  let start := h.body + 4096 * i
  let want := leNat (piecesAt r.pieces (64 + 4 * i) 4)
  if crc32c (piecesAt r.pieces start (h.blockLen i)) = want then
    let s1 := match r.slot with
      | some k => s.setSlot k 5 (r.blocks.length + 1)
      | none => s
    (s1.setRx (some { r with blocks := r.blocks ++ [i] }), .ok)
  else
    let n := (aget r.fails i).getD 0 + 1
    if 3 ≤ n then (s.refuseImage r.slot 9 h.typ, .refused)
    else
      let keep (p : Nat × List Byte) : Bool := p.1 + p.2.length ≤ start || start + h.blockLen i ≤ p.1
      let left : Nat × List Byte → Option (Nat × List Byte) := fun p =>
        if keep p then some p
        else if r.dist.isNone && p.1 < start then some (p.1, p.2.take (start - p.1)) else none
      (s.setRx (some { r with fails := aput r.fails i n, pieces := r.pieces.filterMap left }), .badBlock start)

/-- Check every block that has arrived and not been accepted. -/
def State.takeBlocks (s : State) (h : ImageHead) : List Nat → State × Received
  | [] => (s, .ok)
  | i :: l =>
    match s.up.rx with
    | some r =>
      if r.tableOk && !r.blocks.contains i && r.has (h.body + 4096 * i) (h.blockLen i) then
        let w := s.takeBlock r h i
        if w.2 = .ok then w.1.takeBlocks h l else w
      else s.takeBlocks h l
    | none => (s, .ok)

/-- A channel image is whole: its body is checked, and it stays in the channel area (R492). -/
def State.storeChannel (s : State) (r : Reception) (h : ImageHead) : State × Received :=
  if crc32c (piecesAt r.pieces 64 h.length) != h.check || r.total != 64 + h.length then (s.refuseImage none 10 h.typ, .refused)
  else match s.channelPlace h.typ with
    | some l =>
      ({ (s.setRx none).setVal 0x7010 2 3 with up := { s.up with
          rx := none, channels := l ++ [⟨h.typ, h.version, s.up.nextOrder⟩], nextOrder := s.up.nextOrder + 1 } }, .ok)
    | none => ((s.setRx none).setVal 0x7010 2 0, .noSlot)

/-- The last byte has arrived: a staged image goes to verification (R488); one whose blocks have not all been accepted, or whose
stream has another length, fails its step 1. -/
def State.finishImage (s : State) (r : Reception) (h : ImageHead) : State × Received :=
  if !r.whole then (s, .ok)
  else if h.cls = 1 then s.storeChannel r h
  else match r.slot with
    | some k =>
      if r.blocks.length != h.blocks || r.total != h.body + h.length + 64 then (s.refuseImage r.slot 9 h.typ, .refused)
      else ({ ((s.setRx none).setSlot k 1 2).setVal 0x7010 2 2 with up := { s.up with rx := none, verifying := some k } }, .ok)
    | none => (s, .ok)

/-- Bytes of a stream have arrived at a position: the checks that they complete, in order. A piece that has arrived already
changes nothing (R491). -/
def State.receiveBytes (s : State) (pos : Nat) (bytes : List Byte) : State × Received :=
  match s.up.rx with
  | none => (s, .refused)
  | some r0 =>
    let r := if r0.pieces.any fun p => p.1 == pos then r0 else { r0 with pieces := aput r0.pieces pos bytes }
    let s0 := s.setRx (some r)
    let a := if r.head.isNone && r.has 0 64 then s0.takeHead r else (s0, .ok)
    match a.2, a.1.up.rx with
    | .ok, some r1 =>
      match r1.head with
      | none => if r1.whole then (a.1.refuseImage none 1 0, .refused) else (a.1, .ok)
      | some h =>
        let b := a.1.takeTable r1 h
        if b.2 != .ok then b
        else
          let c := b.1.takeBlocks h (List.range h.blocks)
          if c.2 != .ok then c
          else match c.1.up.rx with
            | some r2 => c.1.finishImage r2 h
            | none => c
    | x, _ => (a.1, x)

/-- A reception begins (R489, R491). -/
def State.beginImage (s : State) (dist : Option Nat) (total : Nat) : State :=
  ((s.setRx (some { dist := dist, total := total })).setVal 0x7010 2 1).setVal 0x7010 3 0

/-- A session that was bringing an image closes before its end: the slot becomes REFUSED (DESIGN CHOICE, log entry 50). -/
def State.dropImage (s : State) : State :=
  match s.up.rx with
  | some r =>
    let s1 := (s.setRx none).setVal 0x7010 2 0
    match r.slot with
    | some k => s1.setSlot k 1 8
    | none => s1
  | none => s

/-- VERIFICATION_DONE (R488): the signature is good, bad, or of a revoked key. -/
def execVerificationDone (outcome : SignatureResult) (s : State) : Outc :=
  done (match s.up.verifying with
    | none => s
    | some k =>
      let s1 : State := { s with up := { s.up with verifying := none } }
      match outcome with
      | .good => ((s1.setSlot k 1 3).setVal 0x7010 2 3).raise 5 2 corrected
          (packArg [i16 k.val, i16 (s1.slotVal k 2), i32 (s1.slotVal k 3)])
      | .bad => s1.refuseImage (some k) 11 (s1.slotVal k 2)
      | .revoked => s1.refuseImage (some k) 12 (s1.slotVal k 2))

/-- Time to write bytes to NOR at 1.5 MiB/s (R491). -/
def norTime (n : Nat) : Nat := nsec (1000000000 * n / 1572864)

/-- Store a distribution segment, one at a time: a frame that finds NOR being written is left for repair (R491; DESIGN CHOICE,
log entry 51). -/
def State.storeSegment (s : State) (pos : Nat) (data : List Byte) : State :=
  match s.up.rx with
  | none => s
  | some r =>
    if s.uptime < r.busyUntil then s.bump 0x7014 6
    else if r.pieces.any fun p => p.1 == pos then s
    else
      let s1 := (s.bump 0x7014 4).setRx (some { r with busyUntil := s.uptime + norTime data.length })
      (s1.receiveBytes pos data).1

/-- DISTRIBUTION_FRAME (R490, R491). A payload that the table does not allow counts in DIST_IGNORED (DESIGN CHOICE, log
entry 51). -/
def execDistributionFrame (repair : Bool) (payload : List Byte) (s : State) : Outc :=
  let id := beAt payload 0 4
  let pos := beAt payload 4 4
  let total := beAt payload 8 4
  let n := beAt payload 12 2
  let data := (payload.drop 16).take n
  let fits := payload.length == 16 + n && pos % 1024 == 0 && (n == min 1024 (total - pos)) && decide (pos < total)
  done (if s.val 0x7014 (if repair then 2 else 1) = 0xFFFF then s
  else if !fits then s.bump 0x7014 5
  else if s.up.dist = some id then s.storeSegment pos data
  else if pos != 0 || (s.up.rx.isSome && (s.up.rx.bind (·.dist)).isNone) then s.bump 0x7014 5
  else
    let s1 := s.dropImage.beginImage (some id) total
    ({ s1.setVal 0x7014 3 id with up := { s1.up with dist := some id } } : State).storeSegment 0 data)

/-! ### Channel images (R493) -/

/-- What a write of LOAD_CHANNELS does: the newest image of LOAD_TYPE into each channel named, in ascending order. -/
def loadChannelsFx (mask : Nat) (s : State) : State :=
  let typ := s.val 0x7010 0xA
  match (s.up.channels.filter fun c => c.typ == typ).foldl (fun (acc : Option ChanImage) c => match acc with
      | some a => if a.order < c.order then some c else some a
      | none => some c) none with
  | some c =>
    { s with up := { s.up with
        loads := s.up.loads ++ ((List.range 8).filter mask.testBit).map fun n => (typ, n, c.version) } }
  | none => s

/-- LOAD_CHANNELS (R493). -/
def execLoadChannels (rq : Requester) (value : List Byte) (s : State) : Outc :=
  done (s.objectWrite rq (objKey 0x7010 9) value loadChannelsFx)

/-- A channel stands at its boundary. -/
def State.channelFree (s : State) (typ n : Nat) : Bool :=
  if typ = 1 then (s.sdciPort (Fin.ofNat 8 n)).taken.isNone
  else if typ = 2 then (s.serPort (Fin.ofNat 8 n)).active.isNone && !(s.serPort (Fin.ofNat 8 n)).trailing
  else true

/-- Subindex of a channel in 0x7013. -/
def channelSub (typ n : Nat) : Nat := if typ = 1 then 1 + n else if typ = 2 then 9 + n else 17 + n

/-- CHANNEL_LOADED (R493): the next channel is loaded at its boundary and read back. -/
def execChannelLoaded (matches_ : Bool) (s : State) : Outc :=
  done (match s.up.loads with
    | [] => s
    | (typ, n, v) :: l =>
      if !s.channelFree typ n then s
      else
        let s1 : State := { s with up := { s.up with loads := l } }
        if matches_ then (s1.setVal 0x7013 (channelSub typ n) v).raise 5 4 corrected (packArg [i16 typ, i16 n, i32 v])
        else s1.raise 5 6 contained (packArg [i16 typ, i16 n]))

/-! ### Activation (R494 to R498) -/

/-- PHY activation starts (R497): the EAST retrain at its stagger time after `base`. -/
def State.startPhy (s : State) (k : Fin 2) (base : Nat) : State :=
  ({ s.setSlot k 1 4 with up := { s.up with phy := some k } } : State).armRing .phyEast
    (base + (s.node - 1) * nsec (s.val 0x7010 8))

/-- Activation of a VERIFIED slot begins (R494 to R497). -/
def State.activateSlot (s : State) (k : Fin 2) : State :=
  if s.slotVal k 1 != 3 then s
  else
    let typ := s.slotVal k 2
    if typ = 0x11 then s.startPhy k s.ringTime
    else if typ = 0x12 then { s.setSlot k 1 4 with up := { s.up with loader := some k } }
    else
      ({ s.setSlot k 1 4 with up := { s.up with starts := some k } } : State).beginRestart 4

/-- The pair sequence begins (R498): the standby activates first. The primary orders it over BL0 as a write of its ACTIVATE
(DESIGN CHOICE, log entry 52). -/
def State.startPair (s : State) (k : Fin 2) : State :=
  (({ s with up := { s.up with pair := some (k, 1) } } : State).setPairState 2).sendMirror
    (.dict (BitVec.ofNat 32 (objOffset (objKey 0x7010 4))) (leBytes 1 (0x10 + k.val)))

/-- An accepted ACTIVATE starts. -/
def State.activate (s : State) (v : Nat) : State :=
  let k : Fin 2 := Fin.ofNat 2 v
  if v / 16 = 2 then s.startPair k else s.activateSlot k

/-- What a write of ACTIVATE does: at once, or at ACTIVATE_AT (R494). -/
def activateFx (v : Nat) (s : State) : State :=
  let t := ofTime80 (s.val 0x7010 5)
  if s.ringTime < t then ({ s with up := { s.up with waiting := some v } } : State).armRing .activation t
  else s.activate v

/-- ACTIVATE_SLOT (R494). -/
def execActivateSlot (rq : Requester) (k : Fin 2) (s : State) : Outc :=
  done (s.objectWrite rq (objKey 0x7010 4) (leBytes 1 (0x10 + k.val)) activateFx)

/-- ACTIVATE_PAIR (R498): `same` where the partner holds a VERIFIED management image of the same VERSION in the slot. -/
def execActivatePair (rq : Requester) (k : Fin 2) (same : Bool) (s : State) : Outc :=
  let key := objKey 0x7010 4
  let value := leBytes 1 (0x20 + k.val)
  done (if same || s.checkWrite rq key value != .ok then s.objectWrite rq key value activateFx
  else s.answerWrite rq 2 key .imageRefused value)

/-- ACTIVATION_TIME (R494): the activation that waited starts. -/
def execActivationTime (s : State) : Outc :=
  done (s.onDue .activation fun t =>
    match t.up.waiting with
    | some v => ({ t with up := { t.up with waiting := none } } : State).activate v
    | none => t)

/-- Retrain a port for its new image; one that is not UP is retrained when the ring has closed (R74, R497). -/
def State.phyRetrain (s : State) (p : RingPort) : State :=
  if s.isUp p then s.plannedRetrain p ⟨(s.port p).rate, false, 3⟩
  else s.updPort p fun e => { e with deferred := e.deferred ++ [⟨e.rate, false, 3⟩] }

/-- PHY_STAGGER_RETRAIN (R497). -/
def execPhyStaggerRetrain (s : State) : Outc :=
  done (s.onDue .phyEast fun t =>
    t.phyRetrain .east)

/-- PHY_WEST_RETRAIN (R497). -/
def execPhyWestRetrain (s : State) : Outc :=
  done (s.onDue .phyWest fun t =>
    if t.up.phyRuns.2.isNone then t.phyRetrain .west else t)

/-- The slot on trial (R495). -/
def State.trialSlot (s : State) : Option (Fin 2) := (List.finRange 2).find? fun k => s.slotVal k 1 == 6 && s.slotVal k 2 == 0x10

/-- A trial ends well (R495, R496). -/
def State.confirm (s : State) : State :=
  let s1 := match s.trialSlot with
    | some k => s.setSlot k 1 5
    | none => s
  let s2 := match s1.up.loaderTrial with
    | some k => { s1.emptySlot k with up := { (s1.emptySlot k).up with loaderTrial := none } }
    | none => s1
  s2.disarm .confirm

/-- CONFIRM (R495). -/
def execConfirm (rq : Requester) (value : List Byte) (s : State) : Outc :=
  done (s.objectWrite rq (objKey 0x7010 6) value fun _ t => t.confirm)

/-- CONFIRM_AFTER (R495). -/
def execConfirmAfter (s : State) : Outc := done (s.onDue .confirm State.confirm)

/-- An unplanned restart during a trial (R495, R496): the previous image runs again with its own settings copy. -/
def State.fallBack (s : State) : State :=
  let s1 := match s.trialSlot with
    | some k =>
      let prev := (List.finRange 2).find? fun m => s.slotVal m 1 == 7
      let t0 := (s.setSlot k 1 8).raise 5 6 contained (packArg [i16 0x10, i16 k.val])
      let t1 := match prev with
        | some m => t0.setSlot m 1 5
        | none => t0
      let t2 : State := { t1.setVal 0x7015 1 0 with
        ident := { t1.ident with
          fwVersion := t1.up.oldFw
          fingerprint := (Config.fingerprint (BitVec.ofNat 32 t1.up.oldFw)).toNat
          mirrorVersion := t1.up.oldMirror }
        up := { t1.up with resetList := [], pair := none } }
      (match if t2.up.oldCopy then t2.settings.copyB else t2.settings.copyA with
        | some set => ((t2.loadAll set).reconfigure t2).startPorts.setVal 0x1010 2 set.seq
        | none => t2)
    | none => s
  let s2 := match s1.up.loaderTrial with
    | some k =>
      let t := (s1.setSlot k 1 8).raise 5 6 contained (packArg [i16 0x12, i16 k.val])
      { t with ident := { t.ident with loaderVersion := t.up.oldLoader }, up := { t.up with loaderTrial := none } }
    | none => s1
  s2.disarm .confirm

/-- The persistent objects to whose format version another release gives another value, each with the old one (R44). -/
def changedFormats (old new : Nat) : List (Nat × Nat) :=
  (persistentKeys.filter fun k => !sameFormat old new k).map fun k => (k, (Config.formatVersion (BitVec.ofNat 32 old) k).toNat)

/-- Objects whose format version the new image changes take their defaults (R44, R499). -/
def State.resetObjects (s : State) (l : List (Nat × Nat)) : State :=
  if l.isEmpty then s
  else
    let s1 := l.foldl (fun (t : State) p =>
      (t.setVal (p.1 / 256) (p.1 % 256) (objDefault p.1)).raise 5 5 corrected
        (packArg [i16 (p.1 / 256), i16 (p.1 % 256), i16 p.2])) s
    ((({ s1.setVal 0x7015 1 l.length with up := { s1.up with resetList := l } } : State).noteSave).reconfigure s).startPorts

/-- The images that this restart starts (R495, R496, R499). -/
def State.startImages (s : State) : State :=
  let s1 := match s.up.starts with
    | some k =>
      let t0 := match (List.finRange 2).find? fun m => s.slotVal m 1 == 5 || s.slotVal m 1 == 6 with
        | some m => s.setSlot m 1 7
        | none => s
      let t1 : State := { t0.setSlot k 1 6 with
        ident := { t0.ident with
          fwVersion := t0.slotVal k 3
          fingerprint := (Config.fingerprint (BitVec.ofNat 32 (t0.slotVal k 3))).toNat
          mirrorVersion := match t0.up.heads[k] with
            | some h => h.mirrorVersion
            | none => t0.ident.mirrorVersion }
        up := { t0.up with
          starts := none
          oldFw := t0.ident.fwVersion
          oldMirror := t0.ident.mirrorVersion
          oldCopy := t0.val 0x1010 3 == 1 } }
      ((t1.raise 5 3 corrected (packArg [i16 k.val, i16 0x10, i32 (t1.slotVal k 3)])).resetObjects (changedFormats t1.up.oldFw t1.ident.fwVersion)).arm .confirm
        (secs (t1.val 0x7010 7))
    | none => s
  match s1.up.loader with
  | some k =>
    let t : State := { s1.setSlot k 1 6 with
      ident := { s1.ident with loaderVersion := s1.slotVal k 3 }
      up := { s1.up with loader := none, loaderTrial := some k, oldLoader := s1.ident.loaderVersion } }
    (t.raise 5 3 corrected (packArg [i16 k.val, i16 0x12, i32 (t.slotVal k 3)])).arm .confirm (secs (t.val 0x7010 7))
  | none => s1

/-- Deliver the events that waited for management (R30). -/
def State.deliverEvents (s : State) : State :=
  let lost := s.mgmt.lost
  let s1 := s.mgmt.queue.foldl (fun (t : State) (e : Rec × Bool) => t.takeEvent e.1 e.2)
    { s with mgmt := { s.mgmt with queue := [], lost := 0 } }
  if lost = 0 then s1 else s1.raise 0 13 corrected (packArg [i32 lost])

/-- A collector self-fault ends with a restart (R430). -/
def State.clearSelfFault (s : State) : State :=
  if s.flag 0x6000 7 then (s.setFlag 0x6000 7 false).setVal 0x6000 2 (putBit (s.val 0x6000 2) 3 false) else s

/-- RESTART_END (R29, R30, R113, R430, R495, R496). A restart that is not planned ends a trial by fallback; a planned one lets its time run anew. After a failed LBIST the processors stay
in reset (R445). -/
def execRestartEnd (s : State) : Outc :=
  done (if !s.mgmt.restarting || (s.val 0x2420 4).testBit 4 then s
  else
    let cause := s.mgmt.cause
    let s1 := ({ s with mgmt := { s.mgmt with restarting := false } } : State).clearSelfFault
    let s2 := if plannedRestart cause then (if s1.armed .confirm then s1.arm .confirm (secs (s1.val 0x7010 7)) else s1)
      else s1.fallBack
    let s3 := (s2.startImages).raise 2 2 corrected (packArg [i16 cause])
    let s4 := s3.deliverEvents
    if s4.settings.held then s4.startSave else s4)

/-! ### The pair sequence (R498) -/

/-- A step of the pair sequence has failed: it stops with the roles it has reached. -/
def State.failPair (s : State) : State :=
  match s.up.pair with
  | some (k, _) => ({ s with up := { s.up with pair := none } } : State).raise 5 6 contained (packArg [i16 0x10, i16 k.val])
  | none => s

/-! ### USB (R500) -/

/-- USB_RECORDER_READ (R500): KIND 0x03. -/
def execUsbRecorderRead (tag : Fin 65536) (target : BitVec 64) (seq : BitVec 32) (k : Fin 256) (s : State) : Outc :=
  let node := bitField target.toNat 59 47
  let reply (t : State) (res : Result) (body : List Byte) : State :=
    (t.emit (.usb 0x81 (beBytes 1 0x83 ++ beBytes 1 res.code ++ beBytes 2 tag.val ++ beBytes 8 (Config.usbTarget tag.val).toNat ++ body))).setVal 0x1020 9 res.code
  done (if !s.flag 0x7020 1 then s
  else
    let s1 := s.bump 0x7020 3
    if node ≠ 0 && !(node = s.node && bitField target.toNat 63 60 = s.ring) then reply s1 .noTarget []
    else if k.val = 0 || 63 < k.val then reply s1 .range []
    else
      let bytes := s1.cursorBytes seq.toNat k.val
      if s1.rcd.unstable then
        let d := s1.draw (2 ^ (8 * bytes.length))
        reply d.2 .ok (leBytes bytes.length d.1)
      else reply s1 .ok bytes)

end Sys2Proof.Machine
end

