-- ==== Sys2Proof/Machine/Pair.lean ====
section
/-!
DEFINITION. Board-link training and the duplex pair (R157 to R179, R183 to R185): formation, heartbeats, takeover, probes,
mirroring, digests, planned swaps and the standby's own tests. MIRROR and RESYNC_DONE, which apply changes to any target, stand in
Machine/Mirror.lean.
-/

namespace Sys2Proof.Machine

/-- The low 48 bits of the partner's serial beside a 16-bit item (R416). -/
def withSerial (v serial : Nat) : Nat := packArg [i16 v, (48, serial % 2 ^ 48)]

/-- The standby may take over (R167, R175): the pair is formed, no resync runs and it is not DETACHED. -/
def State.mayTakeOver (s : State) : Bool := s.standby && (s.pairState == 1 || s.pairState == 2) && !s.dx.resync

/-- A result of a standby test of R179: 1 pass, 2 fail, with its moment; TEST_OFF by channel, the transmit tests by path. -/
def State.noteTest (s : State) (i : Fin 8) (pass : Bool) : State :=
  { s with dx := { s.dx with tests := s.dx.tests.set i (if pass then 1 else 2, s.uptime) } }
def State.noteChannel (s : State) (n : Fin 32) (pass : Bool) : State :=
  { s with dx := { s.dx with channelTests := s.dx.channelTests.set n (if pass then 1 else 2, s.uptime) } }
def State.notePath (s : State) (n : Fin 24) (pass : Bool) : State :=
  { s with dx := { s.dx with txTests := s.dx.txTests.set n (if pass then 1 else 2, s.uptime) } }

/-- Mark a failing path in the readiness detail (R178, R185): channels under 0x8121:01, ports 0 to 7 CAN, 8 to 15 RS-485, 16 to 23
SDCI under the others. -/
def State.markChannel (s : State) (n : Nat) : State := s.setVal 0x8121 1 (putBit (s.val 0x8121 1) n true)
def State.markPath (s : State) (p : Nat) : State :=
  s.setVal 0x8121 (2 + p / 8) (putBit (s.val 0x8121 (2 + p / 8)) (p % 8) true)

/-! ### Resync (R167) -/

/-- The shared state as blocks of offset and bytes: objects, flow table, waggle table, program banks, and the port data that a
window write can set. How blocks are cut, and that what a window write cannot set is not among them, is a DESIGN CHOICE (log entry
53). -/
def State.sharedBlocks (s : State) : List (Nat × List Byte) :=
  let objs := (s.objs.filter fun kv => !memberOwn (kv.1 / 256) (kv.1 % 256)).map fun kv =>
    (objOffset kv.1, leBytes (objBits kv.1 / 8) kv.2)
  let flow := (s.sw.flow.filter fun p => p.2.valid).map fun p =>
    (0x40000000 + 32 * p.1, leBytes 4 p.2.w0 ++ leBytes 4 p.2.w1 ++ leBytes 4 p.2.w2 ++ leBytes 4 p.2.w3)
  let wags := s.wag.entries.map fun p => (0x50000000 + 64 * p.1, (p.2.words.map fun w => leBytes 4 w).flatten)
  let prog := s.wu.prog.map fun p =>
    (0x20000000 + 0x1000 * (p.1 / 64) + 0x80 * (p.1 / 32 % 2) + 4 * (p.1 % 32), leBytes 4 p.2)
  let live (l : List Nat) : Nat := l.foldl (fun acc k => acc + 2 ^ k) 0
  let cans := (List.finRange 8).map fun n =>
    let bufs := (List.finRange 32).filter fun b => s.can[n].bufs[b].status == 1
    bufs.map (fun b => (canBase n + 128 * b.val, leBytes 88 s.can[n].bufs[b].img)) ++
      (if bufs.isEmpty then [] else [(canBase n + 0x3100, leBytes 4 (live (bufs.map (·.val))))])
  let sers := (List.finRange 8).map fun n =>
    let slots := (List.finRange 4).filter fun b => s.ser[n].slots[b].status == 1
    (slots.map fun b =>
      let x := s.ser[n].slots[b]
      [(serBase n + 0x800 * b.val, leBytes ((x.len + 3) / 4 * 4) x.img), (serBase n + 0x4040 + 4 * b.val, leBytes 4 x.len)]).flatten ++
      (if slots.isEmpty then [] else [(serBase n + 0x4000, leBytes 4 (live (slots.map (·.val))))])
  let sdcis := (List.finRange 8).map fun n =>
    (sdciBase n + 0x40, leBytes 32 s.sdci[n].pdOut ++ leBytes 4 (if s.sdci[n].outValid then 256 else 0))
  objs ++ flow ++ wags ++ prog ++ cans.flatten ++ sers.flatten ++ sdcis ++ [(0x10300008, leBytes 4 s.dio.latch)]

/-- The primary copies its whole shared state (R167). Until the resync ends the standby does not take over. -/
def State.startResync (s : State) : State :=
  s.sharedBlocks.foldl (fun (t : State) b => t.sendMirror (.block (BitVec.ofNat 32 b.1) b.2))
    { s with dx := { s.dx with resync := true } }

/-! ### Training and formation (R158, R162) -/

/-- A link stays down: reason and partner recorded (R158, R159). -/
def State.refuseLink (s : State) (reason serial : Nat) : State :=
  ((s.setVal 0x8100 5 reason).setVal 0x8100 4 3).raise 0x20 1 contained (withSerial reason serial)

/-- The pair does not form: this member runs as a simplex node, slot 1 in the standby states of its field pads (R162). -/
def State.refusePair (s : State) (reason serial : Nat) : State :=
  let t : State := { s.disarm .partnerAbsent with dx := { s.dx with alone := false } }
  (((((t.setVal 0x8100 5 reason).setVal 0x8100 4 3).setVal 0x8110 3 serial).setRole 3).followRole).raise 0x20 2 contained
    (withSerial reason serial)

/-- Role at formation (R162, R171): a member that already runs stays or becomes primary; two equals follow their slots (DESIGN
CHOICE, log entry 54). -/
def State.formRole (s : State) (peer : Nat) : Nat :=
  let own := s.val 0x8110 1
  if (own == 1 || own == 3) && (peer == 0 || peer == 2) then 1
  else if (peer == 1 || peer == 3) && (own == 0 || own == 2) then 2
  else if s.ident.clusterId == 0 then 1 else 2

/-- Start the timer of planned swaps (R178). -/
def State.armAutoSwap (s : State) : State :=
  if s.val 0x8110 5 = 0 then s.disarm .autoSwap else s.arm .autoSwap (secs (s.val 0x8110 5))

/-- The timer of test-off pulses (R176). -/
def State.armTestOff (s : State) : State := s.arm .testOff (secs (s.val 0x8110 9))

/-- The pair forms (R162): heartbeats begin and the primary copies its shared state. A member in DETACHED stays so (R175). -/
def State.formPair (s : State) (peer : BoardLink) : State :=
  let role := s.formRole peer.role
  let s1 := ({ s with dx := { s.dx with
    failSeen := false, missRun := 0, alone := false, probe := none, swapAt := none, swapAccepted := false
    verifying := false, txOpen := 0, blocks := [], blocksDue := false } } : State).setVal 0x8110 3 peer.serial
  let s2 := if s1.val 0x8110 1 = role then s1 else s1.setRole role
  let s3 := (s2.disarm .partnerAbsent).raise 0x20 3 corrected (packArg [i64 peer.serial])
  let s4 := ((((s3.disarm .probe).arm .heartbeatSend (usec 1)).arm .heartbeatMiss (nsec 1100)).armAutoSwap).armTestOff
  if role = 1 then (s4.setPairState 3).startResync
  else if s4.pairState = 4 then s4
  else ({ s4 with dx := { s4.dx with resync := true } } : State).setPairState 3

/-- Training finds a partner that this hub does not join (R158, R159): on BL0 of a pair it also keeps the pair from forming (R162). -/
def State.refuseTraining (s : State) (k : Fin 3) (reason : Nat) (peer : BoardLink) : State :=
  let t := s.refuseLink reason peer.serial
  if s.dx.mode = 2 && k.val = 0 then t.refusePair reason peer.serial else t

/-- BL_LINK_TRAINING (R158, R159, R162): what the partner of link k reports. Only a hub of a cluster has board-link partners, and
a pair only BL0. A gateway whose partner carries the same ring number reports the conflict, as CLUSTER_REFUSED with reason 0 (R16;
DESIGN CHOICE, log entry 108). Slots 1 to 3 of a wide node take ring and node number from slot 0 (R17, R160). -/
def execBlLinkTraining (k : Fin 3) (peer : BoardLink) (s : State) : Outc :=
  done (if s.dx.mode = 0 || (s.dx.mode == 2 && k.val != 0) || (k.val == 2 && s.pcieMode) || s.isolated (2 + k.val) || s.combOff then s
  else if peer.slot ≠ s.ident.clusterId ^^^ (k.val + 1) then s.refuseTraining k 1 peer
  else if peer.mode ≠ s.dx.mode then s.refuseTraining k 2 peer
  else
    let s1 : State := { s.setVal 0x8100 5 0 with dx := { s.dx with links := s.dx.links.set k { peer with up := true } } }
    let s2 := s1.refreshCluster
    if s.dx.mode = 3 && peer.ring = s.ring then s2.raise 0x20 1 contained (withSerial 0 peer.serial)
    else if s.dx.mode = 1 && s.ident.clusterId ≠ 0 && peer.slot = 0 then (s2.setVal 0x1001 1 peer.ring).setVal 0x1001 2 peer.node
    else if s.dx.mode ≠ 2 then s2
    else if 2 ≤ s.ident.clusterId then s2.refusePair 1 peer.serial
    else if peer.variant ≠ s.ident.variant then s2.refusePair 3 peer.serial
    else if peer.mirrorVersion ≠ s.ident.mirrorVersion then s2.refusePair 4 peer.serial
    else s2.formPair peer)

/-- BL_LINK_LOSS (R173). -/
def execBlLinkLoss (k : Fin 3) (s : State) : Outc := done (s.linkDown k)

/-! ### Takeover (R169, R170) -/

/-- Release the frames held in the last 8 µs (R165). -/
def State.releaseHeld (s : State) : State :=
  (s.dx.held.filter fun p => s.uptime < p.1 + usec 8).foldl
    (fun (t : State) p =>
      let c : Fin 4 := Fin.ofNat 4 p.2.hdr.cls.toNat
      t.bothWays c p.2)
    { s with dx := { s.dx with held := [] } }

/-- A swap that has not been carried out is cancelled (R178). -/
def State.cancelSwap (s : State) : State :=
  ({ s with dx := { s.dx with swapAt := none, swapAccepted := false } } : State).disarm .swapTime

/-- The standby takes the primary role (R170), with the cause of 0x8110:0B. -/
def State.takeOver (s : State) (cause : Nat) : State :=
  let s1 := (((s.cancelSwap).disarm .probe).disarm .testOff).setVal 0x8110 0xB cause
  let s2 := { s1.bump 0x8110 0xA with dx := { (s1.bump 0x8110 0xA).dx with probe := none, testing := 0, txOpen := 0 } }
  ((((s2.setRole 1).setPairState 2).releaseHeld).raise 0x20 6 contained (withSerial cause s.partnerSerial)).pump

/-- PARTNER_ABSENT_TIMEOUT (R162): slot 1 runs the field I/O alone. Its takeover record carries cause 6. -/
def execPartnerAbsentTimeout (s : State) : Outc :=
  done (s.onDue .partnerAbsent fun t =>
    if t.dx.links[0].up || t.paired then t
    else
      let t1 := ({ t with dx := { t.dx with alone := true } } : State).setVal 0x8110 0xB 6
      ((t1.bump 0x8110 0xA).setRole 3).raise 0x20 6 contained (withSerial 6 t.partnerSerial))

/-- HEARTBEAT_SEND (R168). -/
def execHeartbeatSend (s : State) : Outc :=
  done (s.onDue .heartbeatSend fun t =>
    let n := t.dx.heartbeatNo
    ((({ t with dx := { t.dx with heartbeatNo := (n + 1) % 2 ^ 32 } } : State).sendPair
      (beBytes 1 0x10 ++ beBytes 1 0 ++ beBytes 4 n ++ beBytes 1 (t.val 0x8110 1) ++ beBytes 1 t.pairState ++
        beBytes 4 t.cycleNumber ++ beBytes 4 0))).arm .heartbeatSend (usec 1))

/-- A message of a pair on BL0, by its subtype and its LEN: one of a wrong LEN, or on a hub whose pair was refused, counts in
HEADER_ERRORS of the port that BL0 stands for (R90, R168, R538). -/
def State.takePair (s : State) (payload : List Byte) (sub least most : Nat) (k : List Byte → State) : State :=
  if !(s.dx.links[0].up && s.dx.mode == 2 && beAt payload 0 1 == sub) then s
  else if s.val 0x8110 1 = 3 || payload.length < least || most < payload.length then s.portBump s.pairPort 6
  else k payload

/-- What a member takes from its partner's PAIR_STATE (DEDUCED, log entry 55): the end of protection, DETACHED, and a resync asked
for by the standby. -/
def State.followPair (s : State) (partner : Nat) : State :=
  if s.val 0x8110 1 = 1 then
    (if partner = 4 then (if s.pairState = 4 then s else s.setPairState 4)
     else if partner = 2 && s.pairState = 1 then (s.setPairState 2).startResync
     else if partner = 3 && (s.pairState = 4 || s.pairState = 1) then (s.setPairState 3).startResync
     else s)
  else if s.standby && partner = 2 && s.pairState = 1 then
    ({ s.setPairState 2 with dx := { s.dx with resync := true } } : State).noteTest 6 false
  else s

/-- HEARTBEAT (R169). -/
def execHeartbeat (payload : List Byte) (s : State) : Outc :=
  done (s.takePair payload 0x10 16 16 fun b =>
    let t := (({ s with dx := { s.dx with missRun := 0 } } : State).arm .heartbeatMiss (nsec 1100)).followPair (beAt b 7 1)
    if t.standby then t.noteTest 7 (!(t.dx.lastMiss.any fun m => t.uptime < m + secs 3600)) else t)

/-- HEARTBEAT_MISS (R169, R176). -/
def execHeartbeatMiss (s : State) : Outc :=
  done (s.onDue .heartbeatMiss fun t =>
    if !t.dx.links[0].up || !t.paired then t
    else
      let t0 := (({ t with dx := { t.dx with missRun := t.dx.missRun + 1 } } : State).bump 0x8110 0xE).arm .heartbeatMiss (nsec 1100)
      let t1 := if t.standby then ({ t0 with dx := { t0.dx with lastMiss := some t.uptime } } : State).noteTest 7 false else t0
      if t1.dx.missRun = 4 && t1.mayTakeOver then t1.takeOver 1 else t1)

/-- FAIL (R169): noted, so that a later loss of BL0 starts no probe. -/
def execFailFrame (payload : List Byte) (s : State) : Outc :=
  done (s.takePair payload 0x11 8 8 fun _ =>
    let s1 : State := { s with dx := { s.dx with failSeen := true } }
    if s1.mayTakeOver then s1.takeOver 2 else s1)

/-! ### Probes (R173) -/

/-- PAIR_PROBE (R146, R173): answered with the same number. -/
def execPairProbe (p : RingPort) (f : TakenFrame) (s : State) : Outc :=
  done (s.takeMsg p f 4 16 fun _ b =>
    if f.hdr.dNode.toNat ≠ s.node then s
    else s.sendRingMsg s.ring f.hdr.sNode.toNat
      (beBytes 1 5 ++ beBytes 1 0 ++ beBytes 8 s.ident.serial ++ beBytes 4 (beAt b 10 4) ++ beBytes 1 (s.val 0x8110 1) ++
        beBytes 1 0))

/-- PROBE_ANSWER (R173): the pair is DETACHED and nothing is taken over. -/
def execProbeAnswer (p : RingPort) (f : TakenFrame) (s : State) : Outc :=
  done (s.takeMsg p f 5 16 fun _ b =>
    if f.hdr.dNode.toNat ≠ s.node || s.dx.probe ≠ some (beAt b 10 4) then s
    else
      ((({ s with dx := { s.dx with probe := none } } : State).disarm .probe).setPairState 4).raise 0x20 5 corrected
        (packArg [i64 s.partnerSerial]))

/-- PROBE_TIMEOUT (R173): a standby whose resync has not ended does not take over (R167). -/
def execProbeTimeout (s : State) : Outc :=
  done (s.onDue .probe fun t => if t.dx.probe.isSome && t.mayTakeOver then t.takeOver 3 else t)

/-! ### Mirroring (R167) -/

/-- The answer to a window access that waited for the standby. -/
def State.answerMirrored (s : State) (w : MirrorWait) : State :=
  (s.sharedAt w.offset fun t => t.answer w.requester w.offset w.len w.result w.data).settleFences

/-- Answers to dictionary requests that nothing holds any more, in the order of the requests (R536). -/
def State.flushAnswers : Nat → State → State
  | 0, s => s
  | k + 1, s =>
    match s.dx.mirrorWait.find? fun w => w.offset < 0x10000000 with
    | some w =>
      if w.acked then
        State.flushAnswers k (({ s with dx := { s.dx with mirrorWait := s.dx.mirrorWait.erase w } } : State).sharedAt w.offset
          fun t => t.sayObj w.requester w.op (w.offset / 0x1000 * 256 + w.offset / 16 % 256) w.session w.pos w.result w.data)
      else s
    | none => s

/-- The standby has acknowledged a change, or the wait for it has ended (R167). -/
def State.mirrorEnded (s : State) (w : MirrorWait) : State :=
  let s1 := s.disarm (.mirrorAck w.number)
  if w.offset < 0x10000000 then
    let l := s1.dx.mirrorWait.map fun x => if x.number = w.number then { x with acked := true } else x
    (State.flushAnswers l.length { s1 with dx := { s1.dx with mirrorWait := l } }).settleFences
  else ({ s1 with dx := { s1.dx with mirrorWait := s1.dx.mirrorWait.filter fun x => x.number != w.number } } : State).answerMirrored w

/-- The change that waits under a number. -/
def State.mirrorOut (s : State) (n : Nat) : Option MirrorWait := s.dx.mirrorWait.find? fun w => w.number == n && !w.acked

/-- MIRROR_ACK (R167). -/
def execMirrorAck (payload : List Byte) (s : State) : Outc :=
  done (s.takePair payload 0x13 8 8 fun b =>
    match s.mirrorOut (beAt b 2 2) with
    | some w => s.mirrorEnded w
    | none => s)

/-- MIRROR_TIMEOUT (R167): the write is answered all the same; PAIR_STATE stays UNPROTECTED while the resync runs (DEDUCED, log
entry 55). -/
def execMirrorTimeout (n : Fin 65536) (s : State) : Outc :=
  done (s.onDue (.mirrorAck n.val) fun t =>
    match t.mirrorOut n.val with
    | some w => (((t.mirrorEnded w).setPairState 2).raise 0x20 7 contained (packArg [i32 n.val])).startResync
    | none => t)

/-- MIRROR_APPLY_TIME (R241): mirrored writes of the waggle table whose time has come. -/
def execMirrorApplyTime (s : State) : Outc := done s.wagApplies

/-! ### Digests (R168, R175, R176) -/

/-- Currents of DIO0 to DIO31 in a DIGEST. -/
def digestCurrents (b : List Byte) : List Nat := (List.range 32).map fun i => beAt b (16 + 2 * i) 2

/-- The output commands of the cycle under the CRC-32C of DIGEST: DIO outputs, supplies, L+, SDCI output data and worker pins. The spec
does not lay them out (DESIGN CHOICE, log entry 106). -/
def State.outputCommands (s : State) : List Byte :=
  leBytes 4 (s.dio.latch &&& s.dioOutputs) ++ ((List.range 4).map fun i => leBytes 1 (s.val 0x4400 (i + 1))).flatten ++
    ((List.range 8).map fun n => leBytes 1 (s.val (0x4210 + n) 1)).flatten ++
    ((List.finRange 8).map fun n => leBytes 32 s.sdci[n].pdOut).flatten ++ leBytes 4 s.wu.pinLevel ++ leBytes 4 s.wu.pinDir

/-- The digest of the cycle that ends is sent to the partner; the currents are measured, and free values (log entry 4). -/
def State.sendDigest (s : State) (cycle : Nat) : State :=
  if s.paired && s.dx.links[0].up then
    let crc := crc32c s.outputCommands
    let cur := (List.range 32).map fun n => Config.freeValue (s.freeCount + n) % 65536
    ({ s with freeCount := s.freeCount + 32, dx := { s.dx with digest := (cycle, crc, cur) } } : State).sendPair
      (beBytes 1 0x14 ++ beBytes 1 0 ++ beBytes 4 cycle ++ beBytes 4 crc ++ beBytes 6 0 ++ (cur.map fun x => beBytes 2 x).flatten)
  else s

/-- Channels commanded on that carry at least 20 mA in total (R176). -/
def State.sharedChannels (s : State) (own partner : List Nat) : List Nat :=
  (List.range 32).filter fun n =>
    (s.dio.latch &&& s.dioOutputs).testBit n && decide (20 ≤ own.getD n 0 + partner.getD n 0)

/-- Those among them whose members share badly: this one carries less than 20 % or more than 80 %. -/
def State.badShares (s : State) (own partner : List Nat) : List Nat :=
  (s.sharedChannels own partner).filter fun n =>
    let a := own.getD n 0
    let sum := a + partner.getD n 0
    decide (5 * a < sum) || decide (4 * sum < 5 * a)

/-- A divergence at the standby (R175): the third within an hour detaches it. -/
def State.diverge (s : State) (cycle : Nat) : State :=
  let l := s.uptime :: s.dx.divergences.filter fun t => s.uptime < t + secs 3600
  let s1 := (({ s with dx := { s.dx with divergences := l } } : State).bump 0x8110 0xD).raise 0x20 8 contained (packArg [i32 cycle])
  if 3 ≤ l.length then s1.setPairState 4
  else ({ s1 with dx := { s1.dx with resync := true } } : State).setPairState 2

/-- DIGEST (R175, R176). The standby compares; while a resync runs or it is DETACHED it does not (DEDUCED, log entry 55). -/
def execDigest (payload : List Byte) (s : State) : Outc :=
  done (s.takePair payload 0x14 80 80 fun b =>
    if !s.standby || s.dx.digest.1 ≠ beAt b 2 4 || s.dx.resync || s.pairState = 4 then s
    else
      let bad := s.badShares s.dx.digest.2.2 (digestCurrents b)
      let s1 := bad.foldl (fun (t : State) n =>
        if (t.val 0x8121 1).testBit n then t else (t.markChannel n).raise 0x20 11 contained (packArg [i16 n, i16 2])) s
      let same := s.dx.digest.2.1 == beAt b 6 4
      let s2 := if (s.sharedChannels s.dx.digest.2.2 (digestCurrents b)).isEmpty then s1.noteTest 0 same
        else (s1.noteTest 0 same).noteTest 1 bad.isEmpty
      if same then s2 else s2.diverge (beAt b 2 4))

/-- What a write of 1 to REJOIN does (R175): DETACHED ends and a resync starts. -/
def rejoinFx (s : State) : State :=
  if s.pairState ≠ 4 then s
  else
    let s1 := ({ s with dx := { s.dx with divergences := [] } } : State).setPairState 3
    if s1.val 0x8110 1 = 1 then s1.startResync else { s1 with dx := { s1.dx with resync := true } }

/-- REJOIN (R175, R184). -/
def execRejoin (rq : Requester) (value : List Byte) (s : State) : Outc :=
  done (s.objectWrite rq (objKey 0x8110 0x10) value fun _ t => rejoinFx t)

/-! ### Planned swap (R178) -/

/-- SWAP on BL0: kind 0 request, 1 accept, 2 cancel; the time as the low 64 bits of ring time (R168). -/
def State.sendSwap (s : State) (kind t : Nat) : State :=
  s.sendPair (beBytes 1 0x15 ++ beBytes 1 0 ++ beBytes 1 kind ++ beBytes 5 0 ++ beBytes 8 (time80 t % 2 ^ 64))

/-- The primary asks for a swap at the second boundary from now. -/
def State.requestSwap (s : State) : State :=
  if s.val 0x8110 1 = 1 && s.pairState = 1 then
    let t := s.nextBoundary + s.cycleUnits
    ({ s with dx := { s.dx with swapAt := some t, swapAccepted := false } } : State).sendSwap 0 t
  else s

/-- SWAP (R178). -/
def execSwapWrite (rq : Requester) (value : List Byte) (s : State) : Outc :=
  done (s.objectWrite rq (objKey 0x8110 4) value fun _ t => t.requestSwap)

/-- AUTO_SWAP_INTERVAL (R178). -/
def execAutoSwapInterval (s : State) : Outc := done (s.onDue .autoSwap fun t => t.requestSwap.armAutoSwap)

/-- The new standby takes the role back, with cause 4, or the new primary gives it back (R178, R180). -/
def State.revertSwap (s : State) : State :=
  let s1 := ({ s with dx := { s.dx with verifying := false, txOpen := 0 } } : State).disarm .swapVerify
  if s1.standby then
    (((s1.setVal 0x8110 0xB 4).bump 0x8110 0xA).setRole 1).raise 0x20 6 contained (withSerial 4 s1.partnerSerial)
  else s1.setRole 2

/-- SWAP_MESSAGE (R168, R178). A cancel during the verification tells the new primary of its failure (DEDUCED, log entry 55). -/
def execSwapMessage (payload : List Byte) (s : State) : Outc :=
  done (s.takePair payload 0x15 16 16 fun b =>
    let t := s.nearTime (beAt b 8 4) (beAt b 12 4)
    match beAt b 2 1 with
    | 0 =>
      if s.mayTakeOver && s.pairState = 1 then
        (({ s with dx := { s.dx with swapAt := some t, swapAccepted := true } } : State).armRing .swapTime t).sendSwap 1 t
      else s.sendSwap 2 t
    | 1 =>
      if s.val 0x8110 1 = 1 && s.dx.swapAt = some t then
        ({ s with dx := { s.dx with swapAccepted := true } } : State).armRing .swapTime t
      else s
    | 2 => if s.dx.swapAt.isNone && (s.dx.verifying || s.dx.txOpen ≠ 0) then s.revertSwap else s.cancelSwap
    | _ => s)

/-- SWAP_TIME (R178): originations and worker pins change over. The planned swap counts in no TAKEOVERS (DEDUCED, log entry 55). -/
def execSwapTime (s : State) : Outc :=
  done (s.onDue .swapTime fun t =>
    if !t.dx.swapAccepted || !t.paired then t.cancelSwap
    else
      let t1 := { t.cancelSwap with dx := { t.cancelSwap.dx with verifying := true, txOpen := 0 } }
      let t2 := t1.arm .swapVerify (nsec (t1.val 0x8110 6))
      if t.standby then ((((t2.setVal 0x8110 0xB 5).disarm .testOff).setRole 1).releaseHeld).pump
      else (t2.setRole 2).armTestOff)

/-- Paths whose check has passed (R178, R179). -/
def State.passPaths (s : State) (mask : Nat) : State :=
  ((List.finRange 24).filter fun n => mask.testBit n.val).foldl (fun t n => t.notePath n true) s

/-- The pair sequence moves on when a swap has been verified (R498): the new standby activates. -/
def State.pairSwapped (s : State) : State :=
  match s.up.pair with
  | some (k, 2) => ({ s with up := { s.up with pair := some (k, 3) } } : State).activateSlot k
  | _ => s

/-- A path fails its check at the new standby (R178): the role comes back. -/
def State.failPath (s : State) (n : Fin 24) : State :=
  let s1 := (((s.sendSwap 2 0).revertSwap).markPath n.val).notePath n false
  (s1.raise 0x20 9 contained (packArg [i16 n.val, i16 (4 + n.val / 8)])).failPair

/-- SWAP_VERIFY_END (R178): `failed` names the path whose check failed, by its port as in `markPath`, which ends the verification at
once; `carried` the paths that carried a transmission and passed. One that carried none is checked at its first transmission within
24 h, which the command tells too. -/
def execSwapVerifyEnd (failed : Option (Fin 24)) (carried : BitVec 24) (s : State) : Outc :=
  let late := s.dx.txOpen ≠ 0 && s.uptime < s.dx.txSince + secs 86400
  done (match failed with
  | some p => if s.standby && (s.dx.verifying || (late && s.dx.txOpen.testBit p.val)) then s.failPath p else s
  | none =>
    if s.dx.verifying then
      s.onDue .swapVerify fun t =>
        let t1 : State := { t with dx := { t.dx with
          verifying := false, txOpen := 2 ^ 24 - 1 - carried.toNat, txSince := t.uptime } }
        if t1.standby then (t1.raise 0x20 4 corrected (packArg [i64 t.partnerSerial])).pairSwapped
        else t1.passPaths carried.toNat
    else if late then
      (let t : State := { s with dx := { s.dx with txOpen := s.dx.txOpen &&& (2 ^ 24 - 1 - carried.toNat) } }
       if t.standby then t else t.passPaths (s.dx.txOpen &&& carried.toNat))
    else s)

/-! ### Safe state, test-off and stuck channels -/

/-- SAFE (R172). -/
def execSafeFrame (payload : List Byte) (s : State) : Outc :=
  done (s.takePair payload 0x16 4 4 fun _ => s.enterSafe 2)

/-- The next channel commanded on, from `n` upward. -/
def State.nextOn (s : State) (n : Nat) : Option Nat :=
  (List.range 32).find? fun i => n ≤ i && (s.dio.latch &&& s.dioOutputs).testBit i && !s.dx.guardOpen.testBit i

/-- Open a channel for TEST_OFF_WIDTH. -/
def State.openChannel (s : State) (n : Nat) : State :=
  (({ s with dx := { s.dx with testing := 2 ^ n } } : State).syncDio).arm .testOffEnd (nsec (s.val 0x8110 8))

/-- TEST_OFF (R176): the standby opens its channels commanded on, one after the other, alternating from interval to interval between
high-side switch and guard switch. -/
def execTestOff (s : State) : Outc :=
  done (s.onDue .testOff fun t =>
    if !t.standby then t
    else match t.nextOn 0 with
      | some n => ({ t with dx := { t.dx with testGuard := !t.dx.testGuard } } : State).openChannel n
      | none => t.armTestOff)

/-- TEST_OFF_END (R176): `ok` where the current fell below 5 mA within 20 µs and the pad stayed above VIN − 2 V. -/
def execTestOffEnd (ok : Bool) (s : State) : Outc :=
  done (s.onDue .testOffEnd fun t =>
    let n := Nat.log2 t.dx.testing
    let t1 := ({ t with dx := { t.dx with testing := 0 } } : State).syncDio
    let t2 := if ok then t1.noteChannel (Fin.ofNat 32 n) true
      else ((t1.noteChannel (Fin.ofNat 32 n) false).markChannel n).raise 0x20 11 contained (packArg [i16 n, i16 3])
    match t2.nextOn (n + 1) with
    | some m => if t2.standby then t2.openChannel m else t2
    | none => if t2.standby then t2.armTestOff else t2)

/-- STUCK_CHANNEL_CUT (R174): current on the own channel n while it is commanded off. -/
def execStuckChannelCut (n : Fin 32) (s : State) : Outc :=
  done (if s.dx.mode ≠ 2 || (s.dio.latch &&& s.dioOutputs).testBit n.val || s.dx.guardOpen.testBit n.val then s
  else
    ((({ s with dx := { s.dx with guardOpen := putBit s.dx.guardOpen n.val true } } : State).syncDio).markChannel n.val).raise 0x20 10
      contained (packArg [i16 n.val, i16 0]))

end Sys2Proof.Machine
end

