-- ==== Sys2Proof/Machine/Boundary.lean ====
section
/-!
DEFINITION. The events of ring time that reach several families: the cycle boundary (R47, R189), the whole second (R228, R396) and
the start of a plan (R202); and what an applied commit set does beyond its values.
-/

namespace Sys2Proof.Machine

/-- A pending set takes effect, with the consequences of its chapter: queues, shapers, pulse, pins and channels (R119, R200, R228,
R372, R412). -/
def State.applyGroup (s : State) (g : Nat) : State :=
  let t := s.applySet g
  if g = 0x2111 then t.pump
  else if g = 0x22F0 then
    let changed := match (s.group g).pending with
      | some set => s.changedShapers set
      | none => []
    (changed.foldl State.resetShaper t).pump
  else if g = 0x3031 then (if t.tu.pps then t.drivePps false else t)
  else if g = 0x5101 then t.pinsApplied s
  else if inSpan 0x8220 0x823F g then t.requeueReplay (Fin.ofNat 32 g)
  else if inSpan 0x4304 0x4307 g then t.dioApplied (g % 4) (s.val (g - 4) 1)
  else t

/-- A set for CYCLE is applied when its change has taken effect (R192). -/
def State.applyCycle (s before : State) : State :=
  if before.cyc.change.isSome && s.cyc.change.isNone then s.applySet 0x2201 else s

/-- The hub takes its granted number at its cycle (R453, R457). -/
def State.grantBoundary (s : State) : State :=
  match s.rs.grant with
  | some g => if laterCycle g.cycle s.cycleNumber = s.cycleNumber then s.takeGrant else s
  | none => s

/-- WHOLE_SECOND (R127, R228, R396). A set for PPS_OUT that waits for it leaves a pulse in progress to end by the new WIDTH. -/
def execWholeSecond (s : State) : Outc :=
  let now := s.ringTime / secs 1
  done (if s.tu.second = now then s
  else
    let s1 : State := { s with tu := { s.tu with second := now }, sw := { s.sw with gapRaised := false } }
    let s2 := if (s1.group 0x3031).pending.isSome then (s1.applySet 0x3031).drivePps s1.tu.pps else s1
    [0x5114, 0x5115, 0x5116, 0x5117].foldl State.applyGroup s2)

/-- REPLAN_TIMER (R30, R202): unless management restarts, the keeper starts to read the load figures of the slow hops. -/
def execReplanTimer (s : State) : Outc :=
  done (if s.mgmt.restarting then s else s.onDue .replan fun t =>
    if t.isKeeper then { t with cyc := { t.cyc with planning := true, planAt := t.uptime } }.replanOn else t)

end Sys2Proof.Machine
end

