-- ==== Sys2Proof/Machine/Dictionary.lean ====
section
/-!
DEFINITION. The object dictionary (ch. 02): the views that engines compute, what a write of each object does, commits, transfers and
segmented sessions.
-/

namespace Sys2Proof.Machine

/-! ### Views (R35, R37, R49) -/

/-- Result and age of one test, or of several with one figure: fail if one fails, with the age of the oldest or of the newest (R179,
R185). -/
def State.testWord (s : State) (l : List (Nat × Nat)) (oldest : Bool) : Nat :=
  let run := l.filter fun t => t.1 != 0
  match run with
  | [] => 0
  | t :: r =>
    let at_ := r.foldl (fun acc x => if oldest then min acc x.2 else max acc x.2) t.2
    2 ^ 30 * (if run.any fun x => x.1 == 2 then 2 else 1) + min (2 ^ 30 - 1) ((s.uptime - at_) / secs 1)

/-- Result and age of a standby test as 0x8120 shows them (R179). -/
def State.testView (s : State) (i : Fin 8) : Nat :=
  if i.val = 2 then s.testWord s.dx.channelTests.toList true
  else if 3 ≤ i.val && i.val ≤ 5 then s.testWord ((s.dx.txTests.toList.drop (8 * (i.val - 3))).take 8) false
  else s.testWord [s.dx.tests[i]] true

/-- A commit object as it reads (R46). -/
def State.commitView (s : State) (g j : Nat) : Nat :=
  let x := s.group g
  match j with
  | 0 => 5
  | 2 => x.code
  | 3 => x.lastResult
  | 4 => x.applyCount
  | 5 => match x.owner with
    | some m => m.word
    | none => 0
  | _ => 0

/-- Seconds spent in a low-power state up to now (R475). -/
def State.powerSpent (s : State) (i : Fin 3) : Nat :=
  (s.pw.spent[i] + (if s.val 0x7000 3 = i.val + 1 then s.uptime - s.pw.last else 0)) / secs 1

/-- A bit for every channel whose DIAG word is not 0 (R371). -/
def State.diagSummary (s : State) : Nat :=
  ((List.finRange 32).filter fun n => s.diagWord n != 0).foldl (fun acc n => acc + 2 ^ n.val) 0

/-- Holder word of a bus (R318). -/
def State.holderWord (s : State) (b : Fin 16) : Nat :=
  match s.bridge.buses[b].holder with
  | some (t, _) => t.master.word + s.bridge.buses[b].waiters.length
  | none => 0

/-- The active value of an object: computed from its engine where one holds it, else as stored. -/
def State.viewOf (s : State) (i j : Nat) : Nat :=
  let stored := s.val i j
  if commitObjects.contains i then s.commitView i j
  else if i == 0x1000 then
    (match j with
      | 3 => s.ident.variant | 4 => s.ident.serial | 5 => s.ident.dateCode | 6 => s.ident.siliconRev | 7 => s.ident.fwVersion
      | 8 => s.ident.loaderVersion | 9 => s.ident.phyVersion | 0xA => s.ident.fingerprint | _ => stored)
  else if i == 0x1001 && j == 3 then (if s.dx.mode == 1 then s.ident.clusterId else 0)
  else if i == 0x1030 && j == 1 then s.sessions.length
  else if i == 0x2112 then
    (let gate := s.transitCells .bl0
     if 1 ≤ j && j ≤ 8 then (match Output.all[j - 1]? with
      | some o => s.occupancy o
      | none => 0)
     else match j with
      | 9 => s.transitCells .east - s.spillCells .east | 0xA => s.transitCells .west - s.spillCells .west | 0xB => gate
      | 0xC => s.spillCells .east | 0xD => s.spillCells .west
      | 0xE => 28672 - (Output.all.map s.occupancy).sum | 0xF => s.holdFree | _ => stored)
  else if i == 0x2140 then
    (match j with
      | 1 => (s.sw.flow.filter fun p => p.2.status == 1).length
      | 2 => (s.sw.flow.filter fun p => p.2.status == 2).length
      | 4 => flowBucket (bitField (s.val 0x2140 3) 35 32) (bitField (s.val 0x2140 3) 28 16) (s.val 0x2140 3 % 65536)
      | _ => stored)
  else if i == 0x2200 && s.cyc.have_ && j == 1 then s.cyc.length
  else if i == 0x2200 && s.cyc.have_ && j == 2 then s.cyc.pct
  else if i == 0x2240 && 1 ≤ j then (if !s.isKeeper then 0 else if j == 1 then s.rs.slow.length else stored)
  else if inSpan 0x2300 0x23FF i && j == 5 then ofSigned 32 ((s.tokens (i % 256)).fdiv tokenScale)
  else if i == 0x2401 && j == 9 then (match s.val 0x2401 8, s.rs.unmirrored with
      | 1, _ => min 0xFFFFFFFF (inNs (s.uptime - s.rs.appointed))
      | 2, some t => min 0xFFFFFFFF (inNs (s.uptime - t))
      | _, _ => 0)
  else if i == 0x3000 then
    (match j with
      | 1 => if s.timeState = 0 then 0 else time80 s.ringTime
      | 3 => s.estError
      | 0xA => ofSigned 32 (s.tu.left.fdiv (2 ^ 32))
      | 0xD => ofSigned 32 (s.tu.slew + s.tu.held)
      | _ => stored)
  else if i == 0x3100 && j == 1 then (s.wag.entries.filter fun p => p.2.st != 0).length
  else if i == 0x3100 && j == 2 then (s.wag.entries.filter fun p => p.2.st == 2 || p.2.st == 4).length
  else if i == 0x3110 && j == 1 then s.wag.reports.length
  else if i == 0x3110 && j == 2 then s.wag.readIndex
  else if inSpan 0x3210 0x321F i && j == 0xB then s.axisAt (Fin.ofNat 16 i) s.nowNs
  else if i == 0x4310 then
    (match j with
      | 1 => s.dioLevels s.dio.inState | 2 => s.dio.latch | 3 => s.diagSummary | _ => stored)
  else if i == 0x4400 && 5 ≤ j && j ≤ 8 then s.supplyState (j - 5)
  else if inSpan 0x4218 0x421F i && j == 0xA && stored ≤ 1 then (if (s.sdciPort (Fin.ofNat 8 i)).ds.isSome then 1 else 0)
  else if inSpan 0x5060 0x507F i then
    (let n : Fin 32 := Fin.ofNat 32 i
     match j with
      | 1 => (s.worker n).st | 2 => s.wcfg n 1 | 3 => (s.worker n).pc | 4 => (s.worker n).reason | _ => stored)
  else if i == 0x6010 then
    (match j with
      | 1 => s.rcd.headSeq | 2 => s.oldestSeq | 3 => s.rcd.crystal.length | _ => stored)
  else if i == 0x7000 then
    (match j with
      | 8 => s.powerSpent 0 | 9 => s.powerSpent 1 | 0xA => s.powerSpent 2 | _ => stored)
  else if i == 0x8100 && j == 2 then s.ident.clusterId
  else if i == 0x8120 && 1 ≤ j && j ≤ 8 then s.testView (Fin.ofNat 8 (j - 1))
  else if i == 0x8120 && j == 9 then
    (if s.paired && (List.finRange 8).all fun k => s.testView k / 2 ^ 30 != 2 then 1 else 0)
  else if i == 0x8300 && j == 2 then s.bridge.outstanding.length
  else if i == 0x8300 && j == 8 then 512 - (s.bridge.fences.filter s.fenceLive).length
  else if i == 0x8400 && j == 3 then ((List.finRange 16).filter s.busLocked).length
  else if i == 0x8401 && 1 ≤ j && j ≤ 16 then s.holderWord (Fin.ofNat 16 (j - 1))
  else stored

/-- Measured currents, which no command brings: each read draws a free value (R378, R384, R385; log entry 4). -/
def measuredKey (i j : Nat) : Bool :=
  (inSpan 0x4218 0x421F i && j == 9) || (i == 0x4310 && 4 ≤ j && j ≤ 8) || (i == 0x4400 && 9 ≤ j && j ≤ 0xC)

/-- An object read as active. In the bench state an object that is not persistent reads its default, JOIN_STATE apart (R459). -/
def State.activeValue (s : State) (key : Nat) : Nat × State :=
  if s.bench && !keyPersistent key && key != objKey 0x2420 5 then
    (if (objRow? (key / 256) (key % 256)).any fun r => r.acc == .const then s.viewOf (key / 256) (key % 256) else objDefault key, s)
  else if measuredKey (key / 256) (key % 256) then s.draw (2 ^ objBits key)
  else (s.viewOf (key / 256) (key % 256), s)

/-- The staged view of an object (R49). -/
def State.stagedView (s : State) (key : Nat) : Option Nat :=
  match groupOf (key / 256) with
  | some g => match (s.group g).pending with
    | some set => aget set key
    | none => aget (s.group g).staged key
  | none => none

/-- The bytes of a DOM as it reads (R457, R486, R499). -/
def State.domBytes (s : State) (key : Nat) : List Byte :=
  if key = objKey 0x2410 6 then mapBytes s.rs.map
  else if key = objKey 0x7011 7 || key = objKey 0x7012 7 then
    (match s.up.rx with
      | some r => if r.slot == some (Fin.ofNat 2 (key / 256 + 1)) then r.missing else []
      | none => [])
  else if key = objKey 0x7015 2 then
    (s.up.resetList.map fun p => leBytes 2 (p.1 / 256) ++ leBytes 1 (p.1 % 256) ++ leBytes 1 p.2).flatten
  else []

/-- Size in bytes of an object's value. -/
def keySize (key : Nat) : Nat := objBits key / 8

def keyIsDom (key : Nat) : Bool := (objRow? (key / 256) (key % 256)).any fun r => r.ty == .dom

/-- Steps 1 to 5 of R38 for a read. -/
def State.readCheck (s : State) (rq : Requester) (key : Nat) : Result :=
  match s.checkObject rq key .read with
  | .ok => if (objRow? (key / 256) (key % 256)).any fun r => r.acc == .wo then .accessDenied else .ok
  | e => e

/-- Read one object: `flags` as in a transfer header (R49, R51), 0 for the plain active view. -/
def State.readObject (s : State) (rq : Requester) (key flags : Nat) : State × Result × List Byte :=
  match s.readCheck rq key with
  | .ok =>
    if keyIsDom key then (s, .typeLength, [])
    else
      let const := (objRow? (key / 256) (key % 256)).any fun r => r.acc == .const
      let v := if flags.testBit 6 && !const then (objDefault key, s)
        else match (if flags.testBit 7 then s.stagedView key else none) with
          | some x => (x, s)
          | none => s.activeValue key
      (v.2, .ok, leBytes (keySize key) v.1)
  | e => (s.noteRefusal rq key .read, e, [])

/-- A read of a slot of the object window (R37): `len` bytes from the start of the slot. -/
def State.windowRead (s : State) (rq : Requester) (offset len : Nat) : State × Result × List Byte :=
  let key := offset / 0x1000 * 256 + offset / 16 % 256
  match s.readCheck rq key with
  | .ok =>
    if offset % 16 ≠ 0 || len = 0 || 16 < len then (s, .typeLength, [])
    else
      let v := if keyIsDom key then (s, leBytes 4 (s.domBytes key).length)
        else
          let a := s.activeValue key
          (a.2, leBytes (keySize key) a.1)
      (v.1, .ok, (v.2 ++ List.replicate 16 0#8).take len)
  | e => (s.noteRefusal rq key .read, e, [])

/-! ### Effects of writes -/

/-- The CLEAR object of an index, and the counters it sets to 0. -/
def clearSubs (i : Nat) : Option (Nat × List Nat) :=
  if i == 0x2010 || i == 0x2011 then some (0x14, List.range' 1 0x13)
  else if i == 0x2120 then some (0xA, List.range' 1 9)
  else if i == 0x2140 then some (6, [])
  else if i == 0x2150 then some (0x17, List.range' 1 0x16)
  else if inSpan 0x2220 0x2222 i then some (0xA, List.range' 1 9)
  else if i == 0x3002 then some (0xA, List.range' 1 9)
  else if i == 0x3100 then some (0xC, List.range' 3 9)
  else if i == 0x8300 then some (9, List.range' 3 5)
  else if inSpan 0x8200 0x821F i then some (0xD, List.range' 6 7)
  else if i == 0x8400 then some (8, List.range' 4 4)
  else if inSpan 0x4030 0x4037 i then some (0x13, List.range' 6 0xD)
  else if inSpan 0x4118 0x411F i then some (0xE, List.range' 2 0xC)
  else if i == 0x4310 then some (0xD, List.range' 0xA 3)
  else if inSpan 0x5060 0x507F i then some (0xB, List.range' 5 6)
  else none

/-- What a write of 1 to a CLEAR object does: the counters of its record; words 5 to 7 of every flow-table entry but ACKED_SEQ (R139);
with the load figures their maxima (R208). -/
def countersClearFx (i : Nat) (s : State) : State :=
  match clearSubs i with
  | none => s
  | some (_, js) =>
    let s1 := s.clearVals i js
    if i = 0x2140 then
      { s1 with sw := { s1.sw with flow := s1.sw.flow.map fun p => (p.1, { p.2 with frames := 0, drops := 0, gaps := 0, late := 0 }) } }
    else if inSpan 0x2220 0x2222 i then
      (if i = 0x2220 then [Output.east] else if i = 0x2221 then [.west] else [.bl0, .bl1, .bl2]).foldl
        (fun (t : State) o => t.updEgress o fun g => { g with history := [] }) s1
    else s1

/-- What a write of POP of the far-error log does (R282). -/
def farLogPopFx (n : Nat) (s : State) : State :=
  (s.setVal 0x8310 2 ((s.val 0x8310 2 + n) % 32)).setVal 0x8310 1 (s.val 0x8310 1 - n)

/-- Whether a frame of another node is on a CAN bus is open where the command does not say it (log entry 4). -/
def State.drawFrame (s : State) : Bool × State :=
  let d := s.draw 2
  (d.1 == 1, d.2)

/-- What a write of an object with plain storage and a further effect does. -/
def portFx (i j v : Nat) (s : State) : Option State :=
  if inSpan 0x2000 0x2001 i then
    (let p : RingPort := if i = 0x2000 then .east else .west
     match j with
      | 1 => some (portEnableFx p v s) | 2 => some (maxRateFx p v s) | 0x10 => some (retrainFx p v s) | _ => none)
  else if inSpan 0x3210 0x321F i && j ≤ 3 then some (followFx (Fin.ofNat 16 i) j v s)
  else if inSpan 0x3200 0x3203 i && j == 5 then some (presetFx (Fin.ofNat 4 i) v s)
  else if inSpan 0x4000 0x4007 i && j == 1 then
    (let d := s.drawFrame
     some (canEnableFx (Fin.ofNat 8 i) d.1 v d.2))
  else if inSpan 0x4000 0x4007 i && j == 7 then
    (let d := s.drawFrame
     some (canRestartFx (Fin.ofNat 8 i) d.1 d.2))
  else if inSpan 0x4000 0x4007 i && j == 2 then some ((s.setVal i j v).connectLine (Fin.ofNat 16 (i % 8)))
  else if inSpan 0x4100 0x4107 i && (j == 2 || j == 3) then some ((s.setVal i j v).connectLine (Fin.ofNat 16 (8 + i % 8)))
  else if inSpan 0x4100 0x4107 i && (j == 1 || j == 4) then some (serDriverFx (Fin.ofNat 8 i) j v s)
  else if inSpan 0x5040 0x505F i && (j == 2 || j == 3) then some (State.rxFlow 16 (Fin.ofNat 32 (i % 32)) (s.setVal i j v))
  else if inSpan 0x4210 0x4217 i && j == 1 then some (lPlusFx (Fin.ofNat 8 i) v s)
  else if inSpan 0x4210 0x4217 i && j == 5 then some (dsClearFx (Fin.ofNat 8 i) s)
  else if i == 0x4400 && 1 ≤ j && j ≤ 4 then some (supplyFx (Fin.ofNat 4 (j - 1)) v s)
  else if i == 0x6230 && j == 0xC then some (baselineFx .east s)
  else if i == 0x6231 && j == 0xC then some (baselineFx .west s)
  else none

/-- What a write of an object does (R35, R37): the effect its chapter gives it, else its value is stored. -/
def writeFx (rq : Requester) (key v : Nat) (s : State) : State :=
  let i := key / 256
  let j := key % 256
  if (clearSubs i).any fun c => c.1 == j then countersClearFx i s
  else match portFx i j v s with
  | some t => t
  | none =>
    if key = objKey 0x1001 5 then keeperPriorityFx v s
    else if key = objKey 0x1001 8 then releaseNumberFx s
    else if key = objKey 0x1010 4 then restoreFx s
    else if key = objKey 0x1010 5 then saveNowFx s
    else if i = 0x2230 then ((storeFx key v s).countIgnored 0 [j - 1]).pump
    else if key = objKey 0x2410 5 then commissionFx s
    else if key = objKey 0x3010 1 then referenceFx v s
    else if key = objKey 0x3010 4 then s.measured (toSigned 64 v)
    else if key = objKey 0x3010 5 then setTimeFx v s
    else if key = objKey 0x3020 2 then todFx v s
    else if key = objKey 0x3110 3 then reportPopFx v s
    else if key = objKey 0x6000 3 then safeExitFx s
    else if key = objKey 0x6000 5 then faultClearFx rq.master s
    else if key = objKey 0x6001 2 then releaseFx v s
    else if key = objKey 0x6010 6 then crystalClearFx rq.master s
    else if key = objKey 0x6200 0xB then planNowFx s
    else if key = objKey 0x7000 1 then latencyFx v s
    else if key = objKey 0x7000 6 then s.beginRestart 5
    else if key = objKey 0x7010 4 then activateFx v s
    else if key = objKey 0x7010 6 then s.confirm
    else if key = objKey 0x7010 9 then loadChannelsFx v s
    else if key = objKey 0x8110 4 then s.requestSwap
    else if key = objKey 0x8110 5 then (storeFx key v s).armAutoSwap
    else if key = objKey 0x8110 9 then (if s.armed .testOff then (storeFx key v s).armTestOff else storeFx key v s)
    else if key = objKey 0x8110 0x10 then rejoinFx s
    else if key = objKey 0x8310 3 then farLogPopFx v s
    else (storeFx key v s).pump

/-! ### Commits (R45 to R48) -/

/-- The consistency check of XLAT (R304). -/
def State.xlatOk (s : State) (set : List (Nat × Nat)) : Bool :=
  (List.range 16).all fun a =>
    let v (j : Nat) : Nat := s.setValue set (0x8510 + a) j
    bitField (v 1) 19 0 == 0 && bitField (v 1) 46 34 == 0 && 1 ≤ v 2 && v 2 ≤ 3

/-- The consistency check of DMA (R308). -/
def State.dmaOk (s : State) (set : List (Nat × Nat)) : Bool :=
  (List.range 8).all fun r =>
    let v (j : Nat) : Nat := s.setValue set (0x8530 + r) j
    let old (j : Nat) : Nat := s.val (0x8530 + r) j
    (!(v 1 == 1 && old 1 == 1) || (v 2 == old 2 && v 3 == old 3 && v 4 == old 4)) &&
      (List.range' 4 9).any (fun k => v 3 == 2 ^ k) &&
      (r < 4 || (2080 ≤ v 4 && v 4 ≤ 8192 && v 4 % 64 == 0)) && v 2 % 64 == 0 && v 5 % 8 == 0

/-- The consistency check of ACCESS (R506): fields in order, reserved bits 0, and the committing master keeps WRITE on the tables. -/
def State.accessOk (s : State) (m : MasterId) (set : List (Nat × Nat)) : Bool :=
  let value := s.setValue set
  ((List.range 24).all fun t =>
    let i := 0x7100 + t
    value i 0x81 < 16 && (List.range 64).all fun k =>
      let mt := value i (1 + k)
      let rg := value i (0x41 + k)
      bitField mt 13 2 == 0 &&
        (!mt.testBit 0 || (bitField mt 59 47 ≤ bitField mt 46 34 && bitField rg 63 32 ≤ bitField rg 31 0))) &&
    ((s.isLocal m && m.num.val == 0) ||
      (List.range 25).all fun t => (List.range 256).all fun j =>
        let lo := 0x07100000 + 0x1000 * t + 16 * j
        tableRights s value 0 m .write lo (lo + 15) || 0x07118FFF < lo)

/-- The consistency check of a group's set, as its chapter gives it; `m` commits (R47). -/
def State.setOk (s : State) (m : MasterId) (g : Nat) (set : List (Nat × Nat)) : Bool :=
  if g = 0x2111 then s.quotaOk set
  else if g = 0x2201 then s.cycleSetOk set
  else if g = 0x22F0 then s.shaperSetOk set
  else if g = 0x3031 then s.ppsSetOk set
  else if g = 0x5101 then s.pinsSetOk set
  else if g = 0x7118 then s.accessOk m set
  else if g = 0x8520 then s.xlatOk set
  else if g = 0x8538 then s.dmaOk set
  else if inSpan 0x8220 0x823F g then s.tunnelSetOk (Fin.ofNat 32 g) set
  else if inSpan 0x4010 0x4017 g then s.canTimingOk (Fin.ofNat 8 g) set
  else if inSpan 0x4038 0x403F g then s.canHpOk (Fin.ofNat 8 g) set
  else if inSpan 0x4110 0x4117 g then s.serSetOk (Fin.ofNat 8 g) set
  else if inSpan 0x4208 0x420F g then s.sdciSetOk (Fin.ofNat 8 g) set
  else if inSpan 0x4304 0x4307 g then s.dioSetOk (g % 4) set
  else if inSpan 0x5020 0x503F g then s.workerSetOk (Fin.ofNat 32 g) set
  else if inSpan 0x5114 0x5117 g then s.tickSetOk (Fin.ofNat 4 g) set
  else false

/-- An accepted set at its block (R47, R48): it waits for the block's boundary, or applies at once where the chapter says so or COMMIT
was written with 2 (`force`). In the bench state it is only stored (R459). -/
def State.settleGroup (s : State) (g : Nat) (force : Bool) : State :=
  if s.bench then s.applySet g
  else if g = 0x2201 then
    (match (s.group g).pending with
      | some set => if s.cyc.change.isSome then s else s.announceChange set
      | none => s)
  else if g = 0x3031 || inSpan 0x5114 0x5117 g then (if force then s.applyGroup g else s)
  else if inSpan 0x4010 0x4017 g then s.commitTiming (Fin.ofNat 8 g) force
  else if inSpan 0x4110 0x4117 g then s.commitSer (Fin.ofNat 8 g) force
  else if inSpan 0x4208 0x420F g then s.commitSdci (Fin.ofNat 8 g)
  else if inSpan 0x5020 0x503F g then
    (if force then s.forceFlip (Fin.ofNat 32 g) else s.commitWorker (Fin.ofNat 32 g))
  else s.applyGroup g

/-- The result of a commit request and the set it would load (R47, R48). -/
def State.commitResult (s : State) (m : MasterId) (g v : Nat) : Result :=
  let x := s.group g
  if x.pending.isSome then (if v = 2 then .ok else .stagedPending)
  else match x.owner with
    | none => .ok
    | some o => if o ≠ m then .inUse else if v = 0 || s.setOk m g x.staged then .ok else .commitInconsistent

/-- Carry out an accepted commit request. -/
def State.commit (s : State) (g v : Nat) : State :=
  let x := s.group g
  if x.pending.isSome then s.settleGroup g true
  else if x.owner.isNone then s
  else if v = 0 then s.discardStaged g
  else
    ((s.setGroup g { x with staged := [], owner := none, pending := some x.staged }).disarm (.claim g)).settleGroup g (v == 2)

/-- A write of COMMIT by the checks of R38, then of R47 and R48. LAST_RESULT keeps the result of every request that found the group
staged or pending, refused ones too (R46; DESIGN CHOICE, log entry 112); one that finds it IDLE changes nothing. -/
def State.commitWrite (s : State) (rq : Requester) (g : Nat) (bytes : List Byte) : State × Result :=
  let key := objKey g 1
  match s.checkWrite rq key bytes with
  | .ok =>
    let v := leNat bytes
    let r := s.commitResult rq.master g v
    let s1 := if r != .ok then s else if g = 0x2201 && v != 0 && s.isKeeper && (s.group g).code != 0 then (s.commit g v).arm .replan 0
      else s.commit g v
    (if (s.group g).code = 0 then s1 else s1.setGroup g { s1.group g with lastResult := r.code }, r)
  | e => (s.noteRefusal rq key .write, e)

/-- A write of any object by any transport (R37, R38): commits apart, ACTIVATE of a pair's image with whether the partner holds the
same image left open (R498, log entry 4). -/
def State.writeObject (s : State) (rq : Requester) (key : Nat) (bytes : List Byte) : State × Result :=
  let i := key / 256
  if commitObjects.contains i && key % 256 == 1 then s.commitWrite rq i bytes
  else if key = objKey 0x7010 4 && leNat bytes / 16 = 2 && s.checkWrite rq key bytes = .ok then
    (let d := s.draw 2
     if d.1 = 0 then (d.2, .imageRefused) else d.2.writeCore rq key bytes (writeFx rq key))
  else s.writeCore rq key bytes (writeFx rq key)

/-- A write request to one object with its answer; `op` is 2 for a transfer. -/
def State.writeRequest (s : State) (rq : Requester) (key : Nat) (bytes : List Byte) : State :=
  let r := s.writeObject rq key bytes
  (r.1.answerWrite rq 2 key r.2 bytes).noteOld s key

/-! ### Rows of the dictionary's own writes -/

/-- OBJECT_WRITE (R37). -/
def execObjectWrite (rq : Requester) (index : Fin 65536) (sub : Fin 256) (value : List Byte) (s : State) : Outc :=
  done (s.writeRequest rq (objKey index.val sub.val) value)

/-- STAGED_WRITE (R45). -/
def execStagedWrite (rq : Requester) (index : Fin 65536) (sub : Fin 256) (value : List Byte) (s : State) : Outc :=
  done (s.writeRequest rq (objKey index.val sub.val) value)

/-- CLAIM_TIMEOUT (R45): of the group with this commit object. -/
def execClaimTimeout (g : Fin 65536) (s : State) : Outc := done (s.onDue (.claim g.val) fun t => t.discardStaged g.val)

/-- COMMIT_DISCARD (R47). -/
def execCommitDiscard (rq : Requester) (g : Fin 65536) (s : State) : Outc := done (s.writeRequest rq (objKey g.val 1) (leBytes 1 0))

/-- COMMIT_AT_BOUNDARY (R47). -/
def execCommitAtBoundary (rq : Requester) (g : Fin 65536) (s : State) : Outc :=
  done (s.writeRequest rq (objKey g.val 1) (leBytes 1 1))

/-- COMMIT_NOW (R48). -/
def execCommitNow (rq : Requester) (g : Fin 65536) (s : State) : Outc := done (s.writeRequest rq (objKey g.val 1) (leBytes 1 2))

/-- COUNTERS_CLEAR (R95): the CLEAR object of this index. -/
def execCountersClear (rq : Requester) (index : Fin 65536) (value : List Byte) (s : State) : Outc :=
  let sub := match clearSubs index.val with
    | some c => c.1
    | none => 0
  done (s.writeRequest rq (objKey index.val sub) value)

/-! ### Segmented sessions (R53) -/

def State.session (s : State) (n : Nat) : Option Session := s.sessions.find? fun x => x.number == n

def State.closeSession (s : State) (n : Nat) : State :=
  ({ s with sessions := s.sessions.filter fun x => x.number != n } : State).disarm (.session n)

def State.putSession (s : State) (x : Session) : State :=
  ({ s with sessions := s.sessions.filter (fun y => y.number != x.number) ++ [x] } : State).arm (.session x.number)
    (nsec (s.val 0x1030 2))

/-- A session that was writing ends without its LAST segment: nothing is applied; an image is given up (R53, R454, R489). -/
def State.dropSession (s : State) (x : Session) : State :=
  let s1 := s.closeSession x.number
  if x.finished then s1
  else if x.write && x.key = objKey 0x7010 1 then s1.dropImage
  else if x.write && x.key = objKey 0x2420 9 then s1.losePush
  else s1

/-- The LAST segment of a write has been accepted: the session stays to answer a repeat (R53; DEDUCED, log entry 111). -/
def State.finishSession (s : State) (x : Session) (pos len : Nat) : State :=
  s.putSession { x with data := [], accepted := pos + len, last := some (pos, len), finished := true }

/-- Open a session under a number that is free; which one is open (log entry 4). -/
def State.openSession (s : State) (rq : Requester) (sdo : Option (Fin 8)) (write : Bool) (key total : Nat) (data : List Byte) :
    Nat × State :=
  let d := s.draw 255
  let n := ((List.range 255).map fun k => 1 + (d.1 + k) % 255).find? fun n => (d.2.session n).isNone
  let n := n.getD 0
  (n, d.2.putSession { number := n, master := rq.master, sdo := sdo, write := write, key := key, total := total, data := data, accepted := 0 })

/-- SEG_READ_INIT by its checks: the session and the total length. -/
def State.segReadInit (s : State) (rq : Requester) (sdo : Option (Fin 8)) (key flags : Nat) : State × Result × Nat × Nat :=
  match s.readCheck rq key with
  | .ok =>
    if !keyIsDom key then (s, .typeLength, 0, 0)
    else if 8 ≤ s.sessions.length then (s, .busyRetry, 0, 0)
    else
      let data := if flags.testBit 6 then [] else s.domBytes key
      let x := s.openSession rq sdo false key data.length data
      (x.2, .ok, x.1, data.length)
  | e => (s.noteRefusal rq key .read, e, 0, 0)

/-- The position of a segment (R53): it continues, repeats the last one, or is wrong. -/
inductive SegPos where
  | next | again | wrong
  deriving DecidableEq, Repr

def Session.place (x : Session) (pos len : Nat) : SegPos :=
  if pos = x.accepted && !x.finished then .next else if x.last = some (pos, len) then .again else .wrong

/-- A segment finds its session: open, of this master, of this direction and object (R53). -/
def State.findSession (s : State) (rq : Requester) (n key : Nat) (write : Bool) : Option Session :=
  (s.session n).bind fun x => if x.master = rq.master && x.write = write && x.key = key && x.sdo.isNone then some x else none

/-- SEG_READ by its checks. -/
def State.segRead (s : State) (rq : Requester) (key n pos len : Nat) : State × Result × List Byte :=
  match s.readCheck rq key with
  | .ok =>
    match s.findSession rq n key false with
    | none => (s, if keyIsDom key then .range else .typeLength, [])
    | some x =>
      let data := (x.data.drop pos).take len
      match x.place pos len with
      | .next => (s.putSession { x with accepted := pos + data.length, last := some (pos, len) }, .ok, data)
      | .again => (s.putSession x, .ok, data)
      | .wrong => (s.closeSession n, .range, [])
  | e => (s.noteRefusal rq key .read, e, [])

/-- A DOM that has been written whole takes effect (R53): the ring map (R457), or the settings image, which the hub then holds
(R454). -/
def State.applyDom (s : State) (key : Nat) (data : List Byte) : State × Result :=
  if key = objKey 0x2410 6 then
    (if !s.isKeeper then (s, .readOnly)
     else match s.mapCheck data with
      | .ok => (s.writeMap data, .ok)
      | e => (s, e))
  else if key = objKey 0x2420 9 then ({ s with rs := { s.rs with image := data } }, .ok)
  else (s, .ok)

/-- A segment of an image goes to its slot as it arrives (R489). A block that fails its check moves the bytes accepted back to its
start (R487). -/
def State.imageSegment (s : State) (x : Session) (pos : Nat) (value : List Byte) : State × Result :=
  let r := s.receiveBytes pos value
  match r.2 with
  | .ok => (r.1.putSession { x with accepted := pos + value.length, last := some (pos, value.length) }, .ok)
  | .badBlock start => (r.1.putSession { x with accepted := start, last := none }, .imageRefused)
  | .refused => (r.1.closeSession x.number, .imageRefused)
  | .noSlot => (r.1.closeSession x.number, .inUse)

/-- Steps 1 to 6 of R38 for a segment that writes. -/
def State.segWriteCheck (s : State) (rq : Requester) (key : Nat) : Result :=
  match s.checkObject rq key (writeRight key) with
  | .ok =>
    match (if key = objKey 0x2410 6 then (if s.isKeeper then Result.ok else .readOnly) else s.roleCheck rq key) with
    | .ok =>
      if (objRow? (key / 256) (key % 256)).any fun r => r.acc == .ro || r.acc == .const then .readOnly
      else if keyIsDom key then .ok else .typeLength
    | e => e
  | e => e

/-- SEG_WRITE_INIT by its checks (R53, R489). -/
def State.segWriteInit (s : State) (rq : Requester) (sdo : Option (Fin 8)) (key total : Nat) : State × Result × Nat :=
  match s.segWriteCheck rq key with
  | .ok =>
    if 0x400000 < total then (s, .range, 0)
    else if (s.sessions.any fun x => x.write && !x.finished && x.key == key) || (key = objKey 0x7010 1 && s.up.rx.isSome) then
      (s, .inUse, 0)
    else if 8 ≤ s.sessions.length then (s, .busyRetry, 0)
    else
      let x := s.openSession rq sdo true key total []
      (if key = objKey 0x7010 1 then x.2.beginImage none total else x.2, .ok, x.1)
  | e => (s.noteRefusal rq key (writeRight key), e, 0)

/-- SEG_WRITE by its checks; `last` is the LAST flag. -/
def State.segWrite (s : State) (rq : Requester) (key n pos : Nat) (value : List Byte) (last : Bool) : State × Result :=
  match s.segWriteCheck rq key with
  | .ok =>
    match s.findSession rq n key true with
    | none => (s, .range)
    | some x =>
      match x.place pos value.length with
      | .again => (s.putSession x, .ok)
      | .wrong => (s.dropSession x, .range)
      | .next =>
        let total := pos + value.length
        if last && total ≠ x.total then (s.dropSession x, .typeLength)
        else if key = objKey 0x7010 1 then
          (let r := s.imageSegment x pos value
           if last && r.2 = .ok then (r.1.finishSession x pos value.length, .ok) else r)
        else if last then
          (let r := (s.closeSession n).applyDom key (x.data ++ value)
           if r.2 = .ok then (r.1.finishSession x pos value.length, .ok) else r)
        else (s.putSession { x with data := x.data ++ value, accepted := total, last := some (pos, value.length) }, .ok)
  | e => (s.noteRefusal rq key (writeRight key), e)

/-- ABORT by its checks (R38, R53): it needs WRITE for a session that writes, else READ (DEDUCED, log entry 111). -/
def State.segAbort (s : State) (rq : Requester) (key n : Nat) : State × Result :=
  let right := if (s.session n).any fun x => x.write then writeRight key else .read
  match s.checkObject rq key right with
  | .ok =>
    match s.session n with
    | none => (s, .ok)
    | some x => if x.master = rq.master && x.sdo.isNone then (s.dropSession x, .ok) else (s, .range)
  | e => (s.noteRefusal rq key right, e)

/-- SESSION_TIMEOUT (R53): of a session that a transfer opened. -/
def execSessionTimeout (n : Fin 256) (s : State) : Outc :=
  done (match s.session n.val with
    | some x => if x.sdo.isNone then s.onDue (.session n.val) fun t => (t.dropSession x).bump 0x1030 3 else s
    | none => s)

/-! ### Dictionary transfers (R50 to R52, R537) -/

def transferKey (t : TransferReq) : Nat := objKey t.index.toNat t.sub.toNat

/-- The framing checks on a whole header (R537). -/
def framedOk (op : Nat) (t : TransferReq) : Bool :=
  match op with
  | 5 => t.value.isEmpty && 1 ≤ t.len.toNat && t.len.toNat ≤ 1024
  | 6 => t.len.toNat == t.value.length && 1 ≤ t.value.length && t.value.length ≤ 1024
  | 1 | 3 | 4 | 7 => t.len.toNat == 0 && t.value.isEmpty
  | _ => t.len.toNat == t.value.length

/-- Serve a dictionary transfer at this hub (R52, R53). -/
def State.transferOp (s : State) (rq : Requester) (op : Nat) (t : TransferReq) : State :=
  let key := transferKey t
  let n := t.session.toNat
  let pos := t.pos.toNat
  let flags := t.flags.toNat
  if !framedOk op t || op = 0 || 7 < op then
    s.answerTransfer rq .typeLength (transferHeader op Result.typeLength.code key n 0 pos)
  else match op with
    | 1 =>
      let r := s.readObject rq key flags
      r.1.answerObj rq 1 key 0 0 r.2.1 r.2.2
    | 2 => s.writeRequest rq key t.value
    | 3 =>
      let r := s.segReadInit rq none key flags
      r.1.answerObj rq 3 key r.2.2.1 r.2.2.2 r.2.1 []
    | 4 =>
      let r := s.segWriteInit rq none key pos
      r.1.answerObj rq 4 key r.2.2 pos r.2.1 []
    | 5 =>
      let r := s.segRead rq key n pos t.len.toNat
      r.1.answerObj rq 5 key n pos r.2.1 r.2.2
    | 6 =>
      let r := s.segWrite rq key n pos t.value (flags.testBit 0)
      r.1.answerObj rq 6 key n pos r.2 []
    | _ =>
      let r := s.segAbort rq key n
      r.1.answerObj rq 7 key n 0 r.2 []

/-- A transfer request as bytes (R51). -/
def transferOf (b : List Byte) : TransferReq where
  flags := BitVec.ofNat 8 (beAt b 1 1)
  index := BitVec.ofNat 16 (beAt b 2 2)
  sub := BitVec.ofNat 8 (beAt b 4 1)
  session := BitVec.ofNat 8 (beAt b 5 1)
  len := BitVec.ofNat 16 (beAt b 6 2)
  pos := BitVec.ofNat 32 (beAt b 8 4)
  value := b.drop 12

/-- A transfer request that arrives as bytes; `declared` is the LENGTH of the request head (R537). -/
def State.transferBytes (s : State) (rq : Requester) (declared : Nat) (b : List Byte) : State :=
  let op := beAt b 0 1
  if b.length < 12 || declared ≠ b.length then
    s.answerTransfer rq .typeLength
      (transferHeader (op % 128) Result.typeLength.code (transferKey (transferOf b)) (transferOf b).session.toNat 0 (transferOf b).pos.toNat)
  else if 128 ≤ op then
    s.answerTransfer rq .typeLength
      (transferHeader (op % 128) Result.typeLength.code (transferKey (transferOf b)) (transferOf b).session.toNat 0 (transferOf b).pos.toNat)
  else s.transferOp rq op (transferOf b)

/-- The bytes of a transfer request, as they travel. -/
def transferRequest (t : TransferReq) (op : Nat) : List Byte :=
  beBytes 1 op ++ beBytes 1 t.flags.toNat ++ beBytes 2 t.index.toNat ++ beBytes 1 t.sub.toNat ++ beBytes 1 t.session.toNat ++
    beBytes 2 t.len.toNat ++ beBytes 4 t.pos.toNat ++ t.value

end Sys2Proof.Machine
end

