-- ==== Sys2Proof/Machine/Sdo.lean ====
section
/-!
DEFINITION. The SDO server of the CAN ports (R55 to R57, R344).
-/

namespace Sys2Proof.Machine

/-- The requester that the access checker sees: master 3 of this hub (R56). -/
def State.sdoRequester (s : State) (n : Fin 8) : Requester :=
  { master := s.localMaster 3, tag := 0, via := .sdo n, cls := 3 }

/-- The transfer open on a port. -/
def State.sdoSession (s : State) (n : Fin 8) : Option Session := s.sessions.find? fun x => x.sdo == some n

/-- Close the transfer open on a port; what it was writing is not applied. -/
def State.sdoClose (s : State) (n : Fin 8) : State :=
  match s.sdoSession n with
  | some x => s.dropSession x
  | none => s

/-- The object that an initiate request names. -/
def sdoKey (b : List Byte) : Nat := objKey (leAt b 1 2) (leAt b 3 1)

/-- Abort with the code of a result (R57, R58). -/
def State.sdoFail (s : State) (n : Fin 8) (key : Nat) (res : Result) : State := s.sdoAbort n key (abortCode res) res.code

/-- Steps 1 to 6 of R38 for a segmented download of `size` bytes. -/
def State.sdoWriteCheck (s : State) (rq : Requester) (key size : Nat) : Result :=
  match s.checkObject rq key (writeRight key), objRow? (key / 256) (key % 256) with
  | .ok, some r =>
    if r.acc == .const || r.acc == .ro then .readOnly
    else match s.roleCheck rq key with
      | .ok => if !lengthOk r.ty size then .typeLength else if 8 ≤ s.sessions.length then .busyRetry else .ok
      | e => e
  | .ok, none => .noSub
  | e, _ => e

/-- Open a segmented download (R55). A size that the request does not indicate is the object's own; a DOM has none
(DEDUCED, log entry 56). -/
def State.sdoOpenWrite (s : State) (n : Fin 8) (key : Nat) (size : Option Nat) : State :=
  let rq := s.sdoRequester n
  if keyIsDom key then
    match size with
    | none => s.sdoFail n key .typeLength
    | some k =>
      let r := s.segWriteInit rq (some n) key k
      r.1.sdoDone n 0x60 key r.2.1
  else
    let k := size.getD (keySize key)
    match s.sdoWriteCheck rq key k with
    | .ok => (s.openSession rq (some n) true key k []).2.sdoDone n 0x60 key .ok
    | e => (s.noteRefusal rq key (writeRight key)).sdoFail n key e

/-- SDO_INITIATE_DOWNLOAD (R55): expedited (e, bit 1) with the size of bits 3..2 where it is indicated (s, bit 0), or segmented. -/
def execSdoInitiateDownload (n : Fin 8) (b : List Byte) (s : State) : Outc :=
  let c := leAt b 0 1
  let key := sdoKey b
  let s0 := s.sdoClose n
  done (if c.testBit 1 then
    (let size := if c.testBit 0 then 4 - c / 4 % 4 else min 4 (keySize key)
     let value := (b.drop 4).take size
     let rq := s0.sdoRequester n
     let r := s0.writeObject rq key value
     (r.1.answerWrite rq 0x60 key r.2 value).noteOld s0 key)
  else s0.sdoOpenWrite n key (if c.testBit 0 then some (leAt b 4 4) else none))

/-- The bytes of a download segment that continues the transfer, the last one where `last` (R55). -/
def State.sdoTake (s : State) (n : Fin 8) (x : Session) (value : List Byte) (last : Bool) (op : Nat) : State :=
  let total := x.accepted + value.length
  let y := { x with toggle := !x.toggle }
  if x.total < total || (last && total ≠ x.total) then (s.dropSession x).sdoFail n x.key .typeLength
  else if x.key = objKey 0x7010 1 then
    (let r := s.imageSegment y x.accepted value
     match r.2 with
     | .ok => (if last then r.1.closeSession x.number else r.1).sdoDone n op x.key .ok
     | e => (r.1.sdoClose n).sdoFail n x.key e)
  else if !last then (s.putSession { y with data := x.data ++ value, accepted := total }).sdoDone n op x.key .ok
  else if keyIsDom x.key then
    (let r := (s.closeSession x.number).applyDom x.key (x.data ++ value)
     r.1.sdoDone n op x.key r.2)
  else
    let rq := s.sdoRequester n
    let r := (s.closeSession x.number).writeObject rq x.key (x.data ++ value)
    r.1.answerWrite rq op x.key r.2 (x.data ++ value)

/-- A segment without its transfer or with the wrong toggle bit ends in an abort (R56); the result that R57 keeps is RANGE
(DEDUCED, log entry 56). -/
def State.sdoSegment (s : State) (n : Fin 8) (write toggle : Bool) (f : Session → State) : State :=
  match s.sdoSession n with
  | some x =>
    if x.write ≠ write then (s.dropSession x).sdoAbort n x.key 0x05040001 Result.typeLength.code
    else if x.toggle ≠ toggle then (s.dropSession x).sdoAbort n x.key 0x05030000 Result.range.code
    else f x
  | none => s.sdoFail n 0 (if s.mgmt.restarting then .busyRetry else .range)

/-- SDO_DOWNLOAD_SEGMENT (R55): toggle bit 4, unused bytes in bits 3..1, last segment bit 0. -/
def execSdoDownloadSegment (n : Fin 8) (b : List Byte) (s : State) : Outc :=
  let c := leAt b 0 1
  done (s.sdoSegment n true (c.testBit 4) fun x =>
    s.sdoTake n x ((b.drop 1).take (7 - c / 2 % 8)) (c.testBit 0) (0x20 + c / 16 % 2 * 16))

/-- SDO_INITIATE_UPLOAD (R55, R56): the active value, expedited up to 4 bytes, else segmented. -/
def execSdoInitiateUpload (n : Fin 8) (b : List Byte) (s : State) : Outc :=
  let key := sdoKey b
  let s0 := s.sdoClose n
  let rq := s0.sdoRequester n
  let segmented (t : State) (size : Nat) : State := t.sdoReply n key ([0x41#8] ++ sdoMux key ++ leBytes 4 size)
  let writeOnly (e : Result) : Bool :=
    e == .accessDenied && s0.permits rq (objTarget key) .read (objOffset key) (objOffset key + 15)
  done (if keyIsDom key then
    (let r := s0.segReadInit rq (some n) key 0
     if r.2.1 = .ok then segmented r.1 r.2.2.2
     else if writeOnly r.2.1 then r.1.sdoAbort n key 0x06010001 r.2.1.code
     else r.1.sdoFail n key r.2.1)
  else
    match s0.readObject rq key 0 with
    | (t, .ok, v) =>
      if v.length ≤ 4 then t.sdoReply n key (leBytes 1 (0x43 + (4 - v.length) * 4) ++ sdoMux key ++ (v ++ List.replicate 4 0).take 4)
      else if 8 ≤ t.sessions.length then t.sdoFail n key .busyRetry
      else segmented (t.openSession rq (some n) false key v.length v).2 v.length
    | (t, e, _) =>
      if writeOnly e then t.sdoAbort n key 0x06010001 e.code
      else t.sdoFail n key e)

/-- SDO_UPLOAD_SEGMENT (R55): the next 7 bytes at most; bit 0 marks the last ones. -/
def execSdoUploadSegment (n : Fin 8) (b : List Byte) (s : State) : Outc :=
  let c := leAt b 0 1
  done (s.sdoSegment n false (c.testBit 4) fun x =>
    let v := (x.data.drop x.accepted).take 7
    let now := x.accepted + v.length
    let last := x.data.length ≤ now
    let t := if last then s.closeSession x.number else s.putSession { x with accepted := now, toggle := !x.toggle }
    t.sdoReply n x.key (leBytes 1 (c / 16 % 2 * 16 + (7 - v.length) * 2 + (if last then 1 else 0)) ++ (v ++ List.replicate 7 0).take 7))

/-- SDO_ABORT (R55): the client's abort closes the transfer. -/
def execSdoAbort (n : Fin 8) (s : State) : Outc := done (s.sdoClose n)

/-- SDO_TIMEOUT (R56): the result that R57 keeps is the one with this abort code, FAR_TIMEOUT (DEDUCED, log entry 56). -/
def execSdoTimeout (n : Fin 8) (s : State) : Outc :=
  done (match s.sdoSession n with
    | some x => s.onDue (.session x.number) fun t => ((t.dropSession x).bump 0x1030 3).sdoFail n x.key .farTimeout
    | none => s)

end Sys2Proof.Machine
end

