-- ==== Sys2Proof/Machine/Windows.lean ====
section
/-!
DEFINITION. Reads, writes and atomic operations on any offset of the hub's map (R20, R276, R277): the windows of the object dictionary,
the field ports, the workers, the recorder, the flow table and the waggle table.
-/

namespace Sys2Proof.Machine

/-! ### Reads -/

/-- `len` bytes from `p` inside an area of words that begins at `base`. -/
def areaRead (base : Nat) (words : List Nat) (p len : Nat) : Result × List Byte :=
  if p - base + len ≤ 4 * words.length then (.ok, ((words.map fun w => leBytes 4 w).flatten.drop (p - base)).take len)
  else (.typeLength, [])

/-- The DIO window (R371). A write-only word beside readable ones reads open (log entry 58). -/
def State.dioRead (s : State) (p len : Nat) : Result × List Byte :=
  let row (base k size : Nat) : Bool := base ≤ p && p < base + k * size
  if !(row 0 7 4 || row 0x100 32 4 || row 0x200 32 4 || row 0x1000 32 256) then (.noTarget, [])
  else if p % 4 != 0 || len % 4 != 0 || len = 0 || 2040 < len then (.typeLength, [])
  else if p < 0x100 then
    areaRead 0 [s.dioLevels s.dio.inState, s.dioLevels s.dio.inRaw, s.dio.latch, s.openWord 1, s.openWord 2, s.diagSummary, s.openWord 3] p len
  else if p < 0x200 then areaRead 0x100 ((List.finRange 32).map s.diagWord) p len
  else if p < 0x1000 then areaRead 0x200 ((List.range 32).map fun n => s.capState (Fin.ofNat 64 n)) p len
  else if p - 0x1000 + len ≤ 0x2000 then
    (.ok, (((List.range ((p % 16 + len + 15) / 16)).map fun k =>
      s.capBytes (Fin.ofNat 64 (((p - 0x1000) / 16 + k) / 16)) (((p - 0x1000) / 16 + k) % 16)).flatten.drop (p % 16)).take len)
  else (.typeLength, [])

/-- The area of the worker window that an offset lies in: its start and end. -/
def workerArea (rel : Nat) : Option (Nat × Nat) :=
  let b := rel / 0x1000 * 0x1000
  let p := rel % 0x1000
  if rel < 0x20000 then
    (if p < 0x80 then some (b, b + 0x80) else if p < 0x100 then some (b + 0x80, b + 0x100)
     else if 0x108 ≤ p && p < 0x11C then some (b + 0x108, b + 0x11C) else none)
  else if rel < 0x20020 then some (0x20000, 0x20020)
  else if 0x30000 ≤ rel && rel < 0x32000 then some (0x30000, 0x32000)
  else if 0x32000 ≤ rel && rel < 0x32080 then some (0x32000, 0x32080)
  else none

/-- The worker window (R401, R407). -/
def State.workerRead (s : State) (offset len : Nat) : State × Result × List Byte :=
  let rel := offset % 0x10000000
  if 0x32100 ≤ rel then (s, .noTarget, [])
  else if rel % 4 != 0 || len % 4 != 0 || len = 0 || 128 < len then (s, .typeLength, [])
  else if rel < 0x20000 && rel % 0x1000 = 0x104 then s.rxRead (Fin.ofNat 32 (rel / 0x1000)) (len / 4)
  else match workerArea rel with
    | some (_, hi) =>
      if hi < rel + len then (s, .typeLength, [])
      else (s, .ok, ((List.range (len / 4)).map fun k => leBytes 4 ((s.workerWord (rel + 4 * k)).getD (s.openWord k))).flatten)
    | none => (s, .typeLength, [])

/-- The flow-table window (R109). -/
def State.flowRead (s : State) (offset len : Nat) : Result × List Byte :=
  let rel := offset % 0x10000000
  if 0x80000 ≤ rel then (.noTarget, [])
  else if rel % 4 != 0 || len % 4 != 0 || len = 0 then (.typeLength, [])
  else areaRead 0 (s.flowWords (rel / 32)) (rel % 32) len

/-- The slot of a report in the queue's circle (R252). What an empty slot reads as is open (log entry 4). -/
def State.reportSlot (s : State) (i : Nat) : List Byte :=
  (s.wag.reports[(i + 64 - s.wag.readIndex % 64) % 64]?).getD (leBytes 32 (s.openBits i 256))

/-- The waggle-table window (R239, R252). -/
def State.wagRead (s : State) (offset len : Nat) : Result × List Byte :=
  let rel := offset % 0x10000000
  if 0x40800 ≤ rel then (.noTarget, [])
  else if rel % 4 != 0 || len % 4 != 0 || len = 0 || 64 < len then (.typeLength, [])
  else if rel < 0x40000 then areaRead 0 (s.wagEntry (rel / 64)).read (rel % 64) len
  else if rel % 32 + len ≤ 32 then (.ok, ((s.reportSlot (rel % 0x40000 / 32)).drop (rel % 32)).take len)
  else (.typeLength, [])

/-- A read of the window a request names, once its access is granted. Levels of DI pads, which no command brings, and the open bits
of a window are free values (log entry 4). -/
def State.windowAt (s : State) (offset len : Nat) : State × Result × List Byte :=
  let moved := { s with freeCount := s.freeCount + 64 }
  let n : Fin 8 := Fin.ofNat 8 (offset / 0x10000 % 16)
  let p := offset % 0x10000
  if offset < 0x10100000 then (moved, s.canRead n p len)
  else if offset < 0x10200000 then (moved, s.serRead n p len)
  else if offset < 0x10300000 then
    (let d := moved.draw 2
     let t := d.2.setSdci n { d.2.sdciPort n with di := d.1 == 1 }
     (t, t.sdciRead n p len))
  else if offset < 0x20000000 then (moved, s.dioRead p len)
  else if offset < 0x30000000 then (let r := s.workerRead offset len
    ({ r.1 with freeCount := r.1.freeCount + 64 }, r.2))
  else if offset < 0x40000000 then s.recorderRead offset len
  else if offset < 0x50000000 then (s, s.flowRead offset len)
  else (moved, s.wagRead offset len)

/-- A request lies inside one row of the offset map (R276). -/
def oneRow (offset len : Nat) : Bool := offset < 0x60000000 && (offset + len - 1) / 0x10000000 == offset / 0x10000000

/-- A read at its target (R37, R50, R278): offset 0 with no transfer, and up to 0xFFFF, holds nothing. -/
def State.serveRead (s : State) (rq : Requester) (offset len : Nat) : State :=
  if offset = 0 || (16 ≤ offset && offset < 0x10000) || !oneRow offset len then s.answer rq offset len .noTarget []
  else if offset < 0x10000000 then
    let r := s.windowRead rq offset len
    r.1.answer rq offset len r.2.1 r.2.2
  else s.hwRead rq offset len fun t => t.windowAt offset len

/-! ### Writes -/

/-- A write of the DIO window (R371). -/
def State.dioWindow (s : State) (p : Nat) (bytes : List Byte) : State × Result :=
  let v := leNat bytes
  let word (k : State × Result) : State × Result := if p % 4 = 0 && bytes.length = 4 then k else (s, .typeLength)
  if p = 8 then word (s.outImage v)
  else if p = 0xC then word (s.outSet v)
  else if p = 0x10 then word (s.outClear v)
  else if p = 0x18 then word (s.dioCapPop v)
  else if p < 0x1C then (if p < 8 || (0x14 ≤ p && p < 0x18) then (s, .readOnly) else (s, .typeLength))
  else if 0x100 ≤ p && p < 0x180 then word (s.clearDiag (Fin.ofNat 32 ((p - 0x100) / 4)) v)
  else if (0x200 ≤ p && p < 0x280) || (0x1000 ≤ p && p < 0x3000) then (s, .readOnly)
  else (s, .noTarget)

/-- A write of the flow-table window (R109). -/
def State.flowWindow (s : State) (offset : Nat) (bytes : List Byte) : State × Result :=
  let rel := offset % 0x10000000
  if 0x80000 ≤ rel then (s, .noTarget)
  else if 16 < rel % 32 + bytes.length then (s, .readOnly)
  else if rel % 32 = 0 && bytes.length = 16 then
    s.flowWrite (rel / 32) (leAt bytes 0 4) (leAt bytes 4 4) (leAt bytes 8 4) (leAt bytes 12 4)
  else (s, .typeLength)

/-- A write of the window a request names, once its access is granted. -/
def State.writeAt (s : State) (rq : Requester) (offset : Nat) (bytes : List Byte) : State × Result :=
  let n : Fin 8 := Fin.ofNat 8 (offset / 0x10000 % 16)
  let p := offset % 0x10000
  if offset < 0x10100000 then s.canWindow rq n p bytes
  else if offset < 0x10200000 then s.serWindow rq n p bytes
  else if offset < 0x10300000 then s.sdciWindow n p bytes
  else if offset < 0x20000000 then s.dioWindow p bytes
  else if offset < 0x30000000 then s.workerWrite offset bytes
  else if offset < 0x40000000 then s.recorderWrite
  else if offset < 0x50000000 then s.flowWindow offset bytes
  else s.wagWrite offset bytes

/-- The object window takes a write at the first byte of a slot (R37); the checks before that of the length come first (R38). -/
def State.windowWrite (s : State) (rq : Requester) (offset : Nat) (bytes : List Byte) : State × Result :=
  let key := offset / 0x1000 * 256 + offset / 16 % 256
  if offset % 16 = 0 then s.writeObject rq key bytes
  else match s.checkWrite rq key bytes with
    | .accessDenied => (s.noteRefusal rq key (writeRight key), .accessDenied)
    | .busyRetry => (s, .busyRetry)
    | .noObject => (s, .noObject)
    | .noSub => (s, .noSub)
    | .readOnly => (s, .readOnly)
    | _ => (s, .typeLength)

/-- A write at its target (R37, R276, R280). -/
def State.serveWrite (s : State) (rq : Requester) (offset : Nat) (bytes : List Byte) : State :=
  if !oneRow offset bytes.length then s.answer rq offset bytes.length .noTarget []
  else if offset < 0x10000000 then
    let r := s.windowWrite rq offset bytes
    if r.2 = .ok then r.1.answerWrite rq 0 (offset / 0x1000 * 256 + offset / 16 % 256) .ok bytes
    else r.1.answer rq offset bytes.length r.2 []
  else s.hwWrite rq offset bytes fun t => t.writeAt rq offset bytes

/-! ### Atomic operations -/

/-- An atomic operation at its target (R277): only a 4-byte compare-swap on OUT_IMAGE is accepted (R350). `data` are its operands. -/
def State.serveAtomic (s : State) (rq : Requester) (swap : Bool) (offset : Nat) (data : List Byte) : State :=
  let len := data.length
  let size := if swap then len / 2 else len
  if !oneRow offset size || (0x10000000 ≤ offset && (targetOf offset).isNone) then s.answer rq offset len .noTarget []
  else if offset < 0x10000000 || offset / 0x10000 ≠ 0x1030 then s.answer rq offset len .accessDenied []
  else if s.notMine rq then s
  else
    let c := s.checkAccess rq .atomicLock offset size
    if c.2 ≠ .ok then c.1.answer rq offset len c.2 []
    else if len ≠ (if swap then 2 * size else size) || (size ≠ 4 && size ≠ 8) || offset % size ≠ 0 then
      c.1.answer rq offset len .typeLength []
    else if !swap || size ≠ 4 || offset ≠ 0x10300008 then c.1.answer rq offset len .accessDenied []
    else
      let old := leBytes 4 c.1.dio.latch
      if leAt data 0 4 ≠ c.1.dio.latch then c.1.answer rq offset len .ok old
      else
        let r := c.1.outImage (leAt data 4 4)
        if r.2 = .ok && r.1.mirroring then 
          r.1.mirror (.write (BitVec.ofNat 32 offset) (leBytes 4 (leAt data 4 4))) rq 0 offset len old
        else r.1.answer rq offset len r.2 old

end Sys2Proof.Machine
end

