-- ==== Sys2Proof/Machine/Requests.lean ====
section
/-!
DEFINITION. Fabric requests at their target and at their initiator (R273 to R284), dictionary transfers (R50 to R54), the far-error log
(R281), tunnels that are replayed (R290, R291).
-/

namespace Sys2Proof.Machine

/-! ### At the target -/

/-- The requester that a frame names, with the transport its request uses. -/
def frameRequester (f : TakenFrame) (via : Via) : Requester where
  master := ⟨Fin.ofNat 16 f.hdr.sRing.toNat, Fin.ofNat 8192 f.hdr.sNode.toNat, Fin.ofNat 16 f.hdr.sMaster.toNat⟩
  tag := Fin.ofNat 65536 f.hdr.tag.toNat
  via := via
  cls := Fin.ofNat 4 f.hdr.cls.toNat
  locked := f.hdr.locked == 1

/-- Which member of a pair acts on a request (R163, R164): the primary on a shared target, the one named on its own. -/
def State.actsOn (s : State) (h : Header) (offset : Nat) : Bool :=
  !s.paired || (if memberTarget offset then h.dNode.toNat == s.node || h.dNode.toNat == 8191 else !s.standby)

/-- A standby computes the response to a request on a shared target as the primary does, holds it, and changes nothing (R165). -/
def State.shadowServe (s : State) (offset : Nat) (k : State → State) : State :=
  let t := s.sharedAt offset k
  { s with dx := { s.dx with held := t.dx.held, sharedSeq := t.dx.sharedSeq }, sw := { s.sw with reqSeq := t.sw.reqSeq } }

/-- A request is served by the member that acts on it; the standby holds what the primary answers on a shared target (R163 to R165). -/
def State.serveMember (s : State) (h : Header) (offset : Nat) (k : State → State) : State :=
  if s.actsOn h offset then s.sharedAt offset k
  else if memberTarget offset then s else s.shadowServe offset k

/-- A request frame reaches the hub of the slot it names (R20, R160): slot 0 of a wide node passes it over the board link to that slot. -/
def State.atSlot (s : State) (f : TakenFrame) (rq : Requester) (k : State → State) : State :=
  let offset := beAt f.payload 0 4
  let slot := beAt f.payload 4 1 % 4
  if slot = s.val 0x1001 3 then s.serveMember f.hdr offset k
  else if s.dx.mode = 1 && s.ident.clusterId = 0 && (s.dx.links.toList.getD (slot - 1) {}).up then
    let o : Output := if slot = 1 then .bl0 else if slot = 2 then .bl1 else .bl2
    s.storeTransit o (QFrame.received f.hdr f.payload (arrivalOf s.ringTime) none f.stamp)
  else s.answer rq offset (beAt f.payload 6 2) .noTarget []

/-- A transfer over the fabric on a pair: the object decides which member serves it. -/
def State.serveTransfer (s : State) (rq : Requester) (h : Header) (declared : Nat) (b : List Byte) : State :=
  let offset := objOffset (transferKey (transferOf b))
  s.serveMember h offset fun t => t.transferBytes rq declared b

/-- READ_REQ at its target (R50, R278). -/
def execReadReq (f : TakenFrame) (s : State) : Outc :=
  let rq := frameRequester f .window
  let offset := beAt f.payload 0 4
  let len := beAt f.payload 6 2
  done (if offset = 0 && len ≠ 0 then
    (let t := frameRequester f .transfer
     let slot := beAt f.payload 4 1 % 4
     if slot = s.val 0x1001 3 then s.serveTransfer t f.hdr len (f.payload.drop 8) else s.atSlot f rq id)
  else s.atSlot f rq fun t => t.serveRead rq offset len)

/-- Use the fence state of a master (R284): whether there is one, and whether it is new. With no state free the one idle longest, for at
least 1 ms, is reclaimed. -/
def State.touchFence (s : State) (m : MasterId) : State × Bool × Bool :=
  let live := s.bridge.fences.filter s.fenceLive
  let put (l : List FenceState) : State := { s with bridge := { s.bridge with fences := l } }
  match live.find? fun f => f.master == m with
  | some f => (put ((live.filter fun x => x.master != m) ++ [{ f with lastUse := s.uptime }]), true, false)
  | none =>
    let new : FenceState := { master := m, lastUse := s.uptime }
    if live.length < 512 then (put (live ++ [new]), true, true)
    else match live with
      | f :: l => if f.lastUse + msec 1 ≤ s.uptime then (put (l ++ [new]), true, true) else (s, false, false)
      | [] => (s, false, false)

/-- No fence state is free for a request: the frame is discarded and reported (R107, R284). -/
def State.fenceFull (s : State) (m : MasterId) : State :=
  (s.bump 0x2150 0x16).raise 0x10 7 corrected (packArg [i16 m.ring.val, i16 m.node.val])

/-- A posted write at its target, within its master's fence state (R280, R284). Without a state the frame is discarded (R107). -/
def State.servePosted (s : State) (rq : Requester) (offset : Nat) (bytes : List Byte) : State :=
  let t := s.touchFence rq.master
  if t.2.1 then t.1.serveWrite rq offset bytes else t.1.fenceFull rq.master

/-- The data of a write must be as long as its head says, up to 2,040 bytes (R273, R274). -/
def writeData (f : TakenFrame) : Option (List Byte) :=
  let d := f.payload.drop 8
  if d.length = beAt f.payload 6 2 && d.length ≠ 0 && d.length ≤ 2040 then some d else none

/-- WRITE_POSTED at its target (R280). -/
def execWritePosted (f : TakenFrame) (s : State) : Outc :=
  let rq := frameRequester f .posted
  done (s.atSlot f rq fun t => match writeData f with
    | some d => t.servePosted rq (beAt f.payload 0 4) d
    | none =>
      let u := t.touchFence rq.master
      if u.2.1 then u.1.answer rq (beAt f.payload 0 4) (beAt f.payload 6 2) .typeLength [] else u.1.fenceFull rq.master)

/-- WRITE_ACKED at its target (R273). -/
def execWriteAcked (f : TakenFrame) (s : State) : Outc :=
  let rq := frameRequester f .window
  done (s.atSlot f rq fun t => match writeData f with
    | some d => t.serveWrite rq (beAt f.payload 0 4) d
    | none => t.answer rq (beAt f.payload 0 4) (beAt f.payload 6 2) .typeLength [])

/-- COMPARE_SWAP at its target (R277). -/
def execCompareSwap (f : TakenFrame) (s : State) : Outc :=
  let rq := frameRequester f .window
  done (s.atSlot f rq fun t => t.serveAtomic rq true (beAt f.payload 0 4) (f.payload.drop 8))

/-- FETCH_ADD at its target (R277). -/
def execFetchAdd (f : TakenFrame) (s : State) : Outc :=
  let rq := frameRequester f .window
  done (s.atSlot f rq fun t => t.serveAtomic rq false (beAt f.payload 0 4) (f.payload.drop 8))

/-- A FENCE of a master (R283, R284): it waits for posted writes that wait for the standby. -/
def State.serveFence (s : State) (rq : Requester) : State :=
  let t := s.touchFence rq.master
  if !t.2.1 then t.1.fenceFull rq.master
  else if t.1.fenceClear rq.master then t.1.answerFence rq t.2.2
  else { t.1 with bridge := { t.1.bridge with fenceWait := t.1.bridge.fenceWait ++ [rq] } }

/-- FENCE at its target (R283). -/
def execFence (f : TakenFrame) (s : State) : Outc :=
  let rq := frameRequester f .window
  done (s.atSlot f rq fun t => t.serveFence rq)

/-! ### At the initiator (R279) -/

/-- The fabric address of a request in flight, for the far-error log. -/
def Pending.address (p : Pending) : Nat :=
  2 ^ 60 * p.ring + 2 ^ 47 * p.node + 2 ^ 32 * (if p.typ = typLock then 0 else beAt p.payload 4 1 % 4) + p.offset

/-- The end of a request is reported to the master that asked (R279, R305): a transfer for the USB port as its response (R54). -/
def State.deliver (s : State) (p : Pending) (res : Result) (data : List Byte) : State :=
  let rq : Requester := { master := s.localMaster p.num, tag := p.tag, via := p.via, cls := Fin.ofNat 4 p.cls }
  match p.via with
  | .usb =>
    let b := p.payload.drop 8
    if res = .ok then s.usbAnswer p.tag.val (beAt data 1 1) data
    else s.usbAnswer p.tag.val res.code (transferHeader (beAt b 0 1 % 128) res.code (transferKey (transferOf b))
      (transferOf b).session.toNat 0 (transferOf b).pos.toNat)
  | .host o => s.answerHost rq o.val p.address p.length res data
  | .push => s
  | _ => s.emit (.answer rq res data)

/-- The end of a LOCK request of this hub's master (R294, R296, R299). -/
def State.lockEnds (s : State) (p : Pending) (res : Result) (data : List Byte) : State :=
  let bus := 16 * (beAt p.payload 3 1 % 4) + (beAt p.payload 1 1 - 1) * 8 + beAt p.payload 2 1
  match beAt p.payload 0 1 with
  | 1 =>
    if res = .ok then s.noteGrant p.num p.ring p.node bus (beAt data 0 4)
    else if res = .lockConflict then s.lockConflict p.num p.tag (beAt p.payload 16 4)
    else s.updTicket p.num fun t => { t with outstanding := t.outstanding - 1 }
  | 2 => if res = .lockExpired then s.dropHeld p.num p.ring p.node bus else s
  | _ => if res = .ok || res = .lockExpired then s.dropHeld p.num p.ring p.node bus else s

/-- Send a request both ways, tracked unless it is posted (R273, R279). A request of slot 0 of a wide node to another slot of the node
goes over the board link to that slot (R160). -/
def State.issueNow (s : State) (p : Pending) : State :=
  if p.typ = typLock && beAt p.payload 0 1 = 1 then s.sendAcquire p
  else
    let locked := s.holdsLockAt p.num p.ring p.node && p.typ ≠ typLock
    let slot := beAt p.payload (if p.typ = typLock then 3 else 4) 1 % 4
    let s0 := s.sendRequest p slot locked
    let s1 := s0.bump 0x8300 3
    if p.typ = typWritePosted then s1
    else if p.via = .host 1 && s1.armed (.reqTimeout p.num p.tag) then s1.track p
    else (s1.track p).arm (.reqTimeout p.num p.tag) (nsec (s.val 0x8300 1))

/-- A request need not wait at its master: fewer than 256 in flight, no back-off for an ACQUIRE (R299), no acked write of its aperture
still in flight (R304). -/
def State.canIssue (s : State) (p : Pending) : Bool :=
  p.typ == typWritePosted ||
    (decide (s.bridge.outstanding.length < 256) &&
      !(p.typ == typLock && beAt p.payload 0 1 == 1 && (s.ownTicket p.num).backingOff) &&
      (p.aperture.isNone || !s.bridge.outstanding.any fun q => q.aperture == p.aperture))

/-- Issue a request, or let it wait at its master. The deadline of a host read runs while it waits (R306). -/
def State.issue (s : State) (p : Pending) : State :=
  if s.canIssue p && !(s.bridge.waiting.any fun q => q.aperture.isSome && q.aperture == p.aperture) then s.issueNow p
  else
    let s1 := { s with bridge := { s.bridge with waiting := s.bridge.waiting ++ [p] } }
    if p.via = .host 1 && !s1.armed (.reqTimeout p.num p.tag) then s1.arm (.reqTimeout p.num p.tag) (nsec (s.val 0x8300 1)) else s1

/-- Requests that wait are looked at again, in their order. -/
def State.issueWaiting (s : State) : State :=
  s.bridge.waiting.foldl (fun (t : State) p => t.issue p) { s with bridge := { s.bridge with waiting := [] } }

/-- BACKOFF_END (R299): the waiting ACQUIREs of the master proceed; the ticket lives one quantum longer (R294). -/
def execBackoffEnd (n : Fin 16) (s : State) : Outc :=
  done (s.onDue (.backoff n) fun t =>
    let q := (t.ownTicket n).quantum
    ((t.updTicket n fun x => { x with backingOff := false, grace := true }).arm (.ticketGrace n)
      (usec (if q = 0 then t.leaseDefault else q))).issueWaiting)

/-- A request in flight ends with a result. -/
def State.finish (s : State) (p : Pending) (res : Result) (data : List Byte) : State :=
  let s1 := s.untrack p
  let s2 := if p.typ = typLock then s1.lockEnds p res data else s1
  (if p.silent then s2 else s2.deliver p res data).issueWaiting

/-- A request refused by this hub before any frame is sent (R19, R274): reported to its master. -/
def State.deny (s : State) (p : Pending) (res : Result) : State := s.deliver p res []

/-- TYPE of the frame that asks. -/
def askTyp : FabricAsk → Nat
  | .read _ | .fence | .transfer _ => typReadReq
  | .writePosted _ => typWritePosted
  | .writeAcked _ => typWriteAcked
  | .atomic _ _ => typAtomic
  | _ => typLock

/-- LENGTH that the request head carries (R274). -/
def askLen : FabricAsk → Nat
  | .read n => n.val
  | .transfer b | .writePosted b | .writeAcked b | .atomic _ b => b.length
  | _ => 0

/-- The payload of the request (R274, R295). -/
def askPayload (a : FabricAsk) (offset slot : Nat) : List Byte :=
  match a with
  | .read n => requestHead offset slot 0 n.val
  | .fence => requestHead 0 slot 1 0
  | .transfer b => requestHead 0 slot 0 b.length ++ b
  | .writePosted b | .writeAcked b => requestHead offset slot 0 b.length ++ b
  | .atomic swap b => requestHead offset slot (if swap then 0 else 1) b.length ++ b
  | .lockAcquire b lease => lockSlot slot (lockPayload 1 b 0 lease.toNat 0)
  | .lockRenew b => lockSlot slot (lockPayload 2 b 0 0 0)
  | .lockRelease b => lockSlot slot (lockPayload 3 b 0 0 0)

/-- A request to this hub itself is served without a ring frame (R19, R300, R302). -/
def State.serveLocal (s : State) (p : Pending) (a : FabricAsk) : State :=
  let rq : Requester := {
    master := s.localMaster p.num, tag := p.tag, via := p.via, cls := Fin.ofNat 4 p.cls
    locked := s.holdsLockAt p.num s.ring s.node }
  match a with
  | .read n => s.serveRead rq p.offset n.val
  | .fence => s.serveFence rq
  | .transfer b => s.transferBytes { rq with via := if p.via = .usb then .usb else .transfer } b.length b
  | .writePosted b => s.servePosted { rq with via := .posted } p.offset b
  | .writeAcked b => s.serveWrite rq p.offset b
  | .atomic swap b => s.serveAtomic rq swap p.offset b
  | .lockAcquire _ _ => s.issue p
  | .lockRenew b => s.renew rq b
  | .lockRelease b => s.release rq b

/-- A request of a standby's host, service tool or management to a shared target of its pair: the primary serves it (R163). The engines
of both members act for themselves. -/
def State.forPrimary (s : State) (num : Fin 16) (offset : Nat) (a : FabricAsk) : Bool :=
  s.standby && num.val < 4 && (match a with
    | .fence => false
    | .transfer b => !memberTarget (objOffset (transferKey (transferOf b)))
    | .lockAcquire _ _ | .lockRenew _ | .lockRelease _ => true
    | _ => !memberTarget offset)

/-- A slot of this hub's node holds a hub (R20): in a wide node, as far as slot 0 sees it over its board links. -/
def State.slotOccupied (s : State) (slot : Nat) : Bool :=
  s.dx.mode == 1 && (s.ident.clusterId != 0 || slot == 0 || (s.dx.links.toList.getD (slot - 1) {}).up)

/-- A master's request is resolved and issued (R19, R273, R274, R279). -/
def State.ask (s : State) (num : Fin 16) (tag : Fin 65536) (via : Via) (cls : Nat) (aperture : Option (Fin 16)) (addr : Nat)
    (a : FabricAsk) : State :=
  let ring := bitField addr 63 60
  let node := bitField addr 59 47
  let slot := bitField addr 33 32
  let offset := addr % 2 ^ 32
  let p : Pending := {
    num := num, tag := tag, via := via, typ := askTyp a, ring := ring, node := node, offset := offset, length := askLen a
    payload := askPayload a offset slot, cls := cls, aperture := aperture }
  let own := node = 0 || (ring = s.ring && node = s.node)
  if bitField addr 46 34 ≠ 0 then s.deny p .noTarget
  else if own && slot = 0 && s.forPrimary num offset a then s.issue { p with node := s.partnerNode, ring := s.ring }
  else if own && (slot = s.val 0x1001 3 || (node = 0 && slot = 0)) then s.serveLocal p a
  else if own && !s.slotOccupied slot then s.deny p .noTarget
  else if node = 8191 then
    (if askTyp a ≠ typWritePosted then s.deny p .noTarget
     else
       let t := s.issue p
       if ring = s.ring && slot = s.val 0x1001 3 then t.serveLocal p a else t)
  else if s.bench || (ring = s.ring && !own && !s.reachesNode node) then s.deny p .nodeUnreachable
  else s.issue { p with node := if node = 0 then s.node else node, ring := if node = 0 then s.ring else ring }

/-- REQUEST_ISSUE (R279). -/
def execRequestIssue (num : Fin 16) (tag : Fin 65536) (cls : Fin 4) (addr : BitVec 64) (a : FabricAsk) (s : State) : Outc :=
  done (s.ask num tag .window cls.val none addr.toNat a)

/-- The next segment of a settings image, of 1,024 bytes at most; the last one ends the push (R53, R454). -/
def State.pushSegment (s : State) (node session pos : Nat) : State :=
  match aget s.rs.pushes node with
  | some image =>
    let value := (image.drop pos).take 1024
    if value.isEmpty then { s with rs := { s.rs with pushes := s.rs.pushes.filter fun x => x.1 != node } }
    else s.pushRequest node (pushBytes 6 session pos (decide (image.length ≤ pos + 1024)) value)
  | none => s

/-- A request of a push has ended (R454): the image goes on from what its transfer response accepts. A segment without a response is
sent again while the node is reachable (R53); any other failure ends the push (DESIGN CHOICE, log entry 115). -/
def State.pushNext (s : State) (p : Pending) (res : Result) (data : List Byte) : State :=
  let b := p.payload.drop 8
  let stop : State := { s with rs := { s.rs with pushes := s.rs.pushes.filter fun x => x.1 != p.node } }
  if p.via ≠ .push then s
  else if res = .farTimeout then (if s.reachesNode p.node && (aget s.rs.pushes p.node).isSome then s.pushRequest p.node b else stop)
  else if res ≠ .ok || beAt data 1 1 ≠ 0 then stop
  else if beAt b 0 1 = 4 then s.pushSegment p.node (beAt data 5 1) 0
  else s.pushSegment p.node (beAt b 5 1) (beAt b 8 4 + beAt b 6 2)

/-- READ_RESP at the initiator (R275, R279). -/
def execReadResp (f : TakenFrame) (s : State) : Outc :=
  done (match s.pendingOf f.hdr.dMaster.toNat f.hdr.tag.toNat f.hdr.sRing.toNat f.hdr.sNode.toNat with
    | some p =>
      let data := f.payload.drop 8
      let flags := if p.typ = typReadReq && beAt p.payload 5 1 = 1 then beBytes 1 (beAt f.payload 1 1) else []
      match Result.ofCode (beAt f.payload 0 1) with
      | some res => (s.finish p res (flags ++ data)).pushNext p res data
      | none => s
    | none => s.bump 0x8300 5)

/-- REQ_TIMEOUT (R279). -/
def execReqTimeout (num : Fin 16) (tag : Fin 65536) (s : State) : Outc :=
  done (s.onDue (.reqTimeout num tag) fun t0 =>
    let mine (p : Pending) : Bool := p.num == num && p.tag == tag && p.via == .host 1
    let t := (t0.bridge.waiting.filter mine).foldl (fun (u : State) p => (u.bump 0x8300 4).deliver p .farTimeout [])
      { t0 with bridge := { t0.bridge with waiting := t0.bridge.waiting.filter fun p => !mine p } }
    (t.bridge.outstanding.filter fun p => p.num == num && p.tag == tag).foldl
      (fun (u : State) p => ((u.bump 0x8300 4).finish p .farTimeout []).pushNext p .farTimeout []) t)

/-- ERRNOTE at the initiator (R281, R282). -/
def execErrnote (f : TakenFrame) (s : State) : Outc :=
  let b := f.payload
  let time := 65536 * (1000000000 * beAt b 16 6 + beAt b 22 4)
  done ((s.bump 0x8300 7).farLog time (beAt b 4 8) f.hdr.dMaster.toNat f.hdr.tag.toNat (beAt b 0 1) 0 (beAt b 12 2))

/-- FAR_LOG_POP (R281). -/
def execFarLogPop (rq : Requester) (value : List Byte) (s : State) : Outc :=
  done (s.objectWrite rq (objKey 0x8310 3) value farLogPopFx)

/-! ### Dictionary transfers (R50 to R54, R537) -/

/-- A transfer on USB (R54): for this hub, for another one, or for none. -/
def State.usbTransfer (s : State) (rq : Requester) (op : Nat) (t : TransferReq) : State :=
  let a := t.target.toNat
  if !framedOk op t || a % 2 ^ 32 ≠ 0 then
    (let res := if framedOk op t then Result.noTarget else .typeLength
     s.answerTransfer rq res (transferHeader op res.code (transferKey t) t.session.toNat 0 t.pos.toNat))
  else s.ask 2 rq.tag .usb 3 none a (.transfer (transferRequest t op))

/-- A message of KIND 0x01 that no row's header spells (R54, R537): one with fewer than 12 bytes is answered here, as is one that
declares other value bytes than it carries; an unknown OP is its target's to refuse (R52). -/
def State.usbBytes (s : State) (rq : Requester) (target : BitVec 64) (b : List Byte) : State :=
  let t := transferOf b
  let op := beAt b 0 1
  let framed := 12 ≤ b.length && framedOk op t
  if !framed || target.toNat % 2 ^ 32 ≠ 0 then
    (let res := if framed then Result.noTarget else .typeLength
     s.answerTransfer rq res (transferHeader (op % 128) res.code (transferKey t) t.session.toNat 0 t.pos.toNat))
  else s.ask 2 rq.tag .usb 3 none target.toNat (.transfer b)

/-- A dictionary transfer by the transport it came on. -/
def State.dictRow (s : State) (rq : Requester) (op : Nat) (t : TransferReq) : State :=
  if rq.via = .usb then
    (match t.raw with
     | some b => s.usbBytes rq t.target b
     | none => s.usbTransfer rq op t)
  else s.transferOp rq op t

/-- READ (R52). -/
def execDictRead (rq : Requester) (t : TransferReq) (s : State) : Outc := done (s.dictRow rq 1 t)
/-- WRITE (R52). -/
def execDictWrite (rq : Requester) (t : TransferReq) (s : State) : Outc := done (s.dictRow rq 2 t)
/-- SEG_READ_INIT (R53). -/
def execSegReadInit (rq : Requester) (t : TransferReq) (s : State) : Outc := done (s.dictRow rq 3 t)
/-- SEG_WRITE_INIT (R53). -/
def execSegWriteInit (rq : Requester) (t : TransferReq) (s : State) : Outc := done (s.dictRow rq 4 t)
/-- SEG_READ (R53). -/
def execSegRead (rq : Requester) (t : TransferReq) (s : State) : Outc := done (s.dictRow rq 5 t)
/-- SEG_WRITE (R53). -/
def execSegWrite (rq : Requester) (t : TransferReq) (s : State) : Outc := done (s.dictRow rq 6 t)
/-- ABORT (R53). -/
def execDictAbort (rq : Requester) (t : TransferReq) (s : State) : Outc := done (s.dictRow rq 7 t)

/-! ### Replay of tunnels (R290, R291) -/

/-- Base of the data window of an endpoint's port, and its target. -/
def State.tunnelPort (s : State) (n : Fin 32) : Nat :=
  let q := s.val (0x8200 + n.val) 2
  match s.val (0x8200 + n.val) 1 with
  | 1 => 0x10000000 + 0x10000 * q
  | 2 => 0x10100000 + 0x10000 * q
  | _ => 0x10200000 + 0x10000 * q

/-- A part of an RS-485 frame (R288, R290): the frame is replayed once LAST has come; a part that does not follow discards what is
held. Byte 19 of what is held counts the parts. -/
def State.takePart (s : State) (n : Fin 32) (f : TakenFrame) : State :=
  let b := f.payload
  let e := s.bridge.endpoints[n]
  let key := 2 ^ 29 * f.hdr.sRing.toNat + 2 ^ 16 * f.hdr.sNode.toNat + f.hdr.flow.toNat
  let others := e.parts.filter fun x => x.1 != key
  let held := e.parts.find? fun x => x.1 == key
  let whole : Option (List Byte) :=
    if f.hdr.first = 1 then (if beAt b 19 1 = 0 then some b else none)
    else match held with
      | some (_, h) => if beAt h 19 1 + 1 = beAt b 19 1 then some (h.take 19 ++ beBytes 1 (beAt b 19 1) ++ h.drop 20 ++ b.drop 24) else none
      | none => none
  match whole with
  | some w =>
    if f.hdr.last = 1 then (s.setEndpoint n { e with parts := others }).queueReplay n f.hdr.sNode.toNat w
    else s.setEndpoint n { e with parts := others ++ [(key, w)] }
  | none => s.setEndpoint n { e with parts := others }

/-- TUNNEL delivered to an endpoint (R290, R291). -/
def execTunnel (n : Fin 32) (f : TakenFrame) (s : State) : Outc :=
  let o := 0x8200 + n.val
  let b := f.payload
  let kind := s.val o 1
  let base := s.tunnelPort n
  let target := (targetOf base).getD 0
  let rq : Requester := { master := s.localMaster 9, tag := 0, via := .posted, cls := Fin.ofNat 4 f.hdr.cls.toNat }
  done (if kind = 0 then s.bump o 9
  else if !s.permits rq target .write base base then (s.refuse rq target base).bump o 0xA
  else if beAt b 0 1 ≠ kind || s.val o 4 = 0 then s.bump o 9
  else if kind = 1 then (if (tunnelFrame b).isSome then s.queueReplay n f.hdr.sNode.toNat b else s.bump o 9)
  else if kind = 2 then (if b.length < 25 then s.bump o 9 else s.takePart n f)
  else if b.length ≠ 24 then s.bump o 9
  else
    (s.logEvent (Fin.ofNat 8 (s.val o 2)) (beAt b 16 1) (beAt b 17 1 % 2 + 2) (beAt b 18 2) f.hdr.sNode.toNat
      (1000000000 * beAt b 4 6 + beAt b 10 4)).bump o 7)

/-- REPLAY_START (R291): the oldest frame whose replay time has come is offered to the port, in the order of its requests. -/
def execReplayStart (n : Fin 32) (s : State) : Outc :=
  let e := s.bridge.endpoints[n]
  let q : Fin 8 := Fin.ofNat 8 (s.val (0x8200 + n.val) 2)
  done (match e.replay with
  | x :: l =>
    if s.nowNs < x.at_ then s
    else
      let can := s.val (0x8200 + n.val) 1 = 1
      let seq := if can then (s.canPort q).next else (s.serPort q).next
      let s1 := s.setEndpoint n { e with replay := l, offered := e.offered ++ [(seq, x)] }
      if can then s1.updCan q fun p => { p with next := p.next + 1 } else s1.updSer q fun p => { p with next := p.next + 1 }
  | [] => s)

end Sys2Proof.Machine
end

