-- ==== Sys2Proof/Machine/HostLink.lean ====
section
/-!
DEFINITION. The host link (R301 to R309): BARs, DMA rings, MSI-X, resets and the state of the PCI Express link.
-/

namespace Sys2Proof.Machine

/-- The host can reach the hub: PCI Express mode, PERST_N deasserted, the link in L0, the interface not isolated. -/
def State.hostLive (s : State) : Bool := s.pcieMode && !s.host.perst && s.val 0x8500 2 == 3 && !s.isolated 5

/-! ### BAR accesses (R302 to R305) -/

/-- Offsets and lengths of the parts of a read: at most 1,024 bytes each (R302). -/
def readParts (len : Nat) : List (Nat × Nat) :=
  (List.range ((len + 1023) / 1024)).map fun k => (1024 * k, min 1024 (len - 1024 * k))

/-- Read a fabric address for the host, in parts with TAGs from `tag` on. -/
def State.hostRead (s : State) (tag : Fin 65536) (cls addr len : Nat) : State :=
  let parts := readParts len
  let tagOf (k : Nat) : Fin 65536 := Fin.ofNat 65536 (tag.val + k)
  let s1 := { s with host := { s.host with
    reads := s.host.reads ++ [parts.zipIdx.map fun x => { tag := (tagOf x.2).val : HostPart }] } }
  parts.zipIdx.foldl (fun (t : State) x =>
    t.ask 1 (tagOf x.2) (.host 1) cls none (addr + x.1.1) (.read (Fin.ofNat 65536 x.1.2))) s1

/-- A failure of a host access that names no target, with the bytes of the access (R304, R305). -/
def State.hostMiss (s : State) (tag : Fin 65536) (origin : Fin 4) (addr len : Nat) : State :=
  s.answerHost { master := s.localMaster 1, tag := tag, via := .host origin, cls := 1 } origin.val addr len .noTarget []

/-- The translation entry of a BAR2 offset, and the fabric address it gives (R302). -/
def State.aperture (s : State) (offset : Fin 16777216) : Fin 16 × Nat :=
  (Fin.ofNat 16 (offset.val / 1048576), s.val (0x8510 + offset.val / 1048576) 1 + offset.val % 1048576)

/-- BAR2_READ (R302, R304, R305). -/
def execBar2Read (offset : Fin 16777216) (len : Fin 4097) (tag : Fin 65536) (s : State) : Outc :=
  let a := s.aperture offset
  let i := 0x8510 + a.1.val
  done (if !s.hostLive then s
  else if s.flag i 4 then (s.bump i 5).hostRead tag (s.val i 2) a.2 len.val
  else s.hostMiss tag 1 a.2 len.val)

/-- BAR2_WRITE (R304): posted, or acknowledged one at a time in each aperture. -/
def execBar2Write (offset : Fin 16777216) (bytes : List Byte) (tag : Fin 65536) (s : State) : Outc :=
  let a := s.aperture offset
  let i := 0x8510 + a.1.val
  done (if !s.hostLive then s
  else if !s.flag i 4 then s.hostMiss tag 2 a.2 bytes.length
  else if s.val i 3 = 0 then (s.bump i 5).ask 1 tag (.host 2) (s.val i 2) none a.2 (.writePosted bytes)
  else (s.bump i 5).ask 1 tag (.host 2) (s.val i 2) (some a.1) a.2 (.writeAcked bytes))

/-- LOCAL_PAGE_ACCESS (R302): served here as master 1 at node 0. -/
def execLocalPageAccess (page : Fin 4) (offset : Fin 4194304) (tag : Fin 65536) (acc : HostAccess) (s : State) : Outc :=
  let addr := s.val 0x8501 (page.val + 1) + offset.val
  done (if !s.hostLive then s
  else match acc with
    | .read len => s.hostRead tag 1 addr len.val
    | .write bytes => s.ask 1 tag (.host 3) 1 none addr (.writeAcked bytes))

/-! ### The host window (R303) -/

/-- TAIL_r is written: indices wrap at SIZE (DEDUCED, log entry 59). -/
def State.setTail (s : State) (r : Fin 8) (v : Nat) : State := s.setDma r { s.host.rings[r] with tail := v % s.ringSize r }

/-- TAIL_WRITE (R303). -/
def execTailWrite (r : Fin 8) (value : BitVec 32) (s : State) : Outc :=
  done (if s.hostLive then s.setTail r value.toNat else s)

/-- Write one word of an MSI-X table entry: address, data, vector control. A vector that is unmasked while pending is sent. -/
def State.tableWrite (s : State) (v : Fin 32) (k w : Nat) : State :=
  let e := s.host.table[v]
  let e1 := match k with
    | 0 => (2 ^ 32 * (e.1 / 2 ^ 32) + w, e.2.1, e.2.2)
    | 1 => (2 ^ 32 * w + e.1 % 2 ^ 32, e.2.1, e.2.2)
    | 2 => (e.1, w, e.2.2)
    | _ => (e.1, e.2.1, w)
  let s1 := { s with host := { s.host with table := s.host.table.set v e1 } }
  if e1.2.2 % 2 = 0 && s.host.pba.testBit v.val then
    ({ s1 with host := { s1.host with pba := putBit s1.host.pba v.val false } } : State).emit (.msix v.val)
  else s1

/-- One word of the MSI-X table. -/
def tableWord (e : Nat × Nat × Nat) (k : Nat) : Nat :=
  match k with
  | 0 => e.1 % 2 ^ 32
  | 1 => e.1 / 2 ^ 32
  | 2 => e.2.1
  | _ => e.2.2

/-- A word of the host window as it reads: none at an offset that holds nothing. TAIL_r is write-only, and open (log entry 4). -/
def State.hostWord (s : State) (p : Nat) : Option Nat :=
  if p < 0x80 then
    (match p % 16 with
      | 0 => some (s.openWord (p / 16))
      | 4 => some s.host.rings[Fin.ofNat 8 (p / 16)].head
      | 8 => some 0
      | _ => none)
  else if 0x1000 ≤ p && p < 0x1200 then some (tableWord s.host.table[Fin.ofNat 32 ((p - 0x1000) / 16)] (p % 16 / 4))
  else if p = 0x2000 then some s.host.pba
  else if p = 0x2004 then some 0
  else none

/-- A write of a word of the host window; read-only words ignore it. -/
def State.hostWordWrite (s : State) (p w : Nat) : State :=
  if p < 0x80 && p % 16 = 0 then s.setTail (Fin.ofNat 8 (p / 16)) w
  else if 0x1000 ≤ p && p < 0x1200 then s.tableWrite (Fin.ofNat 32 ((p - 0x1000) / 16)) (p % 16 / 4) w
  else s

/-- HOST_WINDOW_ACCESS (R303, R305): 4-byte words of BAR0 below the local pages. An offset that holds nothing reads as all ones, ignores
writes and is logged as NO_TARGET under its BAR0 offset; a write with ORIGIN 3 (DESIGN CHOICE, log entry 60). -/
def execHostWindowAccess (offset : Fin 16777216) (tag : Fin 65536) (acc : HostAccess) (s : State) : Outc :=
  let p := offset.val
  let rq : Requester := { master := s.localMaster 1, tag := tag, via := .host 1, cls := 1 }
  done (if !s.hostLive then s
  else match acc with
    | .read len =>
      let words := (List.range ((len.val + 3) / 4)).map fun k => s.hostWord (p + 4 * k)
      if words.any Option.isNone then s.hostMiss tag 1 p len.val
      else ({ s with freeCount := s.freeCount + 8 } : State).emit
        (.answer rq .ok ((words.map fun w => leBytes 4 (w.getD 0)).flatten.take len.val))
    | .write bytes =>
      let words := wordsOf bytes
      if (List.range words.length).any fun k => (s.hostWord (p + 4 * k)).isNone then s.hostMiss tag 3 p bytes.length
      else words.zipIdx.foldl (fun (t : State) x => t.hostWordWrite (p + 4 * x.2) x.1) s)

/-! ### DMA rings (R307, R308) -/

/-- A ring may use the host's memory: enabled, with bus mastering. -/
def State.ringLive (s : State) (r : Fin 8) : Bool := s.hostLive && s.flag 0x8500 4 && s.flag (0x8530 + r.val) 1

/-- A transmit ring has a descriptor to fetch. -/
def State.txReady (s : State) (c : Fin 4) : Bool :=
  let r : Fin 8 := Fin.ofNat 8 c.val
  s.ringLive r && !s.host.rings[r].busy && s.host.rings[r].head != s.host.rings[r].tail

/-- TX_DESCRIPTOR_FETCH (R307): the descriptor at HEAD and its payload; ring 0 first. Ring 0 takes DELIVER entries only. HEAD waits for
a frame that waits. Bit 0 of TX_FLAGS raises the vector as the descriptor is done (DEDUCED, log entry 61). -/
def execTxDescriptorFetch (c : Fin 4) (flow : Fin 65536) (flags : BitVec 8) (payload : List Byte) (s : State) : Outc :=
  let r : Fin 8 := Fin.ofNat 8 c.val
  let irq := flags.toNat.testBit 0
  done (if !s.txReady c || (List.finRange 4).any fun k => decide (k < c) && s.txReady k then s
  else
    let entry := s.lookup s.ring s.flowNode flow.val
    let refused := match entry with
      | none => true
      | some e => (s.flowEntry e).action == actDrop || (c.val == 0 && !(s.flowEntry e).isDeliver)
    if refused then
      (match entry with
        | none => s.bump 0x2150 0x15
        | some e => if (s.flowEntry e).action = actDrop then s.bump 0x2150 0x14 else s).bump (0x8530 + c.val) 9 |>.ringDone r irq
    else
      let t := s.originate (.host c) 0 flow.val payload true true
      if t.waitingOf (.host c) = 0 then (t.bump (0x8530 + c.val) 8).ringDone r irq
      else t.setDma r { t.host.rings[r] with busy := true, irq := irq })

/-- A receive ring has a frame that may leave (R197) and a descriptor for it. -/
def State.rxReady (s : State) (c : Fin 4) : Bool :=
  let r : Fin 8 := Fin.ofNat 8 (4 + c.val)
  s.ringLive r && s.host.rings[r].head != s.host.rings[r].tail &&
    ((s.egress .bl2).local_[c].head?).any fun f => f.entry.isSome && s.mayStart .bl2 c (false, f)

/-- RX_DESCRIPTOR_WRITE (R307): the frame at the head of queue Cc goes to the buffer at `addr`, then its descriptor with DONE. -/
def execRxDescriptorWrite (c : Fin 4) (addr : BitVec 64) (s : State) : Outc :=
  let r : Fin 8 := Fin.ofNat 8 (4 + c.val)
  let o := 0x8534 + c.val
  done (if !s.rxReady c || (List.finRange 4).any fun k => decide (k < c) && s.rxReady k then s.noteHeads .bl2
  else match (s.egress .bl2).local_[c] with
    | f :: l =>
      let data := headerBytes f.hdr ++ f.payload
      let entry := match f.entry with
        | some d => d.entry
        | none => 0
      let s1 := (s.updEgress .bl2 fun g => { g with local_ := g.local_.set c l }).chargeQueue .bl2 ⟨c, false⟩ f
      let s2 := s1.emit (.dma addr.toNat data)
      let s3 := s2.emit (.dma (s.val o 2 + 16 * s.host.rings[r].head + 8)
        (leBytes 2 data.length ++ leBytes 1 1 ++ leBytes 1 0 ++ leBytes 2 entry ++ leBytes 2 0))
      (((s3.freeCells f).noteDrain .bl2).bump o 8).ringDone r false
    | [] => s)

/-- COALESCE_EXPIRY (R308). -/
def execCoalesceExpiry (r : Fin 8) (s : State) : Outc := done (s.onDue (.coalesce r.val) fun t => t.ringVector r)

/-- DMA_FAULT (R309). -/
def execDmaFault (r : Fin 8) (addr : BitVec 64) (s : State) : Outc :=
  done (if !s.ringLive r then s
  else
    let s1 := (s.setFlag (0x8530 + r.val) 1 false).bump 0x8500 7
    (s1.raise 0x1B 2 contained (2 ^ 48 * r.val + addr.toNat % 2 ^ 48)).hostDrain)

/-! ### The link (R301, R310) -/

/-- HOST_RESET (R301): only the host interface is reset. PERST_N asserted lets the hub leave S0. -/
def execHostReset (kind : HostReset) (s : State) : Outc :=
  done (if !s.pcieMode then s
  else match kind with
    | .perst true =>
      (((({ s.resetHost with host := { s.resetHost.host with perst := true } } : State).setVal 0x8500 2 1).setVal 0x8500 3 0).hostDrain).powerCheck
    | .perst false =>
      if s.host.perst then (({ s with host := { s.host with perst := false } } : State).setVal 0x8500 2 2).powerCheck else s
    | .hot => if s.host.perst then s else ((s.resetHost.setVal 0x8500 2 2).setVal 0x8500 3 0).hostDrain
    | .flr => if s.host.perst then s else (s.resetHost.bump 0x8500 5).hostDrain)

/-- HOST_LINK_UP (R301): the link reaches L0 at a speed, with the bus master enable that the host then writes (DESIGN CHOICE, log
entry 62). -/
def execHostLinkUp (speed : Fin 3) (busMaster : Bool) (s : State) : Outc :=
  done (if s.pcieMode && !s.host.perst && s.val 0x8500 2 == 2 && !s.isolated 5 then
    ((s.setVal 0x8500 2 3).setVal 0x8500 3 (speed.val + 1)).setFlag 0x8500 4 busMaster
  else s)

/-- HOST_LINK_DOWN (R309, R310). -/
def execHostLinkDown (s : State) : Outc :=
  done (if s.pcieMode && 3 ≤ s.val 0x8500 2 then
    ((s.setVal 0x8500 2 2).setVal 0x8500 3 0).raise 0x1B 1 contained (packArg [i16 2])
  else s)

end Sys2Proof.Machine
end

