-- ==== Sys2Proof/Machine/Mirror.lean ====
section
/-!
DEFINITION. The cycle boundary. The standby applies what the primary mirrors (R167, R241, R300): single changes, and the whole shared state of a resync.
-/

namespace Sys2Proof.Machine

/-- Mirrored changes are applied as master 0 of this hub (DESIGN CHOICE, log entry 53). -/
def State.mirrorRequester (s : State) : Requester := { master := s.localMaster 0, tag := 0, via := .window, cls := 1 }

/-- A mirrored change of a bus lock (R300): the holder with its ticket, the lease again, or the bus free. -/
def State.applyLock (s : State) (m : MasterId) (b : List Byte) : State × Result :=
  let bus : Fin 16 := Fin.ofNat 16 ((beAt b 1 1 - 1) * 8 + beAt b 2 1)
  let issue := 1000000000 * beAt b 4 6 + beAt b 10 4
  let lease := beAt b 16 4
  match beAt b 0 1 with
  | 1 | 2 =>
    ((s.setBus bus { s.bridge.buses[bus] with holder := some (⟨issue, m⟩, lease) }).arm (.lease bus.val) (usec lease), .ok)
  | _ => ((s.setBus bus {}).disarm (.lease bus.val), .ok)

/-- Apply one change in the same way as the primary (R167). -/
def State.applyMirror (s : State) (c : MirrorChange) : State × Result :=
  let rq := s.mirrorRequester
  match c with
  | .dict offset value => s.writeObject rq (offset.toNat / 0x1000 * 256 + offset.toNat / 16 % 256) value
  | .commit index mode => s.commitWrite rq index.toNat (leBytes 1 mode.val)
  | .write offset bytes => if (targetOf offset.toNat).isSome && 0x10000000 ≤ offset.toNat then s.writeAt rq offset.toNat bytes else (s, .noTarget)
  | .applyAt time offset bytes =>
    (match s.wagDecode offset.toNat bytes with
      | (.ok, _, _) =>
        ({ s with wag := { s.wag with applies := s.wag.applies ++ [WagApply.mk time.toNat offset.toNat bytes] } }, .ok)
      | (r, _, _) => (s, r))
  | .read offset len =>
    if (targetOf offset.toNat).isSome && 0x10000000 ≤ offset.toNat then
      (let r := s.windowAt offset.toNat len.val
       (r.1, r.2.1))
    else (s, .noTarget)
  | .lock m payload => s.applyLock m payload
  | .block offset bytes => ({ s with dx := { s.dx with blocks := s.dx.blocks ++ [(offset.toNat, bytes)] } }, .ok)

/-- MIRROR (R167, R168): the standby applies the change and answers MIRROR_ACK; what is no change of a known kind is answered
TYPE_LENGTH. -/
def execMirror (payload : List Byte) (s : State) : Outc :=
  done (s.takePair payload 0x12 8 2048 fun b =>
    if !s.standby then s
    else
      let r := match mirrorOf b with
        | some c => s.applyMirror c
        | none => (s, Result.typeLength)
      ((r.1.noteTest 6 true).sendPair
        (beBytes 1 0x13 ++ beBytes 1 0 ++ beBytes 2 (beAt b 2 2) ++ beBytes 1 r.2.code ++ beBytes 3 0)))

/-! ### Resync -/

/-- Shared state as it stands before the blocks of a resync are applied: nothing of what blocks carry. -/
def State.clearShared (s : State) (blocks : List (Nat × List Byte)) : State :=
  let named (base size e : Nat) : Bool := blocks.any fun b => b.1 == base + size * e
  let s1 := { s with
    objs := s.objs.filter fun kv => memberOwn (kv.1 / 256) (kv.1 % 256)
    wu := { s.wu with prog := [] }
    wag := { s.wag with entries := s.wag.entries.filter fun p => named 0x50000000 64 p.1 } }
  (s1.sw.flow.filter fun p => p.2.valid && !named 0x40000000 32 p.1).foldl (fun (t : State) p => t.flowApply p.1 {}) s1

/-- Apply one block of a resync. -/
def State.applyBlock (s : State) (b : Nat × List Byte) : State :=
  let rel := b.1 % 0x10000000
  if b.1 < 0x10000000 then s.setVal (b.1 / 0x1000) (b.1 / 16 % 256) (leNat b.2)
  else match b.1 / 0x10000000 with
    | 2 => s.storeProg (Fin.ofNat 32 (rel / 0x1000)) (rel % 0x1000 / 0x80) (rel % 0x80 / 4) (wordsOf b.2)
    | 4 =>
      let n : FlowEntry := { w0 := leAt b.2 0 4, w1 := leAt b.2 4 4, w2 := leAt b.2 8 4, w3 := leAt b.2 12 4 }
      let x := s.flowEntry (rel / 32)
      if x.w0 = n.w0 && x.w1 = n.w1 && x.w2 = n.w2 && x.w3 = n.w3 then s else s.flowApply (rel / 32) n
    | 5 => if (s.wagEntry (rel / 64)).words = wordsOf b.2 then s else s.wagApply (rel / 64) (wordsOf b.2)
    | _ => (s.writeAt s.mirrorRequester b.1 b.2).1

/-- The pair sequence moves on when a resync has ended (R498): the swap after the first one, the end after the second. -/
def State.pairResynced (s : State) : State :=
  match s.up.pair with
  | some (k, 1) => if s.val 0x8110 1 = 1 then ({ s with up := { s.up with pair := some (k, 2) } } : State).requestSwap else s
  | some (_, 3) => { s with up := { s.up with pair := none } }
  | _ => s

/-- The resync has ended: the pair is PROTECTED (R167). -/
def State.resyncEnd (s : State) : State :=
  (({ s with dx := { s.dx with resync := false, blocks := [], blocksDue := false } } : State).setPairState 1).pairResynced

/-- RESYNC_DONE (R167): the standby has all blocks, which it applies at its next cycle boundary; the primary's resync has ended. -/
def execResyncDone (s : State) : Outc :=
  done (if !s.dx.resync || !s.paired || s.pairState = 4 || !s.dx.links[0].up then s
  else if s.standby then { s with dx := { s.dx with blocksDue := true } }
  else s.resyncEnd)

/-- The blocks of a resync take effect at a cycle boundary of the standby (R167). -/
def State.resyncBoundary (s : State) : State :=
  if s.dx.blocksDue && s.dx.resync && s.standby then
    (if s.dx.blocks.isEmpty then s else s.dx.blocks.foldl State.applyBlock (s.clearShared s.dx.blocks)).resyncEnd
  else s

/-- CYCLE_BOUNDARY (R189): the figures of the cycle that ends, the cycle that begins, then what the boundary starts. -/
def execCycleBoundary (s : State) : Outc :=
  done (s.onDue .boundary fun t =>
    let ended := t.cycleNumber
    let t1 := (t.noteMissedMark.closeLoads).nextCycle
    let t2 := (t1.applyCycle t).boundarySteps
    let t3 := ((t2.resyncBoundary.setVal 0x2200 5 (time80 t2.cyc.current)).armBoundary).armOpen
    let t4 := ((t3.keeperBoundary.grantBoundary).wagApplies).wagStartup
    let t5 := ((t4.startupWorkers.publishAxes).sdciBoundary).sendDigest ended
    t5.pump)

end Sys2Proof.Machine
end

