-- ==== Sys2Proof/Machine/StartUp.lean ====
section
/-!
DEFINITION. Start-up: power-on and RST_N, self-test, settings load and recorder restore, the settings push, bench power (ch. 14;
R40, R177, R437).
-/

namespace Sys2Proof.Machine

/-! ### Step 1 (R443, R444) -/

/-- Every pad that is driven goes off or to high impedance (R444). -/
def State.padsOff (s : State) : State :=
  let low (n base level : Nat) (t : State) : State :=
    (List.range n).foldl (fun (u : State) i => if level.testBit i then u.drive (.pad (base + i) false) else u) t
  let s1 := low 4 64 s.dio.supplyDriven (low 32 0 s.dio.driven s)
  let s2 := (List.finRange 8).foldl (fun (u : State) n =>
    let u1 := if (u.sdciPort n).cq then u.drive (.pad (70 + n.val) false) else u
    if (u.sdciPort n).driven then u1.drive (.pad (78 + n.val) false) else u1) s1
  let s3 := (List.range 32).foldl (fun (u : State) i => if s.wu.padDir.testBit i then u.drive (.padOff (32 + i)) else u) s2
  if s.tu.pps then s3.drive (.pad 69 false) else s3

/-- A power-on or RST_N, to the release of the reset: nothing but NOR outlasts it, and FAULT_N is low. The two commands stand for
the whole of step 1, so PHASE reads 2 after them (DESIGN CHOICE, log entry 63). -/
def State.startFrom (s : State) (cause : Nat) : State :=
  let s1 := (((s.padsOff.powerOff).setVal 0x2420 1 2).setVal 0x2420 2 cause).bump 0x2420 3
  (({ s1 with rcd := { s1.rcd with starting := true } } : State).noteUnstable).driveFaultN

/-- POWER_ON (R443). -/
def execPowerOn (s : State) : Outc := done (s.startFrom 1)

/-- RST_N (R443). -/
def execRstN (s : State) : Outc := done (s.startFrom 2)

/-! ### Step 2 (R445) -/

/-- The hub is in step 1 or 2. -/
def State.selfTesting (s : State) : Bool := s.val 0x2420 1 == 1 || s.val 0x2420 1 == 2

/-- SELF_TEST_DONE (R445): the failures, as SELFTEST_RESULT shows them. A hub with a failure never joins. Its processors stay in
reset where LBIST has failed; else USB enumerates. -/
def execSelfTestDone (failed : BitVec 5) (s : State) : Outc :=
  done (if !s.selfTesting || s.bench then s
  else
    let r := failed.toNat
    let s1 := (s.setVal 0x2420 4 r).setVal 0x2420 1 3
    let s2 := if r % 16 = 0 then s1 else s1.raise 7 1 fatal (packArg [i16 r])
    let s3 := if r < 16 then s2 else
      ({ s2 with mgmt := { s2.mgmt with restarting := true } } : State).raise 7 2 fatal (packArg [i16 r])
    let s4 := if r = 0 then s3 else s3.setVal 0x2420 5 6
    s4.setFlag 0x7020 1 (s4.flag 0x7020 4 && s4.usbReady))

/-! ### Step 3 (R446) -/

/-- Load the settings (R40, R446); without the processors the hub runs with its defaults (R445). -/
def State.loadSettings (s : State) : State :=
  if (s.val 0x2420 4).testBit 4 then s
  else match s.settings.newest with
    | some set =>
      let b := if s.settings.newestB then 1 else 0
      (((s.loadAll set).setVal 0x1010 2 set.seq).setVal 0x1010 3 b).raise 7 3 corrected (packArg [i16 b, i32 set.seq])
    | none =>
      ({ s with rs := { s.rs with defaultsLoaded := true } } : State).raise 6 2 corrected (packArg [i16 2])

/-- The newer of two SEQ, of which 0 is none. -/
def newerSeq (a b : Nat) : Nat :=
  if a = 0 then b else if b = 0 then a else if (b + 2 ^ 32 - a) % 2 ^ 32 < 2 ^ 31 then b else a

/-- The highest SEQ that NOR holds, 0 for none. -/
def Recorder.storedSeq (r : Recorder) : Nat :=
  newerSeq ((r.norCrystal.getLast?.map (·.seq)).getD 0) ((r.norBrine.getLast?.map (·.seq)).getD 0)

/-- The recorder takes both areas from NOR and goes on from the highest number stored (R437). -/
def State.takeNor (s : State) : State :=
  let last := s.rcd.storedSeq
  { s with rcd := { s.rcd with
      crystal := s.rcd.norCrystal, brine := s.rcd.norBrine, headSeq := if last = 0 then 1 else nextSeqNo last } }

/-- The restore of R437: RECORDER_RESTORED, and POWER_LOSS where numbers are missing. Messages taken since reset are written after it,
with flag bit 5 (R434, R446). -/
def State.restoreRecorder (s : State) : State :=
  let missing := (s.rcd.headSeq + (2 ^ 32 - 1) - s.takeNor.rcd.headSeq) % (2 ^ 32 - 1)
  let s1 := s.takeNor
  let s2 := ({ s1 with rcd := { s1.rcd with starting := false, early := s1.coll.queue.length } } : State).noteUnstable
  let s3 := s2.raise 1 4 corrected (packArg [i32 (s2.rcd.crystal.length + s2.rcd.brine.length)])
  let s4 := if missing = 0 then s3 else (s3.setVal 0x6010 0xB missing).raise 3 4 corrected (packArg [i32 missing])
  s4.arm .brine (secs 10)

/-- The settings that take effect at a start: cluster mode, and BL2 as a PCI Express endpoint (R159, R301). -/
def State.sampleModes (s : State) : State :=
  let pcie := s.val 0x8500 1 == 1
  let s1 : State := { s with dx := { s.dx with mode := s.val 0x8100 1 }, host := { s.host with pcie := pcie } }
  (s1.setVal 0x8500 2 (if !pcie then 0 else if s.host.perst then 1 else 2)).refreshCluster

/-- The transmitter tests of R177 on a member of a pair: a bit of each path that failed, 0 to 7 CAN, 8 to 15 RS-485, 16 to 23
SDCI. -/
def State.testTransmitters (s : State) (failed : BitVec 24) : State :=
  if s.dx.mode ≠ 2 then s
  else
    let s1 := (List.finRange 24).foldl (fun (t : State) n => t.notePath n (!failed.toNat.testBit n.val)) s
    (List.range 24).foldl (fun (t : State) p =>
      if failed.toNat.testBit p then (t.markPath p).raise 0x20 11 contained (packArg [i16 p, i16 (4 + p / 8)]) else t) s1

/-- The field ports start from their settings (R446): DIO latches as they are, 0 after a power-on; L+ follows L_PLUS, the sensor
supplies follow SUPPLY_ON, CAN ports pass through INIT. -/
def State.startField (s : State) : State :=
  let s1 := (List.range 4).foldl (fun (t : State) i => t.switchSupply (2 ^ i) (t.flag 0x4400 (i + 1))) s.syncDio
  ((List.finRange 16).foldl State.connectLine s1.syncLs).startFieldPorts

/-- A keeper or a hub with ring time goes on after a chip reset (R454): it holds no role, and it discovers its keeper and joins
again. -/
def State.resume (s : State) : State :=
  let s1 := if s.timeState = 5 && !s.isKeeper then (s.setTimeState .coarse).stopReference.armHoldover else s
  let s2 := if s1.isUp .east || s1.isUp .west then s1.startDiscovery else s1
  if s2.timeGood then s2.firstJoin else s2

/-- Slot 1 waits 2 s for slot 0 (R162). -/
def State.awaitPartner (s : State) : State :=
  if s.dx.mode = 2 && s.ident.clusterId = 1 && !s.dx.links[0].up then s.arm .partnerAbsent (secs 2) else s

/-- A trial goes on, and its time starts anew with the hub (R495; DEDUCED, log entry 121). -/
def State.resumeTrial (s : State) : State :=
  if s.trialSlot.isSome || s.up.loaderTrial.isSome then s.arm .confirm (secs (s.val 0x7010 7)) else s

/-- SETTINGS_LOAD_DONE (R446, R447): `failed` is what the transmitter tests of R177 find. FAULT_N is released, unless a self-test
has failed, and both ring ports train. A hub whose time went on through a chip reset resumes. -/
def execSettingsLoadDone (failed : BitVec 24) (s : State) : Outc :=
  done (if s.val 0x2420 1 != 3 || s.bench then s
  else
    let s1 := if s.rcd.starting then s.restoreRecorder else s
    let s2 := if s1.rs.map.version = 0 then s1 else s1.setMap s1.rs.map
    let s3 := (s2.loadSettings).sampleModes
    let s4 := s3.setVal 0x2420 1 (if s3.val 0x2420 4 = 0 then 4 else 10)
    let s5 := (s4.testTransmitters failed).driveFaultN
    let s6 := s5.startField.startPorts
    let s7 := ((s6.awaitPartner).resume).resumeTrial
    if s7.coll.safeN then s7 else s7.enterSafe 1)

/-! ### Settings push (R454) -/

/-- SETTINGS_PUSH_DONE (R454): the image, whose byte layout the spec does not give, decoded (DESIGN CHOICE, log entry 24). It is
stored as a save with the next sequence number (DEDUCED, log entry 64), step 3 is repeated without ring ports and time, and the hub
asks to join again. -/
def execSettingsPushDone (set : SavedSet) (s : State) : Outc :=
  done (if s.val 0x2420 5 != 2 then s
  else
    let ring := s.ring
    let s1 : State := { s with rs := { s.rs with image := [], defaultsLoaded := false } }
    let s2 := ((s1.storeSave (s1.adoptSet set)).setVal 0x2420 0xB set.seq).raise 7 5 corrected (packArg [i32 set.seq])
    let s3 := (s2.loadSettings).setVal 0x1001 1 ring
    (s3.reconfigure s2).sendJoinReq)

/-! ### Bench power (R459) -/

/-- BENCH_POWER (R459): PD3, PD9 and the NOR have power. The settings come from NOR; nothing runs but the dictionary and USB. -/
def execBenchPower (s : State) : Outc :=
  done (
    let s1 := s.padsOff.powerOff
    let s2 := match s1.settings.newest with
      | some set => ((s1.loadAll set).setVal 0x1010 2 set.seq).setVal 0x1010 3 (if s1.settings.newestB then 1 else 0)
      | none => s1
    let s3 := (List.range 10).foldl (fun (t : State) k => t.setVal 0x7001 (1 + k) (if k = 3 || k = 9 then 1 else 0)) s2.takeNor
    ((s3.setVal 0x2420 5 7).setFlag 0x7020 4 true).setFlag 0x7020 1 true)

end Sys2Proof.Machine
end

