-- ==== Sys2Proof/Machine/Dispatch.lean ====
section
/-!
DEFINITION. The one dispatch: each command of the opcode table calls its own meaning.
-/

namespace Sys2Proof.Machine

def exec (i : Instr) (s : State) : Host.Outcome State Fault Refusal :=
  match i with
  | .selfTestDone failed => Sys2Proof.Machine.execSelfTestDone failed s
  | .settingsLoadDone failed => Sys2Proof.Machine.execSettingsLoadDone failed s
  | .portEnable rq p value => Sys2Proof.Machine.execPortEnable rq p value s
  | .partnerDetected p => Sys2Proof.Machine.execPartnerDetected p s
  | .detectTimeout p => Sys2Proof.Machine.execDetectTimeout p s
  | .trainingRetry p => Sys2Proof.Machine.execTrainingRetry p s
  | .orientIdentity p partnerPort serial ring node permits => Sys2Proof.Machine.execOrientIdentity p partnerPort serial ring node permits s
  | .equaliseDone p ownFull partnerFull ownFallback => Sys2Proof.Machine.execEqualiseDone p ownFull partnerFull ownFallback s
  | .marginUpdate p m blocks => Sys2Proof.Machine.execMarginUpdate p m blocks s
  | .margin p f => Sys2Proof.Machine.execMargin p f s
  | .fallbackHoldExpiry p => Sys2Proof.Machine.execFallbackHoldExpiry p s
  | .retrainReq p f => Sys2Proof.Machine.execRetrainReq p f s
  | .retrainAck p f => Sys2Proof.Machine.execRetrainAck p f s
  | .fastRetrainStart p => Sys2Proof.Machine.execFastRetrainStart p s
  | .fastRetrainDone p margins => Sys2Proof.Machine.execFastRetrainDone p margins s
  | .retrainFast rq p => Sys2Proof.Machine.execRetrainFast rq p s
  | .retrainFull rq p => Sys2Proof.Machine.execRetrainFull rq p s
  | .maxRate rq p value => Sys2Proof.Machine.execMaxRate rq p value s
  | .deferredRetrain p => Sys2Proof.Machine.execDeferredRetrain p s
  | .linkLoss p => Sys2Proof.Machine.execLinkLoss p s
  | .disable p f => Sys2Proof.Machine.execDisable p f s
  | .neighbourSend p => Sys2Proof.Machine.execNeighbourSend p s
  | .neighbour p f => Sys2Proof.Machine.execNeighbour p f s
  | .delayReqSend p => Sys2Proof.Machine.execDelayReqSend p s
  | .delayReq p f => Sys2Proof.Machine.execDelayReq p f s
  | .delayResp p f => Sys2Proof.Machine.execDelayResp p f s
  | .delayRespTimeout p => Sys2Proof.Machine.execDelayRespTimeout p s
  | .ringFrameRx p raw stamp => Sys2Proof.Machine.execRingFrameRx p raw stamp s
  | .endOfFrame p payload crc word => Sys2Proof.Machine.execEndOfFrame p payload crc word s
  | .frameOriginate org typ flow payload first last => Sys2Proof.Machine.execFrameOriginate org typ flow payload first last s
  | .egressSelect o => Sys2Proof.Machine.execEgressSelect o s
  | .localOutputDequeue o => Sys2Proof.Machine.execLocalOutputDequeue o s
  | .holdDeadline r => Sys2Proof.Machine.execHoldDeadline r s
  | .resyncIdle r => Sys2Proof.Machine.execResyncIdle r s
  | .residenceDiscard o c => Sys2Proof.Machine.execResidenceDiscard o c s
  | .flowTableWrite rq e w0 w1 w2 w3 => Sys2Proof.Machine.execFlowTableWrite rq e w0 w1 w2 w3 s
  | .retirementEnd e => Sys2Proof.Machine.execRetirementEnd e s
  | .credit p f => Sys2Proof.Machine.execCredit p f s
  | .creditIntervalExpiry e => Sys2Proof.Machine.execCreditIntervalExpiry e s
  | .creditRefresh e => Sys2Proof.Machine.execCreditRefresh e s
  | .creditStall e => Sys2Proof.Machine.execCreditStall e s
  | .hopReportRepeat p => Sys2Proof.Machine.execHopReportRepeat p s
  | .hopReport p f => Sys2Proof.Machine.execHopReport p f s
  | .elect p f => Sys2Proof.Machine.execElect p f s
  | .keeperAnnounce p f => Sys2Proof.Machine.execKeeperAnnounce p f s
  | .mirrorCopyDone map copies length pct => Sys2Proof.Machine.execMirrorCopyDone map copies length pct s
  | .keeperPriority rq value => Sys2Proof.Machine.execKeeperPriority rq value s
  | .blLinkTraining k peer => Sys2Proof.Machine.execBlLinkTraining k peer s
  | .blLinkLoss k => Sys2Proof.Machine.execBlLinkLoss k s
  | .heartbeat payload => Sys2Proof.Machine.execHeartbeat payload s
  | .failFrame payload => Sys2Proof.Machine.execFailFrame payload s
  | .pairProbe p f => Sys2Proof.Machine.execPairProbe p f s
  | .probeAnswer p f => Sys2Proof.Machine.execProbeAnswer p f s
  | .mirror payload => Sys2Proof.Machine.execMirror payload s
  | .mirrorAck payload => Sys2Proof.Machine.execMirrorAck payload s
  | .mirrorTimeout n => Sys2Proof.Machine.execMirrorTimeout n s
  | .digest payload => Sys2Proof.Machine.execDigest payload s
  | .swapWrite rq value => Sys2Proof.Machine.execSwapWrite rq value s
  | .swapMessage payload => Sys2Proof.Machine.execSwapMessage payload s
  | .swapVerifyEnd failed carried => Sys2Proof.Machine.execSwapVerifyEnd failed carried s
  | .rejoin rq value => Sys2Proof.Machine.execRejoin rq value s
  | .safeFrame payload => Sys2Proof.Machine.execSafeFrame payload s
  | .testOffEnd ok => Sys2Proof.Machine.execTestOffEnd ok s
  | .stuckChannelCut n => Sys2Proof.Machine.execStuckChannelCut n s
  | .cycleMark p f => Sys2Proof.Machine.execCycleMark p f s
  | .promotion o transit => Sys2Proof.Machine.execPromotion o transit s
  | .wheelSlot entry => Sys2Proof.Machine.execWheelSlot entry s
  | .planDecision loads => Sys2Proof.Machine.execPlanDecision loads s
  | .sync p f => Sys2Proof.Machine.execSync p f s
  | .hostOffset rq value => Sys2Proof.Machine.execHostOffset rq value s
  | .setTime rq value => Sys2Proof.Machine.execSetTime rq value s
  | .todNext rq value => Sys2Proof.Machine.execTodNext rq value s
  | .ppsInEdge rising stampNs => Sys2Proof.Machine.execPpsInEdge rising stampNs s
  | .captureEdge pin rising ns => Sys2Proof.Machine.execCaptureEdge pin rising ns s
  | .waggleTableWrite rq e words => Sys2Proof.Machine.execWaggleTableWrite rq e words s
  | .waggleControlWrite rq e word => Sys2Proof.Machine.execWaggleControlWrite rq e word s
  | .waggleFreeze e => Sys2Proof.Machine.execWaggleFreeze e s
  | .waggleDio e => Sys2Proof.Machine.execWaggleDio e s
  | .waggleWorker e => Sys2Proof.Machine.execWaggleWorker e s
  | .waggleSend e => Sys2Proof.Machine.execWaggleSend e s
  | .waggleSnapshot e => Sys2Proof.Machine.execWaggleSnapshot e s
  | .waggleArmOther e => Sys2Proof.Machine.execWaggleArmOther e s
  | .waggleSupply e => Sys2Proof.Machine.execWaggleSupply e s
  | .pulseEnd n => Sys2Proof.Machine.execPulseEnd n s
  | .reportPop rq value => Sys2Proof.Machine.execReportPop rq value s
  | .axis p f => Sys2Proof.Machine.execAxis p f s
  | .axisStale axis => Sys2Proof.Machine.execAxisStale axis s
  | .preset rq publisher value => Sys2Proof.Machine.execPreset rq publisher value s
  | .readReq f => Sys2Proof.Machine.execReadReq f s
  | .writePosted f => Sys2Proof.Machine.execWritePosted f s
  | .writeAcked f => Sys2Proof.Machine.execWriteAcked f s
  | .compareSwap f => Sys2Proof.Machine.execCompareSwap f s
  | .fetchAdd f => Sys2Proof.Machine.execFetchAdd f s
  | .fence f => Sys2Proof.Machine.execFence f s
  | .readResp f => Sys2Proof.Machine.execReadResp f s
  | .requestIssue num tag cls addr a => Sys2Proof.Machine.execRequestIssue num tag cls addr a s
  | .reqTimeout num tag => Sys2Proof.Machine.execReqTimeout num tag s
  | .errnote f => Sys2Proof.Machine.execErrnote f s
  | .farLogPop rq value => Sys2Proof.Machine.execFarLogPop rq value s
  | .lockAcquire rq b issue lease wait => Sys2Proof.Machine.execLockAcquire rq b issue lease wait s
  | .lockRenew rq b => Sys2Proof.Machine.execLockRenew rq b s
  | .lockRelease rq b => Sys2Proof.Machine.execLockRelease rq b s
  | .lockWaitExpiry b m => Sys2Proof.Machine.execLockWaitExpiry b m s
  | .lockExpired b => Sys2Proof.Machine.execLockExpired b s
  | .backoffEnd n => Sys2Proof.Machine.execBackoffEnd n s
  | .tunnel n f => Sys2Proof.Machine.execTunnel n f s
  | .replayStart n => Sys2Proof.Machine.execReplayStart n s
  | .tailWrite r value => Sys2Proof.Machine.execTailWrite r value s
  | .txDescriptorFetch c flow flags payload => Sys2Proof.Machine.execTxDescriptorFetch c flow flags payload s
  | .rxDescriptorWrite c addr => Sys2Proof.Machine.execRxDescriptorWrite c addr s
  | .coalesceExpiry r => Sys2Proof.Machine.execCoalesceExpiry r s
  | .bar2Read offset len tag => Sys2Proof.Machine.execBar2Read offset len tag s
  | .bar2Write offset bytes tag => Sys2Proof.Machine.execBar2Write offset bytes tag s
  | .localPageAccess page offset tag acc => Sys2Proof.Machine.execLocalPageAccess page offset tag acc s
  | .hostReset kind => Sys2Proof.Machine.execHostReset kind s
  | .dmaFault r addr => Sys2Proof.Machine.execDmaFault r addr s
  | .canTxRequest rq n mask => Sys2Proof.Machine.execCanTxRequest rq n mask s
  | .canTxCancel rq n mask => Sys2Proof.Machine.execCanTxCancel rq n mask s
  | .canTxDoneClear rq n mask => Sys2Proof.Machine.execCanTxDoneClear rq n mask s
  | .canRxPop rq n value => Sys2Proof.Machine.execCanRxPop rq n value s
  | .hpRelease rq n value => Sys2Proof.Machine.execHpRelease rq n value s
  | .canDeliver n b payload => Sys2Proof.Machine.execCanDeliver n b payload s
  | .canIntegrated n => Sys2Proof.Machine.execCanIntegrated n s
  | .canBusIdle n => Sys2Proof.Machine.execCanBusIdle n s
  | .canTxStart n loopDelay => Sys2Proof.Machine.execCanTxStart n loopDelay s
  | .canTxSent n => Sys2Proof.Machine.execCanTxSent n s
  | .canArbLost n => Sys2Proof.Machine.execCanArbLost n s
  | .canFrameRx n f ns => Sys2Proof.Machine.execCanFrameRx n f ns s
  | .canBusError n kind dominant => Sys2Proof.Machine.execCanBusError n kind dominant s
  | .busOffRecovery n => Sys2Proof.Machine.execBusOffRecovery n s
  | .protocolException n => Sys2Proof.Machine.execProtocolException n s
  | .canDominantTimeout n => Sys2Proof.Machine.execCanDominantTimeout n s
  | .canRestart rq n value receiving => Sys2Proof.Machine.execCanRestart rq n value receiving s
  | .canEnable rq n value receiving => Sys2Proof.Machine.execCanEnable rq n value receiving s
  | .sdoInitiateDownload n data => Sys2Proof.Machine.execSdoInitiateDownload n data s
  | .sdoDownloadSegment n data => Sys2Proof.Machine.execSdoDownloadSegment n data s
  | .sdoInitiateUpload n data => Sys2Proof.Machine.execSdoInitiateUpload n data s
  | .sdoUploadSegment n data => Sys2Proof.Machine.execSdoUploadSegment n data s
  | .sdoAbort n => Sys2Proof.Machine.execSdoAbort n s
  | .sdoTimeout n => Sys2Proof.Machine.execSdoTimeout n s
  | .serTxRequest rq n mask => Sys2Proof.Machine.execSerTxRequest rq n mask s
  | .serTxCancel rq n mask => Sys2Proof.Machine.execSerTxCancel rq n mask s
  | .serTxDoneClear rq n mask => Sys2Proof.Machine.execSerTxDoneClear rq n mask s
  | .serRxPop rq n value => Sys2Proof.Machine.execSerRxPop rq n value s
  | .serDeliver n b payload => Sys2Proof.Machine.execSerDeliver n b payload s
  | .serTxStart n => Sys2Proof.Machine.execSerTxStart n s
  | .serTxSent n => Sys2Proof.Machine.execSerTxSent n s
  | .serCollision n sent => Sys2Proof.Machine.execSerCollision n sent s
  | .serDriverRelease n => Sys2Proof.Machine.execSerDriverRelease n s
  | .serFrameRx n chars parity framing ns => Sys2Proof.Machine.execSerFrameRx n chars parity framing ns s
  | .serBreak n chars parity framing ns => Sys2Proof.Machine.execSerBreak n chars parity framing ns s
  | .mSequenceEnd n ns pd event step => Sys2Proof.Machine.execMSequenceEnd n ns pd event step s
  | .pdOutDeliver n payload => Sys2Proof.Machine.execPdOutDeliver n payload s
  | .isduCmd rq n word => Sys2Proof.Machine.execIsduCmd rq n word s
  | .isduDone n error data => Sys2Proof.Machine.execIsduDone n error data s
  | .isduTimeout n => Sys2Proof.Machine.execIsduTimeout n s
  | .evPop rq n word => Sys2Proof.Machine.execEvPop rq n word s
  | .sdciCommLost n => Sys2Proof.Machine.execSdciCommLost n s
  | .sdciStartupRetry n => Sys2Proof.Machine.execSdciStartupRetry n s
  | .sdciLTrip n => Sys2Proof.Machine.execSdciLTrip n s
  | .lRetry n => Sys2Proof.Machine.execLRetry n s
  | .dsUploadDeferred n => Sys2Proof.Machine.execDsUploadDeferred n s
  | .dsClear rq n value => Sys2Proof.Machine.execDsClear rq n value s
  | .outImage rq value => Sys2Proof.Machine.execOutImage rq value s
  | .outSet rq value => Sys2Proof.Machine.execOutSet rq value s
  | .outClear rq value => Sys2Proof.Machine.execOutClear rq value s
  | .dioDeliver payload => Sys2Proof.Machine.execDioDeliver payload s
  | .diagClear rq n value => Sys2Proof.Machine.execDiagClear rq n value s
  | .dioCapPop rq value => Sys2Proof.Machine.execDioCapPop rq value s
  | .inputFilterAccept n level => Sys2Proof.Machine.execInputFilterAccept n level s
  | .dioOvercurrent n temperature => Sys2Proof.Machine.execDioOvercurrent n temperature s
  | .outRetry n => Sys2Proof.Machine.execOutRetry n s
  | .dioDiag n stuck => Sys2Proof.Machine.execDioDiag n stuck s
  | .pulseTestStart n => Sys2Proof.Machine.execPulseTestStart n s
  | .pulseTestEnd n passed => Sys2Proof.Machine.execPulseTestEnd n passed s
  | .budgetCut k sum => Sys2Proof.Machine.execBudgetCut k sum s
  | .supplyOn rq supply value => Sys2Proof.Machine.execSupplyOn rq supply value s
  | .supplyTrip supply => Sys2Proof.Machine.execSupplyTrip supply s
  | .supplyRetry supply => Sys2Proof.Machine.execSupplyRetry supply s
  | .workerNop n => Sys2Proof.Machine.execWorkerNop n s
  | .workerOut n => Sys2Proof.Machine.execWorkerOut n s
  | .workerIn n levels => Sys2Proof.Machine.execWorkerIn n levels s
  | .workerPull n => Sys2Proof.Machine.execWorkerPull n s
  | .workerPush n => Sys2Proof.Machine.execWorkerPush n s
  | .workerSet n => Sys2Proof.Machine.execWorkerSet n s
  | .workerWait n levels => Sys2Proof.Machine.execWorkerWait n levels s
  | .workerCmp n => Sys2Proof.Machine.execWorkerCmp n s
  | .workerJmp n levels => Sys2Proof.Machine.execWorkerJmp n levels s
  | .workerFlag n => Sys2Proof.Machine.execWorkerFlag n s
  | .workerStamp n => Sys2Proof.Machine.execWorkerStamp n s
  | .stallEnd n levels edge => Sys2Proof.Machine.execStallEnd n levels edge s
  | .ringTick c => Sys2Proof.Machine.execRingTick c s
  | .startMask rq mask => Sys2Proof.Machine.execStartMask rq mask s
  | .restartMask rq mask => Sys2Proof.Machine.execRestartMask rq mask s
  | .stopMask rq mask => Sys2Proof.Machine.execStopMask rq mask s
  | .workerStall n => Sys2Proof.Machine.execWorkerStall n s
  | .bankWrite rq n bank addr words => Sys2Proof.Machine.execBankWrite rq n bank addr words s
  | .txFifoWrite rq n words => Sys2Proof.Machine.execTxFifoWrite rq n words s
  | .rxFifoRead rq n k => Sys2Proof.Machine.execRxFifoRead rq n k s
  | .workerDeliver n payload => Sys2Proof.Machine.execWorkerDeliver n payload s
  | .workerCapPop rq value => Sys2Proof.Machine.execWorkerCapPop rq value s
  | .helperTransition h onA a b together ns => Sys2Proof.Machine.execHelperTransition h onA a b together ns s
  | .helperIndex h ns => Sys2Proof.Machine.execHelperIndex h ns s
  | .safeNLow e => Sys2Proof.Machine.execSafeNLow e s
  | .safeExit rq value => Sys2Proof.Machine.execSafeExit rq value s
  | .faultClear rq value => Sys2Proof.Machine.execFaultClear rq value s
  | .configScrub found => Sys2Proof.Machine.execConfigScrub found s
  | .shadowEnd id settled => Sys2Proof.Machine.execShadowEnd id settled s
  | .release rq value => Sys2Proof.Machine.execRelease rq value s
  | .crystalClear rq value => Sys2Proof.Machine.execCrystalClear rq value s
  | .lockstepMismatch pc => Sys2Proof.Machine.execLockstepMismatch pc s
  | .watchdog pc => Sys2Proof.Machine.execWatchdog pc s
  | .mgmtRestart rq value => Sys2Proof.Machine.execMgmtRestart rq value s
  | .dictRead rq t => Sys2Proof.Machine.execDictRead rq t s
  | .dictWrite rq t => Sys2Proof.Machine.execDictWrite rq t s
  | .segReadInit rq t => Sys2Proof.Machine.execSegReadInit rq t s
  | .segWriteInit rq t => Sys2Proof.Machine.execSegWriteInit rq t s
  | .segRead rq t => Sys2Proof.Machine.execSegRead rq t s
  | .segWrite rq t => Sys2Proof.Machine.execSegWrite rq t s
  | .dictAbort rq t => Sys2Proof.Machine.execDictAbort rq t s
  | .sessionTimeout n => Sys2Proof.Machine.execSessionTimeout n s
  | .objectWrite rq index sub value => Sys2Proof.Machine.execObjectWrite rq index sub value s
  | .stagedWrite rq index sub value => Sys2Proof.Machine.execStagedWrite rq index sub value s
  | .claimTimeout g => Sys2Proof.Machine.execClaimTimeout g s
  | .commitDiscard rq g => Sys2Proof.Machine.execCommitDiscard rq g s
  | .commitAtBoundary rq g => Sys2Proof.Machine.execCommitAtBoundary rq g s
  | .commitNow rq g => Sys2Proof.Machine.execCommitNow rq g s
  | .saveNow rq value => Sys2Proof.Machine.execSaveNow rq value s
  | .saveDone ok other => Sys2Proof.Machine.execSaveDone ok other s
  | .restoreDefaults rq value => Sys2Proof.Machine.execRestoreDefaults rq value s
  | .releaseNumber rq value => Sys2Proof.Machine.execReleaseNumber rq value s
  | .countersClear rq index value => Sys2Proof.Machine.execCountersClear rq index value s
  | .keeperQuery p f => Sys2Proof.Machine.execKeeperQuery p f s
  | .joinReq p f => Sys2Proof.Machine.execJoinReq p f s
  | .joinGrant p f => Sys2Proof.Machine.execJoinGrant p f s
  | .settingsPushDone set => Sys2Proof.Machine.execSettingsPushDone set s
  | .mapReadDelay map => Sys2Proof.Machine.execMapReadDelay map s
  | .commission rq value => Sys2Proof.Machine.execCommission rq value s
  | .mapWrite rq value => Sys2Proof.Machine.execMapWrite rq value s
  | .mapUpdate p f => Sys2Proof.Machine.execMapUpdate p f s
  | .powerEvaluation m => Sys2Proof.Machine.execPowerEvaluation m s
  | .latencyTolerance rq value => Sys2Proof.Machine.execLatencyTolerance rq value s
  | .wake ir bits => Sys2Proof.Machine.execWake ir bits s
  | .marginPlan m => Sys2Proof.Machine.execMarginPlan m s
  | .planNow rq value => Sys2Proof.Machine.execPlanNow rq value s
  | .baselineReset rq p value => Sys2Proof.Machine.execBaselineReset rq p value s
  | .slackEvent d slack => Sys2Proof.Machine.execSlackEvent d slack s
  | .thermalHigh sensor temp => Sys2Proof.Machine.execThermalHigh sensor temp s
  | .thermalLimit sensor temp => Sys2Proof.Machine.execThermalLimit sensor temp s
  | .rippleHigh mv => Sys2Proof.Machine.execRippleHigh mv s
  | .verificationDone outcome => Sys2Proof.Machine.execVerificationDone outcome s
  | .distributionFrame repair payload => Sys2Proof.Machine.execDistributionFrame repair payload s
  | .activateSlot rq k => Sys2Proof.Machine.execActivateSlot rq k s
  | .activatePair rq k same => Sys2Proof.Machine.execActivatePair rq k same s
  | .confirm rq value => Sys2Proof.Machine.execConfirm rq value s
  | .loadChannels rq value => Sys2Proof.Machine.execLoadChannels rq value s
  | .channelLoaded matches_ => Sys2Proof.Machine.execChannelLoaded matches_ s
  | .usbRecorderRead tag target seq k => Sys2Proof.Machine.execUsbRecorderRead tag target seq k s
  | .waggleNone e => Sys2Proof.Machine.execWaggleNone e s
  | .vbusChange applied => Sys2Proof.Machine.execVbusChange applied s
  | .hostLinkUp speed busMaster => Sys2Proof.Machine.execHostLinkUp speed busMaster s
  | .blFrameRx link raw payload good stamp => Sys2Proof.Machine.execBlFrameRx link raw payload good stamp s
  | .mSequenceStart n => Sys2Proof.Machine.execMSequenceStart n s
  | .sioDiChange n level ns => Sys2Proof.Machine.execSioDiChange n level ns s
  | .recorderEccRecovery slot ends => Sys2Proof.Machine.execRecorderEccRecovery slot ends s
  | .hostWindowAccess offset tag acc => Sys2Proof.Machine.execHostWindowAccess offset tag acc s
  | .powerOn => Sys2Proof.Machine.execPowerOn s
  | .rstN => Sys2Proof.Machine.execRstN s
  | .benchPower => Sys2Proof.Machine.execBenchPower s
  | .downHopExpiry => Sys2Proof.Machine.execDownHopExpiry s
  | .electRound2 => Sys2Proof.Machine.execElectRound2 s
  | .electionDecision => Sys2Proof.Machine.execElectionDecision s
  | .electionRestart => Sys2Proof.Machine.execElectionRestart s
  | .keeperAnnounceTimer => Sys2Proof.Machine.execKeeperAnnounceTimer s
  | .keeperLossGuardExpiry => Sys2Proof.Machine.execKeeperLossGuardExpiry s
  | .partnerAbsentTimeout => Sys2Proof.Machine.execPartnerAbsentTimeout s
  | .heartbeatSend => Sys2Proof.Machine.execHeartbeatSend s
  | .heartbeatMiss => Sys2Proof.Machine.execHeartbeatMiss s
  | .probeTimeout => Sys2Proof.Machine.execProbeTimeout s
  | .resyncDone => Sys2Proof.Machine.execResyncDone s
  | .mirrorApplyTime => Sys2Proof.Machine.execMirrorApplyTime s
  | .autoSwapInterval => Sys2Proof.Machine.execAutoSwapInterval s
  | .swapTime => Sys2Proof.Machine.execSwapTime s
  | .testOff => Sys2Proof.Machine.execTestOff s
  | .cycleBoundary => Sys2Proof.Machine.execCycleBoundary s
  | .openWindowStart => Sys2Proof.Machine.execOpenWindowStart s
  | .replanTimer => Sys2Proof.Machine.execReplanTimer s
  | .holdoverEnter => Sys2Proof.Machine.execHoldoverEnter s
  | .extLost => Sys2Proof.Machine.execExtLost s
  | .ppsOutEdge => Sys2Proof.Machine.execPpsOutEdge s
  | .vinReducedEnter => Sys2Proof.Machine.execVinReducedEnter s
  | .vinReducedExit => Sys2Proof.Machine.execVinReducedExit s
  | .vinLost => Sys2Proof.Machine.execVinLost s
  | .vinReturn => Sys2Proof.Machine.execVinReturn s
  | .holdupExpiry => Sys2Proof.Machine.execHoldupExpiry s
  | .collectorMessage => Sys2Proof.Machine.execCollectorMessage s
  | .crystalClearDone => Sys2Proof.Machine.execCrystalClearDone s
  | .brineFlush => Sys2Proof.Machine.execBrineFlush s
  | .restartEnd => Sys2Proof.Machine.execRestartEnd s
  | .saveStart => Sys2Proof.Machine.execSaveStart s
  | .discoveryWait => Sys2Proof.Machine.execDiscoveryWait s
  | .keeperQuerySend => Sys2Proof.Machine.execKeeperQuerySend s
  | .joinRetry => Sys2Proof.Machine.execJoinRetry s
  | .mapUpdateTimer => Sys2Proof.Machine.execMapUpdateTimer s
  | .positionDrop => Sys2Proof.Machine.execPositionDrop s
  | .activationTime => Sys2Proof.Machine.execActivationTime s
  | .confirmAfter => Sys2Proof.Machine.execConfirmAfter s
  | .phyStaggerRetrain => Sys2Proof.Machine.execPhyStaggerRetrain s
  | .phyWestRetrain => Sys2Proof.Machine.execPhyWestRetrain s
  | .wholeSecond => Sys2Proof.Machine.execWholeSecond s
  | .hostLinkDown => Sys2Proof.Machine.execHostLinkDown s

end Sys2Proof.Machine
end

