-- ==== Sys2Proof/Machine/Step.lean ====
section
/-!
DEFINITION. One step: the command at the front of the queue, or one core tick where none waits.
-/

namespace Sys2Proof.Machine

/-- The command at the front runs on the state without it. With nothing waiting one core tick of 2.5 ns passes (R212; DESIGN
CHOICE, log entry 1); what becomes due then are commands of their own. -/
def step (s : State) : Host.Outcome State Fault Refusal :=
  match s.pending with
  | c :: rest => exec c { s with pending := rest }
  | [] => .next s.coreTick

/-- Put the command that a word spells at the front of the queue: no word spells one. -/
def State.withFetchWord (s : State) (nbits w : Nat) : State :=
  match Sys2Proof.decodeTableWord nbits w with
  | some c => { s with pending := c :: s.pending }
  | none => s

end Sys2Proof.Machine
end

