-- ==== Sys2Proof/Laws/Assoc.lean ====
section
/-!
SUPPORT. Sparse tables: reading after a write, and the canonical form.
-/

namespace Sys2Proof.Machine

variable {α : Type}

theorem aget_cons (k' : Nat) (v' : α) (l : List (Nat × α)) (k : Nat) :
    aget ((k', v') :: l) k = if k' = k then some v' else aget l k := by
  by_cases h : k' = k <;> simp [aget, h]

@[simp] theorem aget_aput_self (l : List (Nat × α)) (k : Nat) (v : α) : aget (aput l k v) k = some v := by
  induction l with
  | nil => simp [aput, aget_cons]
  | cons p l ih =>
    obtain ⟨k', v'⟩ := p
    unfold aput
    split
    · simp [aget_cons]
    · split
      · simp [aget_cons]
      · rename_i h2; simp [aget_cons, ih, Ne.symm h2]

theorem aget_aput_of_ne (l : List (Nat × α)) {k k' : Nat} (v : α) (h : k' ≠ k) : aget (aput l k v) k' = aget l k' := by
  induction l with
  | nil => simp [aput, aget_cons, h.symm]
  | cons p l ih =>
    obtain ⟨k₀, v₀⟩ := p
    unfold aput
    split
    · simp [aget_cons, h.symm]
    · split
      · rename_i h2; subst h2; simp [aget_cons, h.symm]
      · simp [aget_cons, ih]

@[simp] theorem aget_adel_self (l : List (Nat × α)) (k : Nat) : aget (adel l k) k = none := by
  simp [aget, adel, List.find?_filter]

theorem aget_adel_of_ne (l : List (Nat × α)) {k k' : Nat} (h : k' ≠ k) : aget (adel l k) k' = aget l k' := by
  induction l with
  | nil => rfl
  | cons p l ih =>
    obtain ⟨k₀, v₀⟩ := p
    by_cases h0 : k₀ = k
    · subst h0; simpa [adel, aget_cons, h.symm] using ih
    · have : adel ((k₀, v₀) :: l) k = (k₀, v₀) :: adel l k := by simp [adel, h0]
      rw [this, aget_cons, aget_cons, ih]

/-- A list is rising when its tail is and every key of it is above the head. -/
theorem rising_cons (a : Nat × α) (l : List (Nat × α)) : rising (a :: l) = true ↔ (∀ b ∈ l, a.1 < b.1) ∧ rising l = true := by
  induction l generalizing a with
  | nil => simp [rising]
  | cons b l ih =>
    simp only [rising, Bool.and_eq_true, decide_eq_true_eq, List.mem_cons, forall_eq_or_imp]
    constructor
    · rintro ⟨h, hr⟩
      exact ⟨⟨h, fun c hc => lt_trans h ((ih b).1 hr |>.1 c hc)⟩, hr⟩
    · rintro ⟨⟨h, _⟩, hr⟩
      exact ⟨h, hr⟩

theorem rising_adel (l : List (Nat × α)) (k : Nat) (h : rising l = true) : rising (adel l k) = true := by
  induction l with
  | nil => rfl
  | cons a l ih =>
    rw [rising_cons] at h
    have hl := ih h.2
    by_cases hk : a.1 = k
    · simpa [adel, hk] using hl
    · have : adel (a :: l) k = a :: adel l k := by simp [adel, hk]
      rw [this, rising_cons]
      exact ⟨fun b hb => h.1 b (List.mem_of_mem_filter hb), hl⟩

theorem mem_aput {l : List (Nat × α)} {k : Nat} {v : α} {p : Nat × α} (h : p ∈ aput l k v) : p = (k, v) ∨ p ∈ l := by
  induction l with
  | nil => simpa [aput] using h
  | cons a l ih =>
    obtain ⟨k', v'⟩ := a
    unfold aput at h
    split at h
    · simpa using h
    · split at h
      · rcases List.mem_cons.1 h with h | h
        · exact .inl h
        · exact .inr (List.mem_cons_of_mem _ h)
      · rcases List.mem_cons.1 h with h | h
        · exact .inr (by simp [h])
        · rcases ih h with h | h
          · exact .inl h
          · exact .inr (List.mem_cons_of_mem _ h)

theorem rising_aput (l : List (Nat × α)) (k : Nat) (v : α) (h : rising l = true) : rising (aput l k v) = true := by
  induction l with
  | nil => rfl
  | cons a l ih =>
    obtain ⟨k', v'⟩ := a
    have hc := (rising_cons _ _).1 h
    unfold aput
    split
    · rename_i hk
      rw [rising_cons]
      refine ⟨fun b hb => ?_, h⟩
      rcases List.mem_cons.1 hb with rfl | hb
      · exact hk
      · exact lt_trans hk (hc.1 b hb)
    · split
      · rename_i hk; subst hk
        exact (rising_cons _ _).2 ⟨hc.1, hc.2⟩
      · rename_i h1 h2
        rw [rising_cons]
        refine ⟨fun b hb => ?_, ih hc.2⟩
        rcases mem_aput hb with rfl | hb
        · show k' < k; omega
        · exact hc.1 b hb

end Sys2Proof.Machine
end

