-- ==== Sys2Proof/Laws/State.lean ====
section
/-!
SUPPORT. What each of the base updates of State leaves as it is: one lemma for each field and update, each true by computation.
-/

namespace Sys2Proof.Machine

variable (s : State)

@[simp] theorem State.setVal_pending (i j v : Nat) : (s.setVal i j v).pending = s.pending := rfl
@[simp] theorem State.setVal_out (i j v : Nat) : (s.setVal i j v).out = s.out := rfl
@[simp] theorem State.setVal_freeCount (i j v : Nat) : (s.setVal i j v).freeCount = s.freeCount := rfl
@[simp] theorem State.setVal_uptime (i j v : Nat) : (s.setVal i j v).uptime = s.uptime := rfl
@[simp] theorem State.setVal_ringTime (i j v : Nat) : (s.setVal i j v).ringTime = s.ringTime := rfl
@[simp] theorem State.setVal_alarms (i j v : Nat) : (s.setVal i j v).alarms = s.alarms := rfl
@[simp] theorem State.setVal_ident (i j v : Nat) : (s.setVal i j v).ident = s.ident := rfl
@[simp] theorem State.setVal_groups (i j v : Nat) : (s.setVal i j v).groups = s.groups := rfl
@[simp] theorem State.setVal_sessions (i j v : Nat) : (s.setVal i j v).sessions = s.sessions := rfl
@[simp] theorem State.setVal_settings (i j v : Nat) : (s.setVal i j v).settings = s.settings := rfl
@[simp] theorem State.setVal_mgmt (i j v : Nat) : (s.setVal i j v).mgmt = s.mgmt := rfl
@[simp] theorem State.setVal_coll (i j v : Nat) : (s.setVal i j v).coll = s.coll := rfl
@[simp] theorem State.setVal_rcd (i j v : Nat) : (s.setVal i j v).rcd = s.rcd := rfl
@[simp] theorem State.setVal_east (i j v : Nat) : (s.setVal i j v).east = s.east := rfl
@[simp] theorem State.setVal_west (i j v : Nat) : (s.setVal i j v).west = s.west := rfl
@[simp] theorem State.setVal_sw (i j v : Nat) : (s.setVal i j v).sw = s.sw := rfl
@[simp] theorem State.setVal_cyc (i j v : Nat) : (s.setVal i j v).cyc = s.cyc := rfl
@[simp] theorem State.setVal_bridge (i j v : Nat) : (s.setVal i j v).bridge = s.bridge := rfl
@[simp] theorem State.setVal_host (i j v : Nat) : (s.setVal i j v).host = s.host := rfl
@[simp] theorem State.setVal_rs (i j v : Nat) : (s.setVal i j v).rs = s.rs := rfl
@[simp] theorem State.setVal_dx (i j v : Nat) : (s.setVal i j v).dx = s.dx := rfl
@[simp] theorem State.setVal_tu (i j v : Nat) : (s.setVal i j v).tu = s.tu := rfl
@[simp] theorem State.setVal_dio (i j v : Nat) : (s.setVal i j v).dio = s.dio := rfl
@[simp] theorem State.setVal_wu (i j v : Nat) : (s.setVal i j v).wu = s.wu := rfl
@[simp] theorem State.setVal_wag (i j v : Nat) : (s.setVal i j v).wag = s.wag := rfl
@[simp] theorem State.setVal_ax (i j v : Nat) : (s.setVal i j v).ax = s.ax := rfl
@[simp] theorem State.setVal_can (i j v : Nat) : (s.setVal i j v).can = s.can := rfl
@[simp] theorem State.setVal_ser (i j v : Nat) : (s.setVal i j v).ser = s.ser := rfl
@[simp] theorem State.setVal_sdci (i j v : Nat) : (s.setVal i j v).sdci = s.sdci := rfl
@[simp] theorem State.setVal_hm (i j v : Nat) : (s.setVal i j v).hm = s.hm := rfl
@[simp] theorem State.setVal_pw (i j v : Nat) : (s.setVal i j v).pw = s.pw := rfl
@[simp] theorem State.setVal_up (i j v : Nat) : (s.setVal i j v).up = s.up := rfl
@[simp] theorem State.setVal_jtag (i j v : Nat) : (s.setVal i j v).jtag = s.jtag := rfl

@[simp] theorem State.addVal_pending (i j n : Nat) : (s.addVal i j n).pending = s.pending := rfl
@[simp] theorem State.addVal_out (i j n : Nat) : (s.addVal i j n).out = s.out := rfl
@[simp] theorem State.addVal_freeCount (i j n : Nat) : (s.addVal i j n).freeCount = s.freeCount := rfl
@[simp] theorem State.addVal_uptime (i j n : Nat) : (s.addVal i j n).uptime = s.uptime := rfl
@[simp] theorem State.addVal_ringTime (i j n : Nat) : (s.addVal i j n).ringTime = s.ringTime := rfl
@[simp] theorem State.addVal_alarms (i j n : Nat) : (s.addVal i j n).alarms = s.alarms := rfl
@[simp] theorem State.addVal_ident (i j n : Nat) : (s.addVal i j n).ident = s.ident := rfl
@[simp] theorem State.addVal_groups (i j n : Nat) : (s.addVal i j n).groups = s.groups := rfl
@[simp] theorem State.addVal_sessions (i j n : Nat) : (s.addVal i j n).sessions = s.sessions := rfl
@[simp] theorem State.addVal_settings (i j n : Nat) : (s.addVal i j n).settings = s.settings := rfl
@[simp] theorem State.addVal_mgmt (i j n : Nat) : (s.addVal i j n).mgmt = s.mgmt := rfl
@[simp] theorem State.addVal_coll (i j n : Nat) : (s.addVal i j n).coll = s.coll := rfl
@[simp] theorem State.addVal_rcd (i j n : Nat) : (s.addVal i j n).rcd = s.rcd := rfl
@[simp] theorem State.addVal_east (i j n : Nat) : (s.addVal i j n).east = s.east := rfl
@[simp] theorem State.addVal_west (i j n : Nat) : (s.addVal i j n).west = s.west := rfl
@[simp] theorem State.addVal_sw (i j n : Nat) : (s.addVal i j n).sw = s.sw := rfl
@[simp] theorem State.addVal_cyc (i j n : Nat) : (s.addVal i j n).cyc = s.cyc := rfl
@[simp] theorem State.addVal_bridge (i j n : Nat) : (s.addVal i j n).bridge = s.bridge := rfl
@[simp] theorem State.addVal_host (i j n : Nat) : (s.addVal i j n).host = s.host := rfl
@[simp] theorem State.addVal_rs (i j n : Nat) : (s.addVal i j n).rs = s.rs := rfl
@[simp] theorem State.addVal_dx (i j n : Nat) : (s.addVal i j n).dx = s.dx := rfl
@[simp] theorem State.addVal_tu (i j n : Nat) : (s.addVal i j n).tu = s.tu := rfl
@[simp] theorem State.addVal_dio (i j n : Nat) : (s.addVal i j n).dio = s.dio := rfl
@[simp] theorem State.addVal_wu (i j n : Nat) : (s.addVal i j n).wu = s.wu := rfl
@[simp] theorem State.addVal_wag (i j n : Nat) : (s.addVal i j n).wag = s.wag := rfl
@[simp] theorem State.addVal_ax (i j n : Nat) : (s.addVal i j n).ax = s.ax := rfl
@[simp] theorem State.addVal_can (i j n : Nat) : (s.addVal i j n).can = s.can := rfl
@[simp] theorem State.addVal_ser (i j n : Nat) : (s.addVal i j n).ser = s.ser := rfl
@[simp] theorem State.addVal_sdci (i j n : Nat) : (s.addVal i j n).sdci = s.sdci := rfl
@[simp] theorem State.addVal_hm (i j n : Nat) : (s.addVal i j n).hm = s.hm := rfl
@[simp] theorem State.addVal_pw (i j n : Nat) : (s.addVal i j n).pw = s.pw := rfl
@[simp] theorem State.addVal_up (i j n : Nat) : (s.addVal i j n).up = s.up := rfl
@[simp] theorem State.addVal_jtag (i j n : Nat) : (s.addVal i j n).jtag = s.jtag := rfl

@[simp] theorem State.bump_pending (i j : Nat) : (s.bump i j).pending = s.pending := rfl
@[simp] theorem State.bump_out (i j : Nat) : (s.bump i j).out = s.out := rfl
@[simp] theorem State.bump_freeCount (i j : Nat) : (s.bump i j).freeCount = s.freeCount := rfl
@[simp] theorem State.bump_uptime (i j : Nat) : (s.bump i j).uptime = s.uptime := rfl
@[simp] theorem State.bump_ringTime (i j : Nat) : (s.bump i j).ringTime = s.ringTime := rfl
@[simp] theorem State.bump_alarms (i j : Nat) : (s.bump i j).alarms = s.alarms := rfl
@[simp] theorem State.bump_ident (i j : Nat) : (s.bump i j).ident = s.ident := rfl
@[simp] theorem State.bump_groups (i j : Nat) : (s.bump i j).groups = s.groups := rfl
@[simp] theorem State.bump_sessions (i j : Nat) : (s.bump i j).sessions = s.sessions := rfl
@[simp] theorem State.bump_settings (i j : Nat) : (s.bump i j).settings = s.settings := rfl
@[simp] theorem State.bump_mgmt (i j : Nat) : (s.bump i j).mgmt = s.mgmt := rfl
@[simp] theorem State.bump_coll (i j : Nat) : (s.bump i j).coll = s.coll := rfl
@[simp] theorem State.bump_rcd (i j : Nat) : (s.bump i j).rcd = s.rcd := rfl
@[simp] theorem State.bump_east (i j : Nat) : (s.bump i j).east = s.east := rfl
@[simp] theorem State.bump_west (i j : Nat) : (s.bump i j).west = s.west := rfl
@[simp] theorem State.bump_sw (i j : Nat) : (s.bump i j).sw = s.sw := rfl
@[simp] theorem State.bump_cyc (i j : Nat) : (s.bump i j).cyc = s.cyc := rfl
@[simp] theorem State.bump_bridge (i j : Nat) : (s.bump i j).bridge = s.bridge := rfl
@[simp] theorem State.bump_host (i j : Nat) : (s.bump i j).host = s.host := rfl
@[simp] theorem State.bump_rs (i j : Nat) : (s.bump i j).rs = s.rs := rfl
@[simp] theorem State.bump_dx (i j : Nat) : (s.bump i j).dx = s.dx := rfl
@[simp] theorem State.bump_tu (i j : Nat) : (s.bump i j).tu = s.tu := rfl
@[simp] theorem State.bump_dio (i j : Nat) : (s.bump i j).dio = s.dio := rfl
@[simp] theorem State.bump_wu (i j : Nat) : (s.bump i j).wu = s.wu := rfl
@[simp] theorem State.bump_wag (i j : Nat) : (s.bump i j).wag = s.wag := rfl
@[simp] theorem State.bump_ax (i j : Nat) : (s.bump i j).ax = s.ax := rfl
@[simp] theorem State.bump_can (i j : Nat) : (s.bump i j).can = s.can := rfl
@[simp] theorem State.bump_ser (i j : Nat) : (s.bump i j).ser = s.ser := rfl
@[simp] theorem State.bump_sdci (i j : Nat) : (s.bump i j).sdci = s.sdci := rfl
@[simp] theorem State.bump_hm (i j : Nat) : (s.bump i j).hm = s.hm := rfl
@[simp] theorem State.bump_pw (i j : Nat) : (s.bump i j).pw = s.pw := rfl
@[simp] theorem State.bump_up (i j : Nat) : (s.bump i j).up = s.up := rfl
@[simp] theorem State.bump_jtag (i j : Nat) : (s.bump i j).jtag = s.jtag := rfl

@[simp] theorem State.setFlag_pending (i j : Nat) (b : Bool) : (s.setFlag i j b).pending = s.pending := rfl
@[simp] theorem State.setFlag_out (i j : Nat) (b : Bool) : (s.setFlag i j b).out = s.out := rfl
@[simp] theorem State.setFlag_freeCount (i j : Nat) (b : Bool) : (s.setFlag i j b).freeCount = s.freeCount := rfl
@[simp] theorem State.setFlag_uptime (i j : Nat) (b : Bool) : (s.setFlag i j b).uptime = s.uptime := rfl
@[simp] theorem State.setFlag_ringTime (i j : Nat) (b : Bool) : (s.setFlag i j b).ringTime = s.ringTime := rfl
@[simp] theorem State.setFlag_alarms (i j : Nat) (b : Bool) : (s.setFlag i j b).alarms = s.alarms := rfl
@[simp] theorem State.setFlag_ident (i j : Nat) (b : Bool) : (s.setFlag i j b).ident = s.ident := rfl
@[simp] theorem State.setFlag_groups (i j : Nat) (b : Bool) : (s.setFlag i j b).groups = s.groups := rfl
@[simp] theorem State.setFlag_sessions (i j : Nat) (b : Bool) : (s.setFlag i j b).sessions = s.sessions := rfl
@[simp] theorem State.setFlag_settings (i j : Nat) (b : Bool) : (s.setFlag i j b).settings = s.settings := rfl
@[simp] theorem State.setFlag_mgmt (i j : Nat) (b : Bool) : (s.setFlag i j b).mgmt = s.mgmt := rfl
@[simp] theorem State.setFlag_coll (i j : Nat) (b : Bool) : (s.setFlag i j b).coll = s.coll := rfl
@[simp] theorem State.setFlag_rcd (i j : Nat) (b : Bool) : (s.setFlag i j b).rcd = s.rcd := rfl
@[simp] theorem State.setFlag_east (i j : Nat) (b : Bool) : (s.setFlag i j b).east = s.east := rfl
@[simp] theorem State.setFlag_west (i j : Nat) (b : Bool) : (s.setFlag i j b).west = s.west := rfl
@[simp] theorem State.setFlag_sw (i j : Nat) (b : Bool) : (s.setFlag i j b).sw = s.sw := rfl
@[simp] theorem State.setFlag_cyc (i j : Nat) (b : Bool) : (s.setFlag i j b).cyc = s.cyc := rfl
@[simp] theorem State.setFlag_bridge (i j : Nat) (b : Bool) : (s.setFlag i j b).bridge = s.bridge := rfl
@[simp] theorem State.setFlag_host (i j : Nat) (b : Bool) : (s.setFlag i j b).host = s.host := rfl
@[simp] theorem State.setFlag_rs (i j : Nat) (b : Bool) : (s.setFlag i j b).rs = s.rs := rfl
@[simp] theorem State.setFlag_dx (i j : Nat) (b : Bool) : (s.setFlag i j b).dx = s.dx := rfl
@[simp] theorem State.setFlag_tu (i j : Nat) (b : Bool) : (s.setFlag i j b).tu = s.tu := rfl
@[simp] theorem State.setFlag_dio (i j : Nat) (b : Bool) : (s.setFlag i j b).dio = s.dio := rfl
@[simp] theorem State.setFlag_wu (i j : Nat) (b : Bool) : (s.setFlag i j b).wu = s.wu := rfl
@[simp] theorem State.setFlag_wag (i j : Nat) (b : Bool) : (s.setFlag i j b).wag = s.wag := rfl
@[simp] theorem State.setFlag_ax (i j : Nat) (b : Bool) : (s.setFlag i j b).ax = s.ax := rfl
@[simp] theorem State.setFlag_can (i j : Nat) (b : Bool) : (s.setFlag i j b).can = s.can := rfl
@[simp] theorem State.setFlag_ser (i j : Nat) (b : Bool) : (s.setFlag i j b).ser = s.ser := rfl
@[simp] theorem State.setFlag_sdci (i j : Nat) (b : Bool) : (s.setFlag i j b).sdci = s.sdci := rfl
@[simp] theorem State.setFlag_hm (i j : Nat) (b : Bool) : (s.setFlag i j b).hm = s.hm := rfl
@[simp] theorem State.setFlag_pw (i j : Nat) (b : Bool) : (s.setFlag i j b).pw = s.pw := rfl
@[simp] theorem State.setFlag_up (i j : Nat) (b : Bool) : (s.setFlag i j b).up = s.up := rfl
@[simp] theorem State.setFlag_jtag (i j : Nat) (b : Bool) : (s.setFlag i j b).jtag = s.jtag := rfl

@[simp] theorem State.emit_pending (e : Emission) : (s.emit e).pending = s.pending := rfl
@[simp] theorem State.emit_freeCount (e : Emission) : (s.emit e).freeCount = s.freeCount := rfl
@[simp] theorem State.emit_uptime (e : Emission) : (s.emit e).uptime = s.uptime := rfl
@[simp] theorem State.emit_ringTime (e : Emission) : (s.emit e).ringTime = s.ringTime := rfl
@[simp] theorem State.emit_alarms (e : Emission) : (s.emit e).alarms = s.alarms := rfl
@[simp] theorem State.emit_ident (e : Emission) : (s.emit e).ident = s.ident := rfl
@[simp] theorem State.emit_objs (e : Emission) : (s.emit e).objs = s.objs := rfl
@[simp] theorem State.emit_groups (e : Emission) : (s.emit e).groups = s.groups := rfl
@[simp] theorem State.emit_sessions (e : Emission) : (s.emit e).sessions = s.sessions := rfl
@[simp] theorem State.emit_settings (e : Emission) : (s.emit e).settings = s.settings := rfl
@[simp] theorem State.emit_mgmt (e : Emission) : (s.emit e).mgmt = s.mgmt := rfl
@[simp] theorem State.emit_coll (e : Emission) : (s.emit e).coll = s.coll := rfl
@[simp] theorem State.emit_rcd (e : Emission) : (s.emit e).rcd = s.rcd := rfl
@[simp] theorem State.emit_east (e : Emission) : (s.emit e).east = s.east := rfl
@[simp] theorem State.emit_west (e : Emission) : (s.emit e).west = s.west := rfl
@[simp] theorem State.emit_sw (e : Emission) : (s.emit e).sw = s.sw := rfl
@[simp] theorem State.emit_cyc (e : Emission) : (s.emit e).cyc = s.cyc := rfl
@[simp] theorem State.emit_bridge (e : Emission) : (s.emit e).bridge = s.bridge := rfl
@[simp] theorem State.emit_host (e : Emission) : (s.emit e).host = s.host := rfl
@[simp] theorem State.emit_rs (e : Emission) : (s.emit e).rs = s.rs := rfl
@[simp] theorem State.emit_dx (e : Emission) : (s.emit e).dx = s.dx := rfl
@[simp] theorem State.emit_tu (e : Emission) : (s.emit e).tu = s.tu := rfl
@[simp] theorem State.emit_dio (e : Emission) : (s.emit e).dio = s.dio := rfl
@[simp] theorem State.emit_wu (e : Emission) : (s.emit e).wu = s.wu := rfl
@[simp] theorem State.emit_wag (e : Emission) : (s.emit e).wag = s.wag := rfl
@[simp] theorem State.emit_ax (e : Emission) : (s.emit e).ax = s.ax := rfl
@[simp] theorem State.emit_can (e : Emission) : (s.emit e).can = s.can := rfl
@[simp] theorem State.emit_ser (e : Emission) : (s.emit e).ser = s.ser := rfl
@[simp] theorem State.emit_sdci (e : Emission) : (s.emit e).sdci = s.sdci := rfl
@[simp] theorem State.emit_hm (e : Emission) : (s.emit e).hm = s.hm := rfl
@[simp] theorem State.emit_pw (e : Emission) : (s.emit e).pw = s.pw := rfl
@[simp] theorem State.emit_up (e : Emission) : (s.emit e).up = s.up := rfl
@[simp] theorem State.emit_jtag (e : Emission) : (s.emit e).jtag = s.jtag := rfl

@[simp] theorem State.disarm_pending (a : Alarm) : (s.disarm a).pending = s.pending := rfl
@[simp] theorem State.disarm_out (a : Alarm) : (s.disarm a).out = s.out := rfl
@[simp] theorem State.disarm_freeCount (a : Alarm) : (s.disarm a).freeCount = s.freeCount := rfl
@[simp] theorem State.disarm_uptime (a : Alarm) : (s.disarm a).uptime = s.uptime := rfl
@[simp] theorem State.disarm_ringTime (a : Alarm) : (s.disarm a).ringTime = s.ringTime := rfl
@[simp] theorem State.disarm_ident (a : Alarm) : (s.disarm a).ident = s.ident := rfl
@[simp] theorem State.disarm_objs (a : Alarm) : (s.disarm a).objs = s.objs := rfl
@[simp] theorem State.disarm_groups (a : Alarm) : (s.disarm a).groups = s.groups := rfl
@[simp] theorem State.disarm_sessions (a : Alarm) : (s.disarm a).sessions = s.sessions := rfl
@[simp] theorem State.disarm_settings (a : Alarm) : (s.disarm a).settings = s.settings := rfl
@[simp] theorem State.disarm_mgmt (a : Alarm) : (s.disarm a).mgmt = s.mgmt := rfl
@[simp] theorem State.disarm_coll (a : Alarm) : (s.disarm a).coll = s.coll := rfl
@[simp] theorem State.disarm_rcd (a : Alarm) : (s.disarm a).rcd = s.rcd := rfl
@[simp] theorem State.disarm_east (a : Alarm) : (s.disarm a).east = s.east := rfl
@[simp] theorem State.disarm_west (a : Alarm) : (s.disarm a).west = s.west := rfl
@[simp] theorem State.disarm_sw (a : Alarm) : (s.disarm a).sw = s.sw := rfl
@[simp] theorem State.disarm_cyc (a : Alarm) : (s.disarm a).cyc = s.cyc := rfl
@[simp] theorem State.disarm_bridge (a : Alarm) : (s.disarm a).bridge = s.bridge := rfl
@[simp] theorem State.disarm_host (a : Alarm) : (s.disarm a).host = s.host := rfl
@[simp] theorem State.disarm_rs (a : Alarm) : (s.disarm a).rs = s.rs := rfl
@[simp] theorem State.disarm_dx (a : Alarm) : (s.disarm a).dx = s.dx := rfl
@[simp] theorem State.disarm_tu (a : Alarm) : (s.disarm a).tu = s.tu := rfl
@[simp] theorem State.disarm_dio (a : Alarm) : (s.disarm a).dio = s.dio := rfl
@[simp] theorem State.disarm_wu (a : Alarm) : (s.disarm a).wu = s.wu := rfl
@[simp] theorem State.disarm_wag (a : Alarm) : (s.disarm a).wag = s.wag := rfl
@[simp] theorem State.disarm_ax (a : Alarm) : (s.disarm a).ax = s.ax := rfl
@[simp] theorem State.disarm_can (a : Alarm) : (s.disarm a).can = s.can := rfl
@[simp] theorem State.disarm_ser (a : Alarm) : (s.disarm a).ser = s.ser := rfl
@[simp] theorem State.disarm_sdci (a : Alarm) : (s.disarm a).sdci = s.sdci := rfl
@[simp] theorem State.disarm_hm (a : Alarm) : (s.disarm a).hm = s.hm := rfl
@[simp] theorem State.disarm_pw (a : Alarm) : (s.disarm a).pw = s.pw := rfl
@[simp] theorem State.disarm_up (a : Alarm) : (s.disarm a).up = s.up := rfl
@[simp] theorem State.disarm_jtag (a : Alarm) : (s.disarm a).jtag = s.jtag := rfl

@[simp] theorem State.arm_pending (a : Alarm) (d : Nat) : (s.arm a d).pending = s.pending := rfl
@[simp] theorem State.arm_out (a : Alarm) (d : Nat) : (s.arm a d).out = s.out := rfl
@[simp] theorem State.arm_freeCount (a : Alarm) (d : Nat) : (s.arm a d).freeCount = s.freeCount := rfl
@[simp] theorem State.arm_uptime (a : Alarm) (d : Nat) : (s.arm a d).uptime = s.uptime := rfl
@[simp] theorem State.arm_ringTime (a : Alarm) (d : Nat) : (s.arm a d).ringTime = s.ringTime := rfl
@[simp] theorem State.arm_ident (a : Alarm) (d : Nat) : (s.arm a d).ident = s.ident := rfl
@[simp] theorem State.arm_objs (a : Alarm) (d : Nat) : (s.arm a d).objs = s.objs := rfl
@[simp] theorem State.arm_groups (a : Alarm) (d : Nat) : (s.arm a d).groups = s.groups := rfl
@[simp] theorem State.arm_sessions (a : Alarm) (d : Nat) : (s.arm a d).sessions = s.sessions := rfl
@[simp] theorem State.arm_settings (a : Alarm) (d : Nat) : (s.arm a d).settings = s.settings := rfl
@[simp] theorem State.arm_mgmt (a : Alarm) (d : Nat) : (s.arm a d).mgmt = s.mgmt := rfl
@[simp] theorem State.arm_coll (a : Alarm) (d : Nat) : (s.arm a d).coll = s.coll := rfl
@[simp] theorem State.arm_rcd (a : Alarm) (d : Nat) : (s.arm a d).rcd = s.rcd := rfl
@[simp] theorem State.arm_east (a : Alarm) (d : Nat) : (s.arm a d).east = s.east := rfl
@[simp] theorem State.arm_west (a : Alarm) (d : Nat) : (s.arm a d).west = s.west := rfl
@[simp] theorem State.arm_sw (a : Alarm) (d : Nat) : (s.arm a d).sw = s.sw := rfl
@[simp] theorem State.arm_cyc (a : Alarm) (d : Nat) : (s.arm a d).cyc = s.cyc := rfl
@[simp] theorem State.arm_bridge (a : Alarm) (d : Nat) : (s.arm a d).bridge = s.bridge := rfl
@[simp] theorem State.arm_host (a : Alarm) (d : Nat) : (s.arm a d).host = s.host := rfl
@[simp] theorem State.arm_rs (a : Alarm) (d : Nat) : (s.arm a d).rs = s.rs := rfl
@[simp] theorem State.arm_dx (a : Alarm) (d : Nat) : (s.arm a d).dx = s.dx := rfl
@[simp] theorem State.arm_tu (a : Alarm) (d : Nat) : (s.arm a d).tu = s.tu := rfl
@[simp] theorem State.arm_dio (a : Alarm) (d : Nat) : (s.arm a d).dio = s.dio := rfl
@[simp] theorem State.arm_wu (a : Alarm) (d : Nat) : (s.arm a d).wu = s.wu := rfl
@[simp] theorem State.arm_wag (a : Alarm) (d : Nat) : (s.arm a d).wag = s.wag := rfl
@[simp] theorem State.arm_ax (a : Alarm) (d : Nat) : (s.arm a d).ax = s.ax := rfl
@[simp] theorem State.arm_can (a : Alarm) (d : Nat) : (s.arm a d).can = s.can := rfl
@[simp] theorem State.arm_ser (a : Alarm) (d : Nat) : (s.arm a d).ser = s.ser := rfl
@[simp] theorem State.arm_sdci (a : Alarm) (d : Nat) : (s.arm a d).sdci = s.sdci := rfl
@[simp] theorem State.arm_hm (a : Alarm) (d : Nat) : (s.arm a d).hm = s.hm := rfl
@[simp] theorem State.arm_pw (a : Alarm) (d : Nat) : (s.arm a d).pw = s.pw := rfl
@[simp] theorem State.arm_up (a : Alarm) (d : Nat) : (s.arm a d).up = s.up := rfl
@[simp] theorem State.arm_jtag (a : Alarm) (d : Nat) : (s.arm a d).jtag = s.jtag := rfl

@[simp] theorem State.armRing_pending (a : Alarm) (d : Nat) : (s.armRing a d).pending = s.pending := rfl
@[simp] theorem State.armRing_out (a : Alarm) (d : Nat) : (s.armRing a d).out = s.out := rfl
@[simp] theorem State.armRing_freeCount (a : Alarm) (d : Nat) : (s.armRing a d).freeCount = s.freeCount := rfl
@[simp] theorem State.armRing_uptime (a : Alarm) (d : Nat) : (s.armRing a d).uptime = s.uptime := rfl
@[simp] theorem State.armRing_ringTime (a : Alarm) (d : Nat) : (s.armRing a d).ringTime = s.ringTime := rfl
@[simp] theorem State.armRing_ident (a : Alarm) (d : Nat) : (s.armRing a d).ident = s.ident := rfl
@[simp] theorem State.armRing_objs (a : Alarm) (d : Nat) : (s.armRing a d).objs = s.objs := rfl
@[simp] theorem State.armRing_groups (a : Alarm) (d : Nat) : (s.armRing a d).groups = s.groups := rfl
@[simp] theorem State.armRing_sessions (a : Alarm) (d : Nat) : (s.armRing a d).sessions = s.sessions := rfl
@[simp] theorem State.armRing_settings (a : Alarm) (d : Nat) : (s.armRing a d).settings = s.settings := rfl
@[simp] theorem State.armRing_mgmt (a : Alarm) (d : Nat) : (s.armRing a d).mgmt = s.mgmt := rfl
@[simp] theorem State.armRing_coll (a : Alarm) (d : Nat) : (s.armRing a d).coll = s.coll := rfl
@[simp] theorem State.armRing_rcd (a : Alarm) (d : Nat) : (s.armRing a d).rcd = s.rcd := rfl
@[simp] theorem State.armRing_east (a : Alarm) (d : Nat) : (s.armRing a d).east = s.east := rfl
@[simp] theorem State.armRing_west (a : Alarm) (d : Nat) : (s.armRing a d).west = s.west := rfl
@[simp] theorem State.armRing_sw (a : Alarm) (d : Nat) : (s.armRing a d).sw = s.sw := rfl
@[simp] theorem State.armRing_cyc (a : Alarm) (d : Nat) : (s.armRing a d).cyc = s.cyc := rfl
@[simp] theorem State.armRing_bridge (a : Alarm) (d : Nat) : (s.armRing a d).bridge = s.bridge := rfl
@[simp] theorem State.armRing_host (a : Alarm) (d : Nat) : (s.armRing a d).host = s.host := rfl
@[simp] theorem State.armRing_rs (a : Alarm) (d : Nat) : (s.armRing a d).rs = s.rs := rfl
@[simp] theorem State.armRing_dx (a : Alarm) (d : Nat) : (s.armRing a d).dx = s.dx := rfl
@[simp] theorem State.armRing_tu (a : Alarm) (d : Nat) : (s.armRing a d).tu = s.tu := rfl
@[simp] theorem State.armRing_dio (a : Alarm) (d : Nat) : (s.armRing a d).dio = s.dio := rfl
@[simp] theorem State.armRing_wu (a : Alarm) (d : Nat) : (s.armRing a d).wu = s.wu := rfl
@[simp] theorem State.armRing_wag (a : Alarm) (d : Nat) : (s.armRing a d).wag = s.wag := rfl
@[simp] theorem State.armRing_ax (a : Alarm) (d : Nat) : (s.armRing a d).ax = s.ax := rfl
@[simp] theorem State.armRing_can (a : Alarm) (d : Nat) : (s.armRing a d).can = s.can := rfl
@[simp] theorem State.armRing_ser (a : Alarm) (d : Nat) : (s.armRing a d).ser = s.ser := rfl
@[simp] theorem State.armRing_sdci (a : Alarm) (d : Nat) : (s.armRing a d).sdci = s.sdci := rfl
@[simp] theorem State.armRing_hm (a : Alarm) (d : Nat) : (s.armRing a d).hm = s.hm := rfl
@[simp] theorem State.armRing_pw (a : Alarm) (d : Nat) : (s.armRing a d).pw = s.pw := rfl
@[simp] theorem State.armRing_up (a : Alarm) (d : Nat) : (s.armRing a d).up = s.up := rfl
@[simp] theorem State.armRing_jtag (a : Alarm) (d : Nat) : (s.armRing a d).jtag = s.jtag := rfl

@[simp] theorem State.setEgress_pending (o : Output) (e : Egress) : (s.setEgress o e).pending = s.pending := rfl
@[simp] theorem State.setEgress_out (o : Output) (e : Egress) : (s.setEgress o e).out = s.out := rfl
@[simp] theorem State.setEgress_freeCount (o : Output) (e : Egress) : (s.setEgress o e).freeCount = s.freeCount := rfl
@[simp] theorem State.setEgress_uptime (o : Output) (e : Egress) : (s.setEgress o e).uptime = s.uptime := rfl
@[simp] theorem State.setEgress_ringTime (o : Output) (e : Egress) : (s.setEgress o e).ringTime = s.ringTime := rfl
@[simp] theorem State.setEgress_alarms (o : Output) (e : Egress) : (s.setEgress o e).alarms = s.alarms := rfl
@[simp] theorem State.setEgress_ident (o : Output) (e : Egress) : (s.setEgress o e).ident = s.ident := rfl
@[simp] theorem State.setEgress_objs (o : Output) (e : Egress) : (s.setEgress o e).objs = s.objs := rfl
@[simp] theorem State.setEgress_groups (o : Output) (e : Egress) : (s.setEgress o e).groups = s.groups := rfl
@[simp] theorem State.setEgress_sessions (o : Output) (e : Egress) : (s.setEgress o e).sessions = s.sessions := rfl
@[simp] theorem State.setEgress_settings (o : Output) (e : Egress) : (s.setEgress o e).settings = s.settings := rfl
@[simp] theorem State.setEgress_mgmt (o : Output) (e : Egress) : (s.setEgress o e).mgmt = s.mgmt := rfl
@[simp] theorem State.setEgress_coll (o : Output) (e : Egress) : (s.setEgress o e).coll = s.coll := rfl
@[simp] theorem State.setEgress_rcd (o : Output) (e : Egress) : (s.setEgress o e).rcd = s.rcd := rfl
@[simp] theorem State.setEgress_east (o : Output) (e : Egress) : (s.setEgress o e).east = s.east := rfl
@[simp] theorem State.setEgress_west (o : Output) (e : Egress) : (s.setEgress o e).west = s.west := rfl
@[simp] theorem State.setEgress_cyc (o : Output) (e : Egress) : (s.setEgress o e).cyc = s.cyc := rfl
@[simp] theorem State.setEgress_bridge (o : Output) (e : Egress) : (s.setEgress o e).bridge = s.bridge := rfl
@[simp] theorem State.setEgress_host (o : Output) (e : Egress) : (s.setEgress o e).host = s.host := rfl
@[simp] theorem State.setEgress_rs (o : Output) (e : Egress) : (s.setEgress o e).rs = s.rs := rfl
@[simp] theorem State.setEgress_dx (o : Output) (e : Egress) : (s.setEgress o e).dx = s.dx := rfl
@[simp] theorem State.setEgress_tu (o : Output) (e : Egress) : (s.setEgress o e).tu = s.tu := rfl
@[simp] theorem State.setEgress_dio (o : Output) (e : Egress) : (s.setEgress o e).dio = s.dio := rfl
@[simp] theorem State.setEgress_wu (o : Output) (e : Egress) : (s.setEgress o e).wu = s.wu := rfl
@[simp] theorem State.setEgress_wag (o : Output) (e : Egress) : (s.setEgress o e).wag = s.wag := rfl
@[simp] theorem State.setEgress_ax (o : Output) (e : Egress) : (s.setEgress o e).ax = s.ax := rfl
@[simp] theorem State.setEgress_can (o : Output) (e : Egress) : (s.setEgress o e).can = s.can := rfl
@[simp] theorem State.setEgress_ser (o : Output) (e : Egress) : (s.setEgress o e).ser = s.ser := rfl
@[simp] theorem State.setEgress_sdci (o : Output) (e : Egress) : (s.setEgress o e).sdci = s.sdci := rfl
@[simp] theorem State.setEgress_hm (o : Output) (e : Egress) : (s.setEgress o e).hm = s.hm := rfl
@[simp] theorem State.setEgress_pw (o : Output) (e : Egress) : (s.setEgress o e).pw = s.pw := rfl
@[simp] theorem State.setEgress_up (o : Output) (e : Egress) : (s.setEgress o e).up = s.up := rfl
@[simp] theorem State.setEgress_jtag (o : Output) (e : Egress) : (s.setEgress o e).jtag = s.jtag := rfl

@[simp] theorem State.setPortVal_pending (p : RingPort) (j v : Nat) : (s.setPortVal p j v).pending = s.pending := rfl
@[simp] theorem State.setPortVal_out (p : RingPort) (j v : Nat) : (s.setPortVal p j v).out = s.out := rfl
@[simp] theorem State.setPortVal_freeCount (p : RingPort) (j v : Nat) : (s.setPortVal p j v).freeCount = s.freeCount := rfl
@[simp] theorem State.setPortVal_uptime (p : RingPort) (j v : Nat) : (s.setPortVal p j v).uptime = s.uptime := rfl
@[simp] theorem State.setPortVal_ringTime (p : RingPort) (j v : Nat) : (s.setPortVal p j v).ringTime = s.ringTime := rfl
@[simp] theorem State.setPortVal_alarms (p : RingPort) (j v : Nat) : (s.setPortVal p j v).alarms = s.alarms := rfl
@[simp] theorem State.setPortVal_ident (p : RingPort) (j v : Nat) : (s.setPortVal p j v).ident = s.ident := rfl
@[simp] theorem State.setPortVal_groups (p : RingPort) (j v : Nat) : (s.setPortVal p j v).groups = s.groups := rfl
@[simp] theorem State.setPortVal_sessions (p : RingPort) (j v : Nat) : (s.setPortVal p j v).sessions = s.sessions := rfl
@[simp] theorem State.setPortVal_settings (p : RingPort) (j v : Nat) : (s.setPortVal p j v).settings = s.settings := rfl
@[simp] theorem State.setPortVal_mgmt (p : RingPort) (j v : Nat) : (s.setPortVal p j v).mgmt = s.mgmt := rfl
@[simp] theorem State.setPortVal_coll (p : RingPort) (j v : Nat) : (s.setPortVal p j v).coll = s.coll := rfl
@[simp] theorem State.setPortVal_rcd (p : RingPort) (j v : Nat) : (s.setPortVal p j v).rcd = s.rcd := rfl
@[simp] theorem State.setPortVal_east (p : RingPort) (j v : Nat) : (s.setPortVal p j v).east = s.east := rfl
@[simp] theorem State.setPortVal_west (p : RingPort) (j v : Nat) : (s.setPortVal p j v).west = s.west := rfl
@[simp] theorem State.setPortVal_sw (p : RingPort) (j v : Nat) : (s.setPortVal p j v).sw = s.sw := rfl
@[simp] theorem State.setPortVal_cyc (p : RingPort) (j v : Nat) : (s.setPortVal p j v).cyc = s.cyc := rfl
@[simp] theorem State.setPortVal_bridge (p : RingPort) (j v : Nat) : (s.setPortVal p j v).bridge = s.bridge := rfl
@[simp] theorem State.setPortVal_host (p : RingPort) (j v : Nat) : (s.setPortVal p j v).host = s.host := rfl
@[simp] theorem State.setPortVal_rs (p : RingPort) (j v : Nat) : (s.setPortVal p j v).rs = s.rs := rfl
@[simp] theorem State.setPortVal_dx (p : RingPort) (j v : Nat) : (s.setPortVal p j v).dx = s.dx := rfl
@[simp] theorem State.setPortVal_tu (p : RingPort) (j v : Nat) : (s.setPortVal p j v).tu = s.tu := rfl
@[simp] theorem State.setPortVal_dio (p : RingPort) (j v : Nat) : (s.setPortVal p j v).dio = s.dio := rfl
@[simp] theorem State.setPortVal_wu (p : RingPort) (j v : Nat) : (s.setPortVal p j v).wu = s.wu := rfl
@[simp] theorem State.setPortVal_wag (p : RingPort) (j v : Nat) : (s.setPortVal p j v).wag = s.wag := rfl
@[simp] theorem State.setPortVal_ax (p : RingPort) (j v : Nat) : (s.setPortVal p j v).ax = s.ax := rfl
@[simp] theorem State.setPortVal_can (p : RingPort) (j v : Nat) : (s.setPortVal p j v).can = s.can := rfl
@[simp] theorem State.setPortVal_ser (p : RingPort) (j v : Nat) : (s.setPortVal p j v).ser = s.ser := rfl
@[simp] theorem State.setPortVal_sdci (p : RingPort) (j v : Nat) : (s.setPortVal p j v).sdci = s.sdci := rfl
@[simp] theorem State.setPortVal_hm (p : RingPort) (j v : Nat) : (s.setPortVal p j v).hm = s.hm := rfl
@[simp] theorem State.setPortVal_pw (p : RingPort) (j v : Nat) : (s.setPortVal p j v).pw = s.pw := rfl
@[simp] theorem State.setPortVal_up (p : RingPort) (j v : Nat) : (s.setPortVal p j v).up = s.up := rfl
@[simp] theorem State.setPortVal_jtag (p : RingPort) (j v : Nat) : (s.setPortVal p j v).jtag = s.jtag := rfl

@[simp] theorem State.portBump_pending (p : RingPort) (j : Nat) : (s.portBump p j).pending = s.pending := rfl
@[simp] theorem State.portBump_out (p : RingPort) (j : Nat) : (s.portBump p j).out = s.out := rfl
@[simp] theorem State.portBump_freeCount (p : RingPort) (j : Nat) : (s.portBump p j).freeCount = s.freeCount := rfl
@[simp] theorem State.portBump_uptime (p : RingPort) (j : Nat) : (s.portBump p j).uptime = s.uptime := rfl
@[simp] theorem State.portBump_ringTime (p : RingPort) (j : Nat) : (s.portBump p j).ringTime = s.ringTime := rfl
@[simp] theorem State.portBump_alarms (p : RingPort) (j : Nat) : (s.portBump p j).alarms = s.alarms := rfl
@[simp] theorem State.portBump_ident (p : RingPort) (j : Nat) : (s.portBump p j).ident = s.ident := rfl
@[simp] theorem State.portBump_groups (p : RingPort) (j : Nat) : (s.portBump p j).groups = s.groups := rfl
@[simp] theorem State.portBump_sessions (p : RingPort) (j : Nat) : (s.portBump p j).sessions = s.sessions := rfl
@[simp] theorem State.portBump_settings (p : RingPort) (j : Nat) : (s.portBump p j).settings = s.settings := rfl
@[simp] theorem State.portBump_mgmt (p : RingPort) (j : Nat) : (s.portBump p j).mgmt = s.mgmt := rfl
@[simp] theorem State.portBump_coll (p : RingPort) (j : Nat) : (s.portBump p j).coll = s.coll := rfl
@[simp] theorem State.portBump_rcd (p : RingPort) (j : Nat) : (s.portBump p j).rcd = s.rcd := rfl
@[simp] theorem State.portBump_east (p : RingPort) (j : Nat) : (s.portBump p j).east = s.east := rfl
@[simp] theorem State.portBump_west (p : RingPort) (j : Nat) : (s.portBump p j).west = s.west := rfl
@[simp] theorem State.portBump_sw (p : RingPort) (j : Nat) : (s.portBump p j).sw = s.sw := rfl
@[simp] theorem State.portBump_cyc (p : RingPort) (j : Nat) : (s.portBump p j).cyc = s.cyc := rfl
@[simp] theorem State.portBump_bridge (p : RingPort) (j : Nat) : (s.portBump p j).bridge = s.bridge := rfl
@[simp] theorem State.portBump_host (p : RingPort) (j : Nat) : (s.portBump p j).host = s.host := rfl
@[simp] theorem State.portBump_rs (p : RingPort) (j : Nat) : (s.portBump p j).rs = s.rs := rfl
@[simp] theorem State.portBump_dx (p : RingPort) (j : Nat) : (s.portBump p j).dx = s.dx := rfl
@[simp] theorem State.portBump_tu (p : RingPort) (j : Nat) : (s.portBump p j).tu = s.tu := rfl
@[simp] theorem State.portBump_dio (p : RingPort) (j : Nat) : (s.portBump p j).dio = s.dio := rfl
@[simp] theorem State.portBump_wu (p : RingPort) (j : Nat) : (s.portBump p j).wu = s.wu := rfl
@[simp] theorem State.portBump_wag (p : RingPort) (j : Nat) : (s.portBump p j).wag = s.wag := rfl
@[simp] theorem State.portBump_ax (p : RingPort) (j : Nat) : (s.portBump p j).ax = s.ax := rfl
@[simp] theorem State.portBump_can (p : RingPort) (j : Nat) : (s.portBump p j).can = s.can := rfl
@[simp] theorem State.portBump_ser (p : RingPort) (j : Nat) : (s.portBump p j).ser = s.ser := rfl
@[simp] theorem State.portBump_sdci (p : RingPort) (j : Nat) : (s.portBump p j).sdci = s.sdci := rfl
@[simp] theorem State.portBump_hm (p : RingPort) (j : Nat) : (s.portBump p j).hm = s.hm := rfl
@[simp] theorem State.portBump_pw (p : RingPort) (j : Nat) : (s.portBump p j).pw = s.pw := rfl
@[simp] theorem State.portBump_up (p : RingPort) (j : Nat) : (s.portBump p j).up = s.up := rfl
@[simp] theorem State.portBump_jtag (p : RingPort) (j : Nat) : (s.portBump p j).jtag = s.jtag := rfl

@[simp] theorem State.setDelayVal_pending (p : RingPort) (j v : Nat) : (s.setDelayVal p j v).pending = s.pending := rfl
@[simp] theorem State.setDelayVal_out (p : RingPort) (j v : Nat) : (s.setDelayVal p j v).out = s.out := rfl
@[simp] theorem State.setDelayVal_freeCount (p : RingPort) (j v : Nat) : (s.setDelayVal p j v).freeCount = s.freeCount := rfl
@[simp] theorem State.setDelayVal_uptime (p : RingPort) (j v : Nat) : (s.setDelayVal p j v).uptime = s.uptime := rfl
@[simp] theorem State.setDelayVal_ringTime (p : RingPort) (j v : Nat) : (s.setDelayVal p j v).ringTime = s.ringTime := rfl
@[simp] theorem State.setDelayVal_alarms (p : RingPort) (j v : Nat) : (s.setDelayVal p j v).alarms = s.alarms := rfl
@[simp] theorem State.setDelayVal_ident (p : RingPort) (j v : Nat) : (s.setDelayVal p j v).ident = s.ident := rfl
@[simp] theorem State.setDelayVal_groups (p : RingPort) (j v : Nat) : (s.setDelayVal p j v).groups = s.groups := rfl
@[simp] theorem State.setDelayVal_sessions (p : RingPort) (j v : Nat) : (s.setDelayVal p j v).sessions = s.sessions := rfl
@[simp] theorem State.setDelayVal_settings (p : RingPort) (j v : Nat) : (s.setDelayVal p j v).settings = s.settings := rfl
@[simp] theorem State.setDelayVal_mgmt (p : RingPort) (j v : Nat) : (s.setDelayVal p j v).mgmt = s.mgmt := rfl
@[simp] theorem State.setDelayVal_coll (p : RingPort) (j v : Nat) : (s.setDelayVal p j v).coll = s.coll := rfl
@[simp] theorem State.setDelayVal_rcd (p : RingPort) (j v : Nat) : (s.setDelayVal p j v).rcd = s.rcd := rfl
@[simp] theorem State.setDelayVal_east (p : RingPort) (j v : Nat) : (s.setDelayVal p j v).east = s.east := rfl
@[simp] theorem State.setDelayVal_west (p : RingPort) (j v : Nat) : (s.setDelayVal p j v).west = s.west := rfl
@[simp] theorem State.setDelayVal_sw (p : RingPort) (j v : Nat) : (s.setDelayVal p j v).sw = s.sw := rfl
@[simp] theorem State.setDelayVal_cyc (p : RingPort) (j v : Nat) : (s.setDelayVal p j v).cyc = s.cyc := rfl
@[simp] theorem State.setDelayVal_bridge (p : RingPort) (j v : Nat) : (s.setDelayVal p j v).bridge = s.bridge := rfl
@[simp] theorem State.setDelayVal_host (p : RingPort) (j v : Nat) : (s.setDelayVal p j v).host = s.host := rfl
@[simp] theorem State.setDelayVal_rs (p : RingPort) (j v : Nat) : (s.setDelayVal p j v).rs = s.rs := rfl
@[simp] theorem State.setDelayVal_dx (p : RingPort) (j v : Nat) : (s.setDelayVal p j v).dx = s.dx := rfl
@[simp] theorem State.setDelayVal_tu (p : RingPort) (j v : Nat) : (s.setDelayVal p j v).tu = s.tu := rfl
@[simp] theorem State.setDelayVal_dio (p : RingPort) (j v : Nat) : (s.setDelayVal p j v).dio = s.dio := rfl
@[simp] theorem State.setDelayVal_wu (p : RingPort) (j v : Nat) : (s.setDelayVal p j v).wu = s.wu := rfl
@[simp] theorem State.setDelayVal_wag (p : RingPort) (j v : Nat) : (s.setDelayVal p j v).wag = s.wag := rfl
@[simp] theorem State.setDelayVal_ax (p : RingPort) (j v : Nat) : (s.setDelayVal p j v).ax = s.ax := rfl
@[simp] theorem State.setDelayVal_can (p : RingPort) (j v : Nat) : (s.setDelayVal p j v).can = s.can := rfl
@[simp] theorem State.setDelayVal_ser (p : RingPort) (j v : Nat) : (s.setDelayVal p j v).ser = s.ser := rfl
@[simp] theorem State.setDelayVal_sdci (p : RingPort) (j v : Nat) : (s.setDelayVal p j v).sdci = s.sdci := rfl
@[simp] theorem State.setDelayVal_hm (p : RingPort) (j v : Nat) : (s.setDelayVal p j v).hm = s.hm := rfl
@[simp] theorem State.setDelayVal_pw (p : RingPort) (j v : Nat) : (s.setDelayVal p j v).pw = s.pw := rfl
@[simp] theorem State.setDelayVal_up (p : RingPort) (j v : Nat) : (s.setDelayVal p j v).up = s.up := rfl
@[simp] theorem State.setDelayVal_jtag (p : RingPort) (j v : Nat) : (s.setDelayVal p j v).jtag = s.jtag := rfl

end Sys2Proof.Machine
end

