-- ==== Sys2Proof/Safety.lean ====
section
/-!
DEFINITION. What claims about the machine are stated in: that a command runs to a next state, that a step goes on, and the
canonical form of the sparse pieces of State.
-/

namespace Sys2Proof.Machine

/-- The command runs to a next state, of which `P` holds. -/
def Runs (c : Instr) (s : State) (P : State → Prop) : Prop := ∃ t, exec c s = .next t ∧ P t

/-- The step neither faults nor refuses. -/
def Goes (s : State) : Prop := ∃ t, step s = .next t

/-- The state after a number of steps, where every one of them goes on. -/
def steps : Nat → State → Option State
  | 0, s => some s
  | n + 1, s => match step s with
    | .next t => steps n t
    | _ => none

/-- What an accepted write of one object leaves: the effect of the row on the value that the bytes spell, the save it starts where the
object is persistent, and the answer OK; an answer that waits for a standby keeps what takes the write back (R37, R38, R40, R31). -/
def State.accepted (s : State) (rq : Requester) (key : Nat) (bytes : List Byte) (fx : Nat → State → State) : State :=
  (((fx (writtenValue key bytes) s).noteChange key).answerWrite rq 2 key .ok bytes).noteOld s key

/-- What a write that fails a check leaves: the checker's counts, and the answer that names the check (R38, R505). -/
def State.turnedAway (s : State) (rq : Requester) (key : Nat) (bytes : List Byte) (e : Result) : State :=
  ((s.noteRefusal rq key (writeRight key)).answerWrite rq 2 key e bytes).noteOld s key

/-- A taken frame is the ring management message `msg`, of the LEN its table gives (R146, R450, R538). -/
def isMsg (f : TakenFrame) (msg len : Nat) : Bool :=
  f.hdr.flow.toNat == 0xFFF4 && beAt f.payload 0 1 == msg && f.payload.length == len

/-- The serial number of the hub that a ring management message comes from. -/
def senderOf (f : TakenFrame) : Nat := beAt f.payload 2 8

/-- One entry of the object store is in its canonical form: cut to the object's width, and not its default. -/
def entryOk (kv : Nat × Nat) : Bool := kv.2 < 2 ^ objBits kv.1 && kv.2 != objDefault kv.1

/-- The object store is in its one canonical form: keys rising, every entry canonical. -/
def storeOk (l : List (Nat × Nat)) : Bool := rising l && l.all entryOk

/-- The object store of a state is canonical. -/
def State.storeOk (s : State) : Bool := Machine.storeOk s.objs

/-- The messages that wait for the collector are in the order of R417: by ascending SOURCE within one core tick, with ticks never
going back. -/
def queueOk : List Msg → Bool
  | [] => true
  | [_] => true
  | a :: b :: l =>
    (a.time / tickUnits < b.time / tickUnits || (a.time / tickUnits == b.time / tickUnits && a.source ≤ b.source)) &&
      queueOk (b :: l)

/-- The recorder's areas hold no more than their slots (R435). -/
def State.areasOk (s : State) : Bool := s.rcd.crystal.length ≤ 256 && s.rcd.brine.length ≤ 3840

end Sys2Proof.Machine
end

