-- ==== Sys2Proof/Laws/Store.lean ====
section
/-!
SUPPORT. The object store: reading after a write, and the canonical form that every write keeps; the alarms.
-/

namespace Sys2Proof.Machine

/-! ### Objects -/

theorem objKey_inj {i j i' j' : Nat} (hj : j < 256) (hj' : j' < 256) : objKey i j = objKey i' j' ↔ i = i' ∧ j = j' := by
  unfold objKey; omega

/-- A written object reads as the value cut to its width. -/
theorem State.val_setVal_self (s : State) (i j v : Nat) : (s.setVal i j v).val i j = v % 2 ^ objBits (objKey i j) := by
  unfold State.val State.setVal putObj
  by_cases h : v % 2 ^ objBits (objKey i j) = objDefault (objKey i j) <;> simp [h]

/-- Other objects keep their values. -/
theorem State.val_setVal_of_ne (s : State) {i j i' j' : Nat} (v : Nat) (h : objKey i' j' ≠ objKey i j) :
    (s.setVal i j v).val i' j' = s.val i' j' := by
  unfold State.val State.setVal putObj
  split
  · simp only [aget_adel_of_ne _ h]
  · simp only [aget_aput_of_ne _ _ h]

/-- A write of a value that fits. -/
theorem State.val_setVal_fits (s : State) (i j v : Nat) (h : v < 2 ^ objBits (objKey i j)) : (s.setVal i j v).val i j = v := by
  rw [State.val_setVal_self, Nat.mod_eq_of_lt h]

/-- An object reads the same in states with the same store. -/
theorem State.val_congr {s t : State} (h : s.objs = t.objs) (i j : Nat) : s.val i j = t.val i j := by
  unfold State.val; rw [h]

@[simp] theorem State.val_emit (s : State) (e : Emission) (i j : Nat) : (s.emit e).val i j = s.val i j := rfl
@[simp] theorem State.val_arm (s : State) (a : Alarm) (d i j : Nat) : (s.arm a d).val i j = s.val i j := rfl
@[simp] theorem State.val_armRing (s : State) (a : Alarm) (d i j : Nat) : (s.armRing a d).val i j = s.val i j := rfl
@[simp] theorem State.val_disarm (s : State) (a : Alarm) (i j : Nat) : (s.disarm a).val i j = s.val i j := rfl

/-- A write keeps the canonical form. -/
theorem storeOk_putObj (l : List (Nat × Nat)) (k v : Nat) (h : storeOk l = true) : storeOk (putObj l k v) = true := by
  simp only [storeOk, Bool.and_eq_true, List.all_eq_true] at h ⊢
  unfold putObj
  split
  · exact ⟨rising_adel _ _ h.1, fun p hp => h.2 p (List.mem_of_mem_filter hp)⟩
  · rename_i hd
    refine ⟨rising_aput _ _ _ h.1, fun p hp => ?_⟩
    rcases mem_aput hp with rfl | hp
    · have hlt : v % 2 ^ objBits k < 2 ^ objBits k := Nat.mod_lt _ (Nat.two_pow_pos _)
      simp [entryOk, hd, hlt]
    · exact h.2 p hp

theorem State.storeOk_setVal (s : State) (i j v : Nat) (h : s.storeOk = true) : (s.setVal i j v).storeOk = true :=
  storeOk_putObj _ _ _ h

/-- Taking entries out keeps the canonical form. -/
theorem rising_filter {α : Type} (l : List (Nat × α)) (p : Nat × α → Bool) (h : rising l = true) : rising (l.filter p) = true := by
  induction l with
  | nil => rfl
  | cons a l ih =>
    rw [rising_cons] at h
    by_cases ha : p a
    · rw [List.filter_cons_of_pos ha, rising_cons]
      exact ⟨fun b hb => h.1 b (List.mem_of_mem_filter hb), ih h.2⟩
    · rw [List.filter_cons_of_neg ha]; exact ih h.2

theorem storeOk_filter (l : List (Nat × Nat)) (p : Nat × Nat → Bool) (h : storeOk l = true) : storeOk (l.filter p) = true := by
  simp only [storeOk, Bool.and_eq_true, List.all_eq_true] at h ⊢
  exact ⟨rising_filter _ _ h.1, fun x hx => h.2 x (List.mem_of_mem_filter hx)⟩

/-- The store of the reset state is canonical. -/
theorem State.storeOk_reset : State.reset.storeOk = true := rfl

/-! ### Alarms -/

theorem State.deadline_arm_self (s : State) (a : Alarm) (d : Nat) : (s.arm a d).deadline a = some ⟨a, false, s.uptime + d⟩ := by
  simp [State.arm, State.deadline]

theorem State.deadline_armRing_self (s : State) (a : Alarm) (t : Nat) : (s.armRing a t).deadline a = some ⟨a, true, t⟩ := by
  simp [State.armRing, State.deadline]

theorem State.deadline_disarm_self (s : State) (a : Alarm) : (s.disarm a).deadline a = none := by
  simp [State.disarm, State.deadline, List.find?_filter]

theorem State.deadline_disarm_of_ne (s : State) {a b : Alarm} (h : b ≠ a) : (s.disarm a).deadline b = s.deadline b := by
  unfold State.disarm State.deadline
  induction s.alarms with
  | nil => rfl
  | cons d l ih =>
    by_cases hd : d.alarm = a
    · have hb : (d.alarm == b) = false := by simp [hd, h.symm]
      simp only [List.filter_cons, hd, bne_self_eq_false, Bool.false_eq_true, if_false, List.find?_cons] at ih ⊢
      have ha : (a == b) = false := by simp [h.symm]
      simp [ha, ih]
    · by_cases hb : d.alarm = b
      · simp [hb, h]
      · simp [hd, hb, ih]

theorem State.deadline_arm_of_ne (s : State) {a b : Alarm} (d : Nat) (h : b ≠ a) : (s.arm a d).deadline b = s.deadline b := by
  rw [← State.deadline_disarm_of_ne s h]
  simp [State.arm, State.deadline, h.symm]

/-- A time-driven event that is due. -/
theorem State.onDue_of_due (s : State) (a : Alarm) (f : State → State) (h : s.due a = true) : s.onDue a f = f (s.disarm a) := by
  simp [State.onDue, h]

/-- A time-driven event that is not due is none. -/
theorem State.onDue_of_not_due (s : State) (a : Alarm) (f : State → State) (h : s.due a = false) : s.onDue a f = s := by
  simp [State.onDue, h]

end Sys2Proof.Machine
end

