-- ==== Sys2Proof/Laws/Write.lean ====
section
/-!
SUPPORT. What a write request to one object can do: it is turned away, it stages a value, or it has its effect (R37, R38, R45).
-/

namespace Sys2Proof.Machine

/-- A write that fails a check changes nothing but the checker's counts (R38). -/
theorem State.objectWrite_turnedAway (s : State) (rq : Requester) (key : Nat) (bytes : List Byte) (fx : Nat → State → State)
    (h : s.checkWrite rq key bytes ≠ .ok) :
    s.objectWrite rq key bytes fx = s.turnedAway rq key bytes (s.checkWrite rq key bytes) := by
  unfold State.objectWrite State.writeCore State.turnedAway
  cases hc : s.checkWrite rq key bytes <;> simp_all

/-- An accepted write of an object that is no member of a commit group has its effect (R37). -/
theorem State.objectWrite_accepted (s : State) (rq : Requester) (key : Nat) (bytes : List Byte) (fx : Nat → State → State)
    (h : s.checkWrite rq key bytes = .ok) (hb : s.bench = false)
    (hg : groupOf (key / 256) = none ∨ ∀ r, objRow? (key / 256) (key % 256) = some r → (r.acc == .rws) = false) :
    s.objectWrite rq key bytes fx = s.accepted rq key bytes fx := by
  unfold State.objectWrite State.writeCore State.accepted
  rw [h]
  simp only [hb, Bool.false_and, Bool.false_eq_true, if_false]
  rcases hg with hg | hg
  · rw [hg]; cases objRow? (key / 256) (key % 256) <;> rfl
  · cases hr : objRow? (key / 256) (key % 256) with
    | none => rfl
    | some r => cases groupOf (key / 256) <;> simp [hg r hr]

/-- An accepted write of a member of a commit group is staged, and claims the group (R45). -/
theorem State.objectWrite_staged (s : State) (rq : Requester) (key : Nat) (bytes : List Byte) (fx : Nat → State → State) (g : Nat)
    (r : ObjRow) (h : s.checkWrite rq key bytes = .ok) (hg : groupOf (key / 256) = some g)
    (hr : objRow? (key / 256) (key % 256) = some r) (ha : (r.acc == .rws) = true) :
    s.objectWrite rq key bytes fx =
      ((s.stage rq g key (writtenValue key bytes)).answerWrite rq 2 key .ok bytes).noteOld s key := by
  unfold State.objectWrite State.writeCore
  rw [h]
  simp [hg, hr, ha]

end Sys2Proof.Machine
end

