-- ==== Sys2Proof/Certificates/Slice0/Obligations.lean ====
section
/-!
DEFINITION. The statements about the model. `Runs c s P`: the command c runs from s to a next state of which P holds. Unless a
statement says otherwise, an equation `exec c s = .next t` gives the whole next state, so that everything t does not name is as in s.
-/

open Sys2Proof Sys2Proof.Machine

/-- Start-up (R443 to R446). That PHASE reads 2 after POWER_ON and RST_N is the model's choice (log entry 63). -/
def Obligations.StartUpSteps : Prop :=
  (∀ s : State, Runs .powerOn s fun t =>
    t.val 0x2420 1 = 2 ∧ t.val 0x2420 2 = 1 ∧ t.val 0x2420 3 = (s.val 0x2420 3 + 1) % 2 ^ 32 ∧ t.rcd.starting = true ∧
      t.flag 0x6010 4 = true ∧ t.flag 0x6000 4 = true ∧ t.out.head? = some (.pad 68 false) ∧ t.uptime = 0 ∧ t.ringTime = 0 ∧
      t.node = 0 ∧ t.sw = {} ∧ t.dio = {} ∧ t.coll.queue = [] ∧ t.settings.copyA = s.settings.copyA ∧
      t.settings.copyB = s.settings.copyB ∧ t.rcd.crystal = s.rcd.norCrystal ∧ t.rs.stored = s.rs.stored ∧
      t.pending = s.pending ∧ t.ident = s.ident) ∧
  (∀ s : State, Runs .rstN s fun t =>
    t.val 0x2420 1 = 2 ∧ t.val 0x2420 2 = 2 ∧ t.val 0x2420 3 = (s.val 0x2420 3 + 1) % 2 ^ 32 ∧ t.rcd.starting = true ∧
      t.flag 0x6010 4 = true ∧ t.out.head? = some (.pad 68 false) ∧ t.uptime = 0 ∧ t.sw = {} ∧ t.dio = {} ∧
      t.settings.copyA = s.settings.copyA ∧ t.settings.copyB = s.settings.copyB ∧ t.pending = s.pending ∧ t.ident = s.ident) ∧
  (∀ (failed : BitVec 5) (s : State), s.selfTesting = true → s.bench = false →
    Runs (.selfTestDone failed) s fun t =>
      t.val 0x2420 4 = failed.toNat ∧ t.val 0x2420 1 = 3 ∧
        t.val 0x2420 5 = (if failed = 0 then s.val 0x2420 5 else 6) ∧
        t.mgmt.restarting = (s.mgmt.restarting || failed.getLsbD 4) ∧ t.rcd = s.rcd ∧ t.east = s.east ∧ t.west = s.west) ∧
  (∀ (failed : BitVec 24) (s : State), s.val 0x2420 1 = 3 → s.bench = false → s.rcd.starting = false → s.rs.map.version = 0 →
    s.coll.safeN = true →
    exec (.settingsLoadDone failed) s = .next (
      let u := (s.loadSettings).sampleModes
      let v := ((u.setVal 0x2420 1 (if u.val 0x2420 4 = 0 then 4 else 10)).testTransmitters failed).driveFaultN
      (((v.startField.startPort .east).startPort .west).awaitPartner).resume)) ∧
  (∀ (failed : BitVec 24) (s : State), s.val 0x2420 1 = 3 → s.bench = false → s.rcd.starting = true →
    exec (.settingsLoadDone failed) s = exec (.settingsLoadDone failed) s.restoreRecorder) ∧
  (∀ s : State, Runs .benchPower s fun t =>
    t.val 0x2420 5 = 7 ∧ t.flag 0x7020 1 = true ∧ t.val 0x7001 4 = 1 ∧ t.val 0x7001 1 = 0 ∧ t.rcd.crystal = s.rcd.norCrystal ∧
      t.rcd.brine = s.rcd.norBrine ∧ t.coll.queue = [])

/-- Training of a ring port (R68 to R70, R78, R79). -/
def Obligations.PortTraining : Prop :=
  (∀ rq p value (s : State), s.checkWrite rq (objKey (0x2000 + RingPort.num p) 1) value = .ok → s.bench = false →
    exec (.portEnable rq p value) s = .next (s.accepted rq (objKey (0x2000 + p.num) 1) value (portEnableFx p))) ∧
  (∀ p (s : State), portEnableFx p 1 s = (s.setPortVal p 1 1).startPort p) ∧
  (∀ p (s : State), s.portIs p .detect = true → s.armed (.detect p) = true →
    exec (.partnerDetected p) s = .next (((s.disarm (.detect p)).setPortState p .orient).sendIdentity p)) ∧
  (∀ p (s : State), s.portIs p .detect = false → s.portIs p .refused = true → s.armed (.detect p) = true →
    exec (.partnerDetected p) s = .next ((s.disarm (.detect p)).sendIdentity p)) ∧
  (∀ p (s : State), s.due (.detect p) = true → s.portIs p .refused = false →
    exec (.detectTimeout p) s = .next ((s.disarm (.detect p)).arm (.trainRetry p) (secs 1))) ∧
  (∀ p (s : State), s.due (.detect p) = true → s.portIs p .refused = true → exec (.detectTimeout p) s =
    .next ((((s.disarm (.detect p)).setPortVal p 6 0).setPortState p .detect).arm (.trainRetry p) (secs 1))) ∧
  (∀ p (s : State), s.due (.trainRetry p) = true → s.portIs p .refused = false →
    exec (.trainingRetry p) s = .next ((s.disarm (.trainRetry p)).enterDetect p 0)) ∧
  (∀ p (s : State), s.due (.trainRetry p) = true → s.portIs p .refused = true →
    exec (.trainingRetry p) s = .next ((s.disarm (.trainRetry p)).arm (.detect p) (msec 20))) ∧
  (∀ p serial ring node permits (s : State), s.portIs p .orient = true → serial.toNat ≠ s.ident.serial → s.rs.stored = 0 →
    Runs (.orientIdentity p p.other serial ring node permits) s fun t =>
      t.portIs p .equalise = true ∧ t.portVal p 5 = 0 ∧ t.portVal p 6 = 0 ∧ t.portVal p 7 = serial.toNat ∧
        (t.port p).partnerRate = permits ∧ t.alarms = s.alarms ∧ t.out = s.out) ∧
  (∀ p serial ring node permits (s : State), s.portIs p .orient = true →
    Runs (.orientIdentity p p serial ring node permits) s fun t =>
      t.portIs p .refused = true ∧ t.portVal p 6 = 1 ∧ t.deadline (.trainRetry p) = some ⟨.trainRetry p, false, s.uptime + secs 1⟩) ∧
  (∀ p own partner fallback (s : State), s.portIs p .equalise = true → s.portVal p 2 = 2 → (s.port p).partnerRate = .full →
    (s.port p).cap ≠ some .fallback → s.portVal p 0xD + 12 ≤ own.v → s.portVal p 0xE + 60 ≤ own.h → s.portVal p 0xD + 12 ≤ partner.v →
    s.portVal p 0xE + 60 ≤ partner.h → exec (.equaliseDone p own partner fallback) s =
      .next ((if (s.port p).phyToo then s.phyLoaded p else s).goUp p .full)) ∧
  (∀ p own partner fallback (s : State), s.portIs p .equalise = true →
    (s.portVal p 2 ≠ 2 ∨ (s.port p).partnerRate = .fallback ∨ (s.port p).cap = some .fallback ∨ own.v < s.portVal p 0xD + 12 ∨
      own.h < s.portVal p 0xE + 60 ∨ partner.v < s.portVal p 0xD + 12 ∨ partner.h < s.portVal p 0xE + 60) →
    40 ≤ fallback.v → 150 ≤ fallback.h → exec (.equaliseDone p own partner fallback) s =
      .next ((if (s.port p).phyToo then s.phyLoaded p else s).goUp p .fallback)) ∧
  (∀ p own partner fallback (s : State), s.portIs p .equalise = true →
    (s.portVal p 2 ≠ 2 ∨ (s.port p).partnerRate = .fallback ∨ (s.port p).cap = some .fallback ∨ own.v < s.portVal p 0xD + 12 ∨
      own.h < s.portVal p 0xE + 60 ∨ partner.v < s.portVal p 0xD + 12 ∨ partner.h < s.portVal p 0xE + 60) →
    (fallback.v < 40 ∨ fallback.h < 150) → exec (.equaliseDone p own partner fallback) s =
      .next ((if (s.port p).phyToo then s.phyFailed p else s).trainFail p fallback)) ∧
  (∀ p (s : State), s.isUp p = true → exec (.linkLoss p) s =
    .next (((s.portBump p 0xD).portEvent p 1 contained (s.portVal p 7)).enterDetect p (eventCode (8 + p.num) 1))) ∧
  (∀ p (s : State), s.portIs p .fastRetrain = true →
    exec (.linkLoss p) s = .next (s.fastFail p ⟨s.portVal p 9, s.portVal p 0xA⟩)) ∧
  (∀ p (s : State), s.portIs p .orient = true ∨ s.portIs p .equalise = true →
    exec (.linkLoss p) s = .next (s.trainFail p ⟨s.portVal p 9, s.portVal p 0xA⟩)) ∧
  (∀ p f (s : State), s.isUp p = true → beAt f.payload 0 1 = 7 → f.payload.length = 4 → exec (.disable p f) s =
    .next ((s.portEvent p 2 corrected (s.portVal p 7)).enterDetect p (eventCode (8 + p.num) 2)))

/-- Margins and retrains (R71 to R76, R90, R94). -/
def Obligations.PortMarginsAndRetrains : Prop :=
  (∀ p m blocks (s : State), s.due (.marginTick p) = true → s.isUp p = true → Runs (.marginUpdate p m blocks) s fun t =>
    t.portVal p 9 = m.v % 65536 ∧ t.portVal p 0xA = m.h % 65536 ∧ t.isUp p = true ∧
      t.val (0x2010 + p.num) 0xC = (s.val (0x2010 + p.num) 0xC + blocks.val) % 2 ^ 32 ∧ t.deadline (.marginTick p) = some ⟨.marginTick p, false, s.uptime + msec 100⟩) ∧
  (∀ p f (s : State), s.isUp p = true → beAt f.payload 0 1 = 4 → f.payload.length = 8 → exec (.margin p f) s =
    .next ((s.setPortVal p 0xB (beAt f.payload 2 2)).setPortVal p 0xC (beAt f.payload 4 2))) ∧
  (∀ p (s : State), s.due (.fallbackHold p) = true → s.isUp p = true → (s.port p).rate = .full → exec (.fallbackHoldExpiry p) s =
    .next ((s.disarm (.fallbackHold p)).plannedRetrain p ⟨.fallback, false, 0⟩)) ∧
  (∀ p f (s : State), s.isUp p = true → beAt f.payload 0 1 = 5 → f.payload.length = 8 → (s.port p).requested = none →
    (beAt f.payload 4 1 = 0 ∨ 4 ≤ beAt f.payload 4 1 ∨ s.otherPortBusy p = false) →
    exec (.retrainReq p f) s = .next (s.ackRetrain p (retrainOf f.payload))) ∧
  (∀ p f (s : State), s.isUp p = true → beAt f.payload 0 1 = 5 → f.payload.length = 8 → (s.port p).requested = none →
    1 ≤ beAt f.payload 4 1 → beAt f.payload 4 1 ≤ 3 → s.otherPortBusy p = true →
    exec (.retrainReq p f) s = .next (s.updPort p fun e => { e with asked := some (retrainOf f.payload) })) ∧
  (∀ p f r (s : State), s.isUp p = true → beAt f.payload 0 1 = 5 → f.payload.length = 8 → (s.port p).requested = some r →
    s.ident.serial ≤ s.portVal p 7 → exec (.retrainReq p f) s = .next s) ∧
  (∀ p f r (s : State), s.isUp p = true → beAt f.payload 0 1 = 5 → f.payload.length = 8 → (s.port p).requested = some r →
    s.portVal p 7 < s.ident.serial →
    exec (.retrainReq p f) s = .next (s.ackRetrain p (mergeRetrain r (retrainOf f.payload)))) ∧
  (∀ p f (s : State), s.isUp p = true → beAt f.payload 0 1 = 6 → f.payload.length = 16 → exec (.retrainAck p f) s =
    .next ((s.updPort p fun e => { e with
        requested := none, asked := none, agreed := some (retrainOf f.payload)
        phyToo := beAt f.payload 4 1 == 3 || e.requested.any (·.reason == 3) }).armRing (.retrainStart p)
      (s.nearTime (beAt f.payload 8 4) (beAt f.payload 12 4)))) ∧
  (∀ p r (s : State), s.due (.retrainStart p) = true → (s.port p).agreed = some r → r.reason = 2 → r.full = false →
    exec (.fastRetrainStart p) s = .next (((((s.disarm (.retrainStart p)).portBump p 0xE).leaveUp p .fastRetrain).updPort p
      fun e => { e with running := some r, phyToo := (s.port p).phyToo || s.up.phy.isSome }).openShadow (portShadowCodes p)
        (msec 2) 0 0)) ∧
  (∀ p r (s : State), s.due (.retrainStart p) = true → (s.port p).agreed = some r → r.reason = 2 → r.full = true →
    exec (.fastRetrainStart p) s = .next (((s.disarm (.retrainStart p)).enterDetect p 0).updPort p
      fun e => { e with cap := some r.rate, phyToo := (s.port p).phyToo || s.up.phy.isSome })) ∧
  (∀ p own partner (s : State), s.portIs p .fastRetrain = true → (s.port p).running = some ⟨.fallback, false, 0⟩ → 40 ≤ own.v → 150 ≤ own.h →
    exec (.fastRetrainDone p (some (own, partner))) s = .next (s.retrained p .fallback)) ∧
  (∀ p own partner (s : State), s.portIs p .fastRetrain = true → (s.port p).running = some ⟨.full, false, 1⟩ →
    s.portVal p 0xD + 12 ≤ own.v → s.portVal p 0xE + 60 ≤ own.h → s.portVal p 0xD + 12 ≤ partner.v →
    s.portVal p 0xE + 60 ≤ partner.h → exec (.fastRetrainDone p (some (own, partner))) s =
      .next (((s.portBump p 0x10).portEvent p 8 corrected (packArg [i32 own.v, i32 own.h])).retrained p .full)) ∧
  (∀ p r (s : State), s.portIs p .fastRetrain = true → (s.port p).running = some r → (s.port p).phyToo = false →
    exec (.fastRetrainDone p none) s = .next (s.fastFail p ⟨s.portVal p 9, s.portVal p 0xA⟩)) ∧
  (∀ rq p (s : State), s.checkWrite rq (objKey (0x2000 + RingPort.num p) 0x10) (leBytes 1 1) = .ok → s.bench = false →
    exec (.retrainFast rq p) s = .next (s.accepted rq (objKey (0x2000 + p.num) 0x10) (leBytes 1 1) (retrainFx p))) ∧
  (∀ rq p (s : State), s.checkWrite rq (objKey (0x2000 + RingPort.num p) 0x10) (leBytes 1 2) = .ok → s.bench = false →
    exec (.retrainFull rq p) s = .next (s.accepted rq (objKey (0x2000 + p.num) 0x10) (leBytes 1 2) (retrainFx p))) ∧
  (∀ p (s : State), s.isUp p = true → retrainFx p 1 s = s.plannedRetrain p (s.permitted p ⟨(s.port p).rate, false, 2⟩)) ∧
  (∀ p (s : State), s.isUp p = true → retrainFx p 2 s = s.plannedRetrain p (s.permitted p ⟨.full, true, 2⟩)) ∧
  (∀ p v (s : State), s.isUp p = false → retrainFx p v s = s) ∧
  (∀ p r (s : State), s.portVal p 2 = 2 → (s.port p).partnerRate = .full → s.permitted p r = r) ∧
  (∀ p r (s : State), s.portVal p 2 = 1 ∨ (s.port p).partnerRate = .fallback → s.permitted p r = { r with rate := .fallback }) ∧
  (∀ rq p value (s : State), s.checkWrite rq (objKey (0x2000 + RingPort.num p) 2) value = .ok → s.bench = false →
    exec (.maxRate rq p value) s = .next (s.accepted rq (objKey (0x2000 + p.num) 2) value (maxRateFx p))) ∧
  (∀ p v (s : State), s.isUp p = true → s.portVal p 2 ≠ v →
    maxRateFx p v s = (s.setPortVal p 2 v).plannedRetrain p ((s.setPortVal p 2 v).permitted p ⟨.full, false, 2⟩)) ∧
  (∀ p r l (s : State), s.due (.deferredRetrain p) = true → (s.port p).deferred = r :: l → s.isUp p = true → s.otherHopDown p = false →
    s.otherPortBusy p = false → (s.port p).agreed = none → (s.port p).running = none → r.reason = 0 →
    exec (.deferredRetrain p) s =
      .next (((s.disarm (.deferredRetrain p)).updPort p fun e => { e with deferred := l }).plannedRetrain p r)) ∧
  (∀ p r (s : State), s.otherHopDown p = false → s.otherPortBusy p = false → (s.port p).agreed = none → (s.port p).running = none →
    (s.port p).requested = none → s.plannedRetrain p r = s.requestRetrain p r) ∧
  (∀ p q r (s : State), s.otherHopDown p = false → s.otherPortBusy p = false → (s.port p).agreed = none → (s.port p).running = none →
    (s.port p).requested = some q → s.plannedRetrain p r = s.requestRetrain p (mergeRetrain q r)) ∧
  (∀ p r (s : State), s.otherHopDown p = true ∨ s.otherPortBusy p = true →
    s.plannedRetrain p r = s.updPort p fun e => { e with deferred := e.deferred ++ [r] })

/-- Neighbour and link delay (R90 to R92). -/
def Obligations.PortNeighbourAndDelay : Prop :=
  (∀ p (s : State), s.due (.neighbour p) = true → Runs (.neighbourSend p) s fun t =>
    t.deadline (.neighbour p) = some ⟨.neighbour p, false, s.uptime + secs 1⟩) ∧
  (∀ p f (s : State), s.isUp p = true → beAt f.payload 0 1 = 1 → f.payload.length = 24 → exec (.neighbour p f) s =
    .next (((s.setPortVal p 7 (beAt f.payload 2 8)).setPortVal p 8
      (2 ^ 28 * (beAt f.payload 11 1 % 16) + 2 ^ 15 * (beAt f.payload 12 2 % 8192) + beAt f.payload 10 1 % 2)).updPort p
      fun e => { e with partnerRate := LineRate.ofNum (beAt f.payload 15 1) })) ∧
  (∀ p (s : State), s.due (.delayReq p) = true → (s.port p).exchange = none →
    exec (.delayReqSend p) s = .next ((s.disarm (.delayReq p)).sendDelayReq p)) ∧
  (∀ p (s : State), (s.sendDelayReq p).port p = { s.port p with
    nextExchange := ((s.port p).nextExchange + 1) % 65536, exchange := some ((s.port p).nextExchange, none) }) ∧
  (∀ p x (s : State), s.due (.delayReq p) = true → (s.port p).exchange = some x → s.due (.delayResp p) = true →
    exec (.delayReqSend p) s = .next (((((s.disarm (.delayReq p)).disarm (.delayResp p)).updPort p
      fun e => { e with exchange := none }).rejectDelay p none).sendDelayReq p)) ∧
  (∀ p f (s : State), s.isUp p = true → beAt f.payload 0 1 = 2 → f.payload.length = 8 → exec (.delayReq p f) s =
    .next (s.sendHop p true (beBytes 2 0x0300 ++ beBytes 2 (beAt f.payload 2 2) ++ beBytes 4 (inNs f.stamp) ++
      beBytes 2 (f.stamp % 65536) ++ beBytes 6 0))) ∧
  (∀ p f n t1 (s : State), s.isUp p = true → beAt f.payload 0 1 = 3 → f.payload.length = 16 → (s.port p).exchange = some (n, some t1) →
    n = beAt f.payload 2 2 → (s.port p).delays = [] →
    exec (.delayResp p f) s = .next (((s.disarm (.delayResp p)).updPort p fun e => { e with exchange := none }).acceptDelay p
      ((((f.stamp : Int) - t1) % (2 ^ 48) - ((correctedStamp f.hdr : Int) - (65536 * beAt f.payload 4 4 + beAt f.payload 8 2 : Nat)) %
        (2 ^ 48)) % (2 ^ 48) / 2).toNat)) ∧
  (∀ p (s : State), s.due (.delayResp p) = true → exec (.delayRespTimeout p) s =
    .next (((s.disarm (.delayResp p)).updPort p fun e => { e with exchange := none }).rejectDelay p none))

/-- Receipt of frames (R80, R84 to R89, R99, R100, R105, R107, R160). -/
def Obligations.FramesReceived : Prop :=
  (∀ p raw stamp k (s : State), s.isUp p = true → (s.port p).rx = none → headerFault p (decodeHeader raw) = some k →
    exec (.ringFrameRx p raw stamp) s = .next ((s.portBump p k).updPort p fun e => { e with
      rx := some { RxFrame.start (decodeHeader raw) (decodeHeader raw) stamp (arrivalOf s.ringTime) with dropped := true } })) ∧
  (∀ p raw stamp (s : State), s.isUp p = true → (s.port p).rx = none → headerFault p (decodeHeader raw) = none →
    (decodeHeader raw).typ.toNat = typHopMgmt →
    exec (.ringFrameRx p raw stamp) s = .next (
      ((s.portBump p 1).addVal (0x2010 + p.num) 3 (36 + (decodeHeader raw).len.toNat)).updPort p fun e => { e with
        rx := some { RxFrame.start (decodeHeader raw) (decodeHeader raw) stamp (arrivalOf s.ringTime) with fixed := true } })) ∧
  (∀ p raw stamp spill (s : State), s.isUp p = true → (s.port p).rx = none → headerFault p (decodeHeader raw) = none →
    (decodeHeader raw).typ.toNat ≠ typHopMgmt →
    let h := (decodeHeader raw).hopped
    let u := s.countRx p (decodeHeader raw)
    let a := u.admitTransit (u.transitOut p h) h.cls.toNat (cellsOf h.len.toNat)
    u.takesLocal h = false → u.isSource h = false → u.endsHere h = false → h.hops ≠ 0 → u.lineUp (u.transitOut p h) = true →
    a.2 = some spill → a.1.cutThrough (Output.ofPort p) (u.transitOut p h) h = false →
    exec (.ringFrameRx p raw stamp) s = .next (a.1.keepRx p { RxFrame.start (decodeHeader raw) h stamp (arrivalOf s.ringTime) with
      transit := [u.transitOut p h], spill := spill })) ∧
  (∀ p raw stamp spill (s : State), s.isUp p = true → (s.port p).rx = none → headerFault p (decodeHeader raw) = none →
    (decodeHeader raw).typ.toNat ≠ typHopMgmt →
    let h := (decodeHeader raw).hopped
    let u := s.countRx p (decodeHeader raw)
    let o := u.transitOut p h
    let a := u.admitTransit o h.cls.toNat (cellsOf h.len.toNat)
    u.takesLocal h = false → u.isSource h = false → u.endsHere h = false → h.hops ≠ 0 → u.lineUp o = true → a.2 = some spill →
    a.1.cutThrough (Output.ofPort p) o h = true →
    exec (.ringFrameRx p raw stamp) s = .next (((a.1.updEgress o fun g => { g with busy := true }).bump 0x2120 1).keepRx p
      { RxFrame.start (decodeHeader raw) h stamp (arrivalOf s.ringTime) with
        cut := some (o, a.1.onward (some p) stamp h, s.uptime), spill := spill })) ∧
  (∀ p raw stamp (s : State), s.isUp p = true → (s.port p).rx = none → headerFault p (decodeHeader raw) = none →
    (decodeHeader raw).typ.toNat ≠ typHopMgmt →
    let h := (decodeHeader raw).hopped
    let u := s.countRx p (decodeHeader raw)
    u.takesLocal h = false → u.isSource h = false → u.endsHere h = false → h.hops = 0 →
    exec (.ringFrameRx p raw stamp) s =
      .next ((u.portBump p 9).keepRx p (RxFrame.start (decodeHeader raw) h stamp (arrivalOf s.ringTime)))) ∧
  (∀ p payload crc r (s : State), (s.port p).rx = some r → r.dropped = false → r.fixed = true → r.cut = none → r.transit = [] →
    r.local_ = none → r.hdr.typ.toNat = typHopMgmt → payload.length = r.hdr.len.toNat → frameCrc r.raw payload = BitVec.toNat crc →
    knownFixed r.hdr payload = true → exec (.endOfFrame p payload crc .good) s =
      .next ((s.updPort p fun e => { e with rx := none }).emit (.taken p ⟨r.hdr, payload, r.stamp⟩))) ∧
  (∀ p payload crc r (s : State), (s.port p).rx = some r → r.dropped = false → r.fixed = true → r.cut = none → r.transit = [] →
    r.local_ = none → r.hdr.typ.toNat = typHopMgmt → payload.length = r.hdr.len.toNat → frameCrc r.raw payload = BitVec.toNat crc →
    knownFixed r.hdr payload = false → exec (.endOfFrame p payload crc .good) s =
      .next ((s.updPort p fun e => { e with rx := none }).portBump p 6)) ∧
  (∀ p payload crc o r (s : State), (s.port p).rx = some r → r.dropped = false → r.fixed = false → r.cut = none → r.transit = [o] →
    r.local_ = none → s.node ≠ 0 → r.hdr.typ.toNat ≠ typHopMgmt → payload.length = r.hdr.len.toNat →
    frameCrc r.raw payload = BitVec.toNat crc →
    let f : QFrame := { QFrame.received r.hdr payload r.arrival (some p) r.stamp with came := some (r.raw, crc.toNat) }
    exec (.endOfFrame p payload crc .good) s =
      .next (((s.updPort p fun e => { e with rx := none }).storeAdmitted r.spill f o).sharePair f)) ∧
  (∀ f o spill (s : State), s.lineUp o = true → s.storeAdmitted spill f o = s.enqueueTransit o { f with spill := spill }) ∧
  (∀ f (s : State), s.paired = false → s.sharePair f = s) ∧
  (∀ p payload crc r (s : State), (s.port p).rx = some r → r.dropped = false → r.cut = none → frameCrc r.raw payload ≠ BitVec.toNat crc →
    exec (.endOfFrame p payload crc .good) s = .next (((s.updPort p fun e => { e with rx := none }).crcError p).dropChains r)) ∧
  (∀ p payload crc r (s : State), (s.port p).rx = some r → r.dropped = false → r.cut = none →
    exec (.endOfFrame p payload crc .poison) s =
      .next (((s.updPort p fun e => { e with rx := none }).portBump p 0xB).dropChains r)) ∧
  (∀ p (s : State), Runs (.endOfFrame p [] 0 .poison) (s.setPort p { s.port p with rx := none }) fun t =>
    t = s.setPort p { s.port p with rx := none }) ∧
  (∀ link raw payload stamp (s : State), s.dx.links[link].up = true → s.dx.mode = 3 →
    headerFault (if (decodeHeader raw).path = 0 then .west else .east) (decodeHeader raw) = none →
    s.dx.links[link].ring ≠ s.ring → (decodeHeader raw).typ.toNat ≠ typSwarm → s.isTarget (decodeHeader raw) = true →
    exec (.blFrameRx link raw payload true stamp) s = .next (s.takeFromLink none (decodeHeader raw) payload stamp)) ∧
  (∀ link raw payload stamp (s : State), s.dx.links[link].up = true → s.dx.mode = 3 →
    headerFault (if (decodeHeader raw).path = 0 then .west else .east) (decodeHeader raw) = none →
    s.dx.links[link].ring ≠ s.ring → (decodeHeader raw).typ.toNat ≠ typSwarm → s.isTarget (decodeHeader raw) = false →
    (decodeHeader raw).dRing.toNat = s.ring →
    let f : QFrame := { QFrame.received (decodeHeader raw) payload (arrivalOf s.ringTime) none stamp with
      came := some (decodeHeader raw, frameCrc (decodeHeader raw) payload) }
    exec (.blFrameRx link raw payload true stamp) s = .next (s.enterRing link f true)) ∧
  (∀ link raw payload good stamp (s : State), s.dx.links[link].up = true → s.dx.mode = 3 →
    s.dx.links[link].ring = s.ring ∨ (decodeHeader raw).typ.toNat = typSwarm →
    exec (.blFrameRx link raw payload good stamp) s = .next s) ∧
  (∀ link raw payload good stamp (s : State), s.dx.links[link].up = true → s.dx.mode = 2 →
    let f : QFrame := { QFrame.received (decodeHeader raw) payload (arrivalOf s.ringTime) none stamp with
      came := some (decodeHeader raw, frameCrc (decodeHeader raw) payload) }
    exec (.blFrameRx link raw payload good stamp) s = .next (s.pairFrame s.pairPort (decodeHeader raw) f good))

/-- Origination and egress (R105, R107, R116, R127, R129, R186, R190). -/
def Obligations.FramesSent : Prop :=
  (∀ org typ flow payload first last (s : State), s.lookup s.ring s.flowNode (Fin.val flow) = none →
    exec (.frameOriginate org typ flow payload first last) s = .next (s.bump 0x2150 0x15)) ∧
  (∀ org typ flow payload first last e (s : State), s.lookup s.ring s.flowNode (Fin.val flow) = some e →
    (s.sw.waiting.any fun w => w.org == org) = false → org ≠ .collector → s.coreIsolated = false → s.combOff = false →
    (s.flowEntry e).valid = true → (s.flowEntry e).action = actSend →
    s.gate { org := org, typ := typ, entry := e, payload := payload, first := first, last := last } = .go →
    exec (.frameOriginate org typ flow payload first last) s =
      .next (s.launchSend { org := org, typ := typ, entry := e, payload := payload, first := first, last := last })) ∧
  (∀ o c f g (s : State), s.gated o = true → s.lineUp o = true → (s.egress o).busy = false → (s.egress o).freeAt ≤ s.uptime →
    (s.noteHeads o).choose o = some (⟨c, false⟩, f, g) →
    let u := ((s.noteHeads o).setEgress o g).chargeQueue o ⟨c, false⟩ f
    exec (.egressSelect o) s =
      .next ((u.putOnLine o (u.departing f.hdr) (u.departingPayload f.hdr f.payload)
        (some (departingCrc f (u.departing f.hdr) (u.departingPayload f.hdr f.payload))) false 0).noteDrain o)) ∧
  (∀ o c f g (s : State), s.gated o = true → s.lineUp o = true → (s.egress o).busy = false → (s.egress o).freeAt ≤ s.uptime →
    (s.noteHeads o).choose o = some (⟨c, true⟩, f, g) →
    let u := ((s.noteHeads o).setEgress o g).chargeQueue o ⟨c, true⟩ f
    exec (.egressSelect o) s =
      .next ((u.putOnLine o (u.onward f.inPort f.stamp f.hdr) f.payload
        (some (departingCrc f (u.onward f.inPort f.stamp f.hdr) f.payload)) false 0).noteDrain o)) ∧
  (∀ o c f g (s : State), s.gated o = false → o ≠ .east → o ≠ .west → o ≠ .bl2 → (s.noteHeads o).choose o = some (c, f, g) →
    f.entry = none →
    exec (.localOutputDequeue o) s = .next ((((((s.noteHeads o).setEgress o g).chargeQueue o c f).emit (.handed o 0 f
      (frameTime (inNs s.ringTime) f.hdr))).freeCells f).noteDrain o)) ∧
  (∀ r x (s : State), s.due (.holdDeadline r) = true → s.reseq r = some x →
    exec (.holdDeadline r) s = .next ((s.disarm (.holdDeadline r)).expireHold r x)) ∧
  (∀ r (s : State), s.due (.resyncIdle r) = true → s.deadline (.holdDeadline r) = none → Runs (.resyncIdle r) s fun t => t.reseq r = none ∧ t.objs = s.objs) ∧
  (∀ o (c : Fin 4) f l (s : State), s.gated o = false → o ≠ .east → o ≠ .west → (s.egress o).local_[c] = f :: l → f.entry = none →
    s.val 0x2100 5 < 65536 * ((arrivalOf s.ringTime + 65536 - f.arrival) % 65536) →
    exec (.residenceDiscard o c) s = .next ((((((s.updEgress o fun g => g.take c false).bump 0x2150 9).raise 0x10 3 corrected
      (packArg [i16 0xFFFF])).freeCells f).noteDrain o)))

/-- Flow table and credits (R109, R112, R114, R121 to R124). -/
def Obligations.FlowTableAndCredit : Prop :=
  (∀ rq e w0 w1 w2 w3 (s : State), s.notMine rq = false → (s.checkAccess rq .write (0x40000000 + 32 * Fin.val e) 16).2 = .ok →
    let u := (s.checkAccess rq .write (0x40000000 + 32 * e.val) 16).1
    let r := u.flowWrite e.val (BitVec.toNat w0) (BitVec.toNat w1) (BitVec.toNat w2) (BitVec.toNat w3)
    exec (.flowTableWrite rq e w0 w1 w2 w3) s = .next (r.1.answerWindow rq (0x40000000 + 32 * e.val) r.2
      (leBytes 4 w0.toNat ++ leBytes 4 w1.toNat ++ leBytes 4 w2.toNat ++ leBytes 4 w3.toNat))) ∧
  (∀ rq e w0 w1 w2 w3 (s : State), s.notMine rq = false →
    (s.checkAccess rq .write (0x40000000 + 32 * Fin.val e) 16).2 = .accessDenied →
    exec (.flowTableWrite rq e w0 w1 w2 w3) s = .next ((s.checkAccess rq .write (0x40000000 + 32 * e.val) 16).1.answer rq
      (0x40000000 + 32 * e.val) 16 .accessDenied [])) ∧
  (∀ e w0 w1 w2 w3 (s : State), (s.flowEntry e).retiring = true →
    s.flowWrite e w0 w1 w2 w3 = (s.bump 0x2140 5, .versionRetiring)) ∧
  (∀ e w0 w1 w2 w3 (s : State), s.flowCheck e { w0 := w0, w1 := w1, w2 := w2, w3 := w3 } = .ok →
    s.flowWrite e w0 w1 w2 w3 = (s.flowApply e { w0 := w0, w1 := w1, w2 := w2, w3 := w3 }, .ok)) ∧
  (∀ e (s : State), (s.flowEntry (Fin.val e)).retiring = true → s.oldFrames e.val = 0 → exec (.retirementEnd e) s =
    .next (s.updFlow e.val fun x => { x with retiring := false })) ∧
  (∀ p f (s : State), s.hears p = true → f.hdr.typ.toNat = typCredit → beAt f.payload 0 2 = 1 → f.payload.length = 20 →
    exec (.credit p f) s = .next ((s.applyGrant f.hdr.sRing.toNat f.hdr.sNode.toNat ((f.payload.drop 4).take 16)).pump)) ∧
  (∀ ring node g (s : State), s.lookup s.ring s.flowNode (beAt g 0 2) = none → s.applyGrant ring node g = s.bump 0x2150 0x12) ∧
  (∀ e (s : State), s.due (.creditInterval (Fin.val e)) = true → exec (.creditIntervalExpiry e) s =
    .next (s.sendGrants (s.flowEntry e.val).srcRing (s.flowEntry e.val).srcNode
      (s.dueGrants (s.flowEntry e.val).srcRing (s.flowEntry e.val).srcNode))) ∧
  (∀ e (s : State), s.due (.creditRefresh (Fin.val e)) = true → exec (.creditRefresh e) s =
    .next (s.sendGrants (s.flowEntry e.val).srcRing (s.flowEntry e.val).srcNode
      (s.dueGrants (s.flowEntry e.val).srcRing (s.flowEntry e.val).srcNode))) ∧
  (∀ e (s : State), s.due (.creditStall (Fin.val e)) = true → (s.sw.waiting.any fun o => o.entry == e.val) = true →
    (s.flowEntry e.val).lossless = true →
    exec (.creditStall e) s = .next (let t := (s.disarm (.creditStall e.val)).bump 0x2150 0x11
      let u := t.raise 0x10 4 contained (packArg [i16 e.val, i16 (bitField (s.flowEntry e.val).w2 27 15)])
      u.arm (.creditStall e.val) (nsec (s.val 0x2100 7))))

/-- Of the copies of a frame one is released (R126). `k` numbers were released after it. -/
def Obligations.ReleasedOnce : Prop :=
  ∀ (r : Reseq) (k : Nat), r.next < 65536 → k < 255 → r.decide r.next = .release ∧
    ((List.range k).foldl (fun x _ => x.mark true) (r.mark true)).decide r.next = .duplicate ∧
    ∀ q < 65536, r.decide q = .release → q = r.next

/-- Hop reports and the keeper (R143, R146 to R153). That a hub with a reachable keeper starts no election is a reading (log entry
21), and no clause here rests on it. -/
def Obligations.HopsAndElections : Prop :=
  (∀ p (s : State), s.due (.hopReport p) = true → s.portVal p 1 = 1 → s.isUp p = false →
    exec (.hopReportRepeat p) s = .next ((s.disarm (.hopReport p)).sendHopReport p)) ∧
  (∀ p f (s : State), s.hears p = true → isMsg f 3 24 = true → senderOf f ≠ s.ident.serial → exec (.hopReport p f) s =
    .next (((s.bump 0x2400 8).takeReport (senderOf f) (beAt f.payload 10 2) (beAt f.payload 12 1) (beAt f.payload 13 1)
      (beAt f.payload 14 8)).watchGap (senderOf f) (beAt f.payload 10 2) (beAt f.payload 12 1) (beAt f.payload 13 1)
      (beAt f.payload 14 8))) ∧
  (∀ (s : State), (s.rs.down.any fun h => h.last + secs 3 ≤ s.uptime) = true → exec .downHopExpiry s =
    .next (State.updateRing { s with rs := { s.rs with down := s.rs.down.filter fun h => s.uptime < h.last + secs 3 } })) ∧
  (∀ p f l (s : State), s.hears p = true → isMsg f 1 16 = true → senderOf f ≠ s.ident.serial → s.isKeeper = false →
    s.rs.election = some l → beAt f.payload 11 1 = 1 →
    let u := s.learnRank (senderOf f) (beAt f.payload 10 1)
    u.reachesHub (beAt f.payload 12 2) (senderOf f) = true → exec (.elect p f) s = .next { u with rs := { u.rs with
      election := some (⟨beAt f.payload 10 1, senderOf f, beAt f.payload 12 2⟩ :: l.filter fun x => x.serial != senderOf f) } }) ∧
  (∀ p f (s : State), s.hears p = true → isMsg f 1 16 = true → senderOf f ≠ s.ident.serial → s.isKeeper = true →
    let u := s.learnRank (senderOf f) (beAt f.payload 10 1)
    outranks (beAt f.payload 10 1) (senderOf f) u.keptPriority s.ident.serial = true →
    exec (.elect p f) s = .next u.yieldKeeper) ∧
  (∀ (s : State), s.due .electRound2 = true → s.eligibleKeeper = true → s.rs.election.isSome = true →
    exec .electRound2 s = .next ((s.disarm .electRound2).sendElect 2)) ∧
  (∀ l (s : State), s.due .electDecision = true → s.rs.election = some l →
    bestBid (l.filter fun b => b.serial = s.ident.serial || s.reachesHub b.node b.serial) = none →
    exec .electionDecision s = .next (s.disarm .electDecision).noteNoKeeper) ∧
  (∀ l b (s : State), s.due .electDecision = true → s.rs.election = some l →
    bestBid (l.filter fun b => b.serial = s.ident.serial || s.reachesHub b.node b.serial) = some b → b.serial = s.ident.serial →
    exec .electionDecision s = .next ((s.disarm .electDecision).winElection
      ((l.filter fun b => b.serial = s.ident.serial || s.reachesHub b.node b.serial).filter fun x => x.serial != b.serial))) ∧
  (∀ l b (s : State), s.due .electDecision = true → s.rs.election = some l →
    bestBid (l.filter fun b => b.serial = s.ident.serial || s.reachesHub b.node b.serial) = some b → b.serial ≠ s.ident.serial →
    exec .electionDecision s = .next (s.disarm .electDecision)) ∧
  (∀ (s : State), s.due .electRestart = true → s.isKeeper = false → s.hasKeeper = false →
    exec .electionRestart s = .next (s.disarm .electRestart).startElection) ∧
  (∀ (s : State), s.due .announce = true → s.isKeeper = true → exec .keeperAnnounceTimer s = .next (s.disarm .announce).announce) ∧
  (∀ p f (s : State), s.hears p = true → isMsg f 2 32 = true → senderOf f = s.ident.serial → s.isKeeper = true →
    exec (.keeperAnnounce p f) s = .next { s with rs := { s.rs with counted := s.hops - f.hdr.hops.toNat } }) ∧
  (∀ p f (s : State), s.hears p = true → isMsg f 2 32 = true → senderOf f ≠ s.ident.serial → s.isKeeper = false → s.rs.keeperSerial = 0 →
    exec (.keeperAnnounce p f) s =
      .next ((s.learnRank (senderOf f) (beAt f.payload 23 1)).adoptKeeper (senderOf f) f.payload)) ∧
  (∀ p f (s : State), s.hears p = true → isMsg f 2 32 = true → senderOf f ≠ s.ident.serial → s.isKeeper = true →
    s.term < beAt f.payload 24 4 → exec (.keeperAnnounce p f) s =
      .next ((s.learnRank (senderOf f) (beAt f.payload 23 1)).yieldKeeper.adoptKeeper (senderOf f) f.payload)) ∧
  (∀ (s : State), s.due .lossGuard = true → s.mayKeep = true → s.rs.markAwaited = true →
    exec .keeperLossGuardExpiry s = .next (s.disarm .lossGuard).keeperTakeover) ∧
  (∀ map copies length pct (s : State), s.isBackup = true → s.val 0x2401 8 ≠ 0 →
    let u := if s.rs.map.version ≤ RingMap.version map then s.adoptMap map else s
    let v : State := { u with rs := { u.rs with copies := copies.foldl (fun acc c => aput acc c.1 c.2) u.rs.copies, unmirrored := none } }
    exec (.mirrorCopyDone map copies length pct) s =
      .next (((v.setVal 0x2200 1 length.toNat).setVal 0x2200 2 pct.toNat).setVal 0x2401 8 2)) ∧
  (∀ rq value (s : State), s.checkWrite rq (objKey 0x1001 5) value = .ok → s.bench = false →
    exec (.keeperPriority rq value) s = .next (s.accepted rq (objKey 0x1001 5) value keeperPriorityFx)) ∧
  (∀ v (s : State), s.isKeeper = false → keeperPriorityFx v s = s.setVal 0x1001 5 v)

/-- Rank is priority, then serial (R147); the winner has the highest rank (R148). -/
def Obligations.BestRankWins : Prop :=
  (∀ pa sa pb sb, sa ≠ sb → (outranks pa sa pb sb = true ↔ outranks pb sb pa sa = false)) ∧
  (∀ pa sa pb sb pc sc, outranks pa sa pb sb = true → outranks pb sb pc sc = true → outranks pa sa pc sc = true) ∧
  (∀ l b, bestBid l = some b → b ∈ l ∧ ∀ c ∈ l, outranks c.prio c.serial b.prio b.serial = false) ∧
  (∀ l, bestBid l = none → l = [])

/-- Discovery and joins (R448 to R454). That a pushed image is stored with the next save number is a reading (log entry 64). -/
def Obligations.DiscoveryAndJoining : Prop :=
  (∀ (s : State), s.due .discovery = true → s.rs.keeperSerial = 0 → s.rs.election = none →
    exec .discoveryWait s = .next (s.disarm .discovery).startElection) ∧
  (∀ (s : State), s.due .keeperQuery = true → s.isKeeper = false → s.rs.keeperSerial = 0 → exec .keeperQuerySend s =
    .next (((s.disarm .keeperQuery).sendRingMsg s.ring 8191 (beBytes 2 0x1000 ++ beBytes 8 s.ident.serial ++
      beBytes 2 s.rs.stored ++ beBytes 4 0)).arm .keeperQuery (secs 1))) ∧
  (∀ p f (s : State), s.hears p = true → isMsg f 0x10 16 = true → senderOf f ≠ s.ident.serial → s.isKeeper = true →
    exec (.keeperQuery p f) s = .next s.announce) ∧
  (∀ p f (s : State), s.hears p = true → isMsg f 0x11 48 = true → s.isKeeper = false → exec (.joinReq p f) s = .next s) ∧
  (∀ f (s : State), s.hears .east = true → isMsg f 0x11 48 = true → s.isKeeper = true → s.mgmt.restarting = false →
    senderOf f ≠ s.ident.serial → exec (.joinReq .east f) s = .next (s.decideJoin
      { serial := senderOf f, stored := beAt f.payload 10 2, position := beAt f.payload 12 2 - f.hdr.hops.toNat,
        westNode := beAt f.payload 14 2, eastNode := beAt f.payload 16 2, westSerial := beAt f.payload 18 8,
        eastSerial := beAt f.payload 26 8, mapVersion := beAt f.payload 34 4, saveSeq := beAt f.payload 38 4,
        flags := beAt f.payload 42 1, variant := beAt f.payload 43 1 })) ∧
  (∀ (s : State), s.due .joinRetry = true → s.val 0x2420 5 = 1 → exec .joinRetry s = .next (s.disarm .joinRetry).sendJoinReq) ∧
  (∀ p f (s : State), s.hears p = true → isMsg f 0x12 32 = true → beAt f.payload 10 8 = s.ident.serial → s.val 0x2420 5 = 1 →
    beAt f.payload 21 1 = 0 → (beAt f.payload 22 1).testBit 0 = true → exec (.joinGrant p f) s =
      .next (((({ s with rs := { s.rs with image := [] } }.setVal 0x1001 2 (beAt f.payload 18 2)).setVal 0x1001 1
        (beAt f.payload 20 1)).setVal 0x2420 5 2).disarm .joinRetry)) ∧
  (∀ p f (s : State), s.hears p = true → isMsg f 0x12 32 = true → beAt f.payload 10 8 = s.ident.serial → s.val 0x2420 5 = 1 →
    beAt f.payload 21 1 = 0 → (beAt f.payload 22 1).testBit 0 = false → exec (.joinGrant p f) s =
      .next (({ s with rs := { s.rs with grant := some ⟨beAt f.payload 18 2, beAt f.payload 20 1, beAt f.payload 24 4, true⟩ } }.setVal
        0x2420 5 3).disarm .joinRetry)) ∧
  (∀ p f (s : State), s.hears p = true → isMsg f 0x12 32 = true → beAt f.payload 10 8 = s.ident.serial → s.val 0x2420 5 = 1 →
    beAt f.payload 21 1 = 1 → exec (.joinGrant p f) s = .next (((s.setVal 0x1001 4 3).setVal 0x2420 5 5).disarm .joinRetry)) ∧
  (∀ set (s : State), s.val 0x2420 5 = 2 →
    let u := { s with rs := { s.rs with image := [], defaultsLoaded := false } }
    let v := ((u.storeSave (u.adoptSet set)).setVal 0x2420 0xB set.seq).raise 7 5 corrected
      (packArg [i32 set.seq])
    exec (.settingsPushDone set) s = .next (((v.loadSettings.setVal 0x1001 1 s.ring).reconfigure v).sendJoinReq))

/-- The ring map (R450, R452, R453, R456, R457). That a map with new numbers is read at once is the model's choice (log entry 27). -/
def Obligations.RingMapCommands : Prop :=
  (∀ rq value (s : State), s.checkWrite rq (objKey 0x2410 5) value = .ok → s.bench = false →
    exec (.commission rq value) s = .next (s.accepted rq (objKey 0x2410 5) value fun _ t => commissionFx t)) ∧
  (∀ rq value (s : State), s.checkObject rq (objKey 0x2410 6) .write = .ok → s.isKeeper = true → s.mapCheck value = .ok →
    exec (.mapWrite rq value) s = .next ((s.writeMap value).answerWrite rq 6 (objKey 0x2410 6) .ok [])) ∧
  (∀ rq value (s : State), s.checkObject rq (objKey 0x2410 6) .write = .ok → s.isKeeper = false →
    exec (.mapWrite rq value) s = .next (s.answerWrite rq 6 (objKey 0x2410 6) .readOnly [])) ∧
  (∀ p f (s : State), s.hears p = true → isMsg f 0x13 24 = true → senderOf f ≠ s.ident.serial → s.rs.map.version < beAt f.payload 10 4 →
    beAt f.payload 16 4 ≠ 0 → exec (.mapUpdate p f) s = .next (State.arm
      { s with rs := { s.rs with
        renumber := some (beAt f.payload 10 4, beAt f.payload 16 4)
        unmirrored := if s.isBackup then some (s.rs.unmirrored.getD s.uptime) else none } } .mapRead 0)) ∧
  (∀ p f (s : State), s.hears p = true → isMsg f 0x13 24 = true → senderOf f ≠ s.ident.serial → s.rs.map.version < beAt f.payload 10 4 →
    beAt f.payload 16 4 = 0 → exec (.mapUpdate p f) s = .next (
      let d := State.draw { s with rs := { s.rs with
        renumber := some (beAt f.payload 10 4, 0)
        unmirrored := if s.isBackup then some (s.rs.unmirrored.getD s.uptime) else none } } (secs 10 + 1)
      d.2.arm .mapRead d.1)) ∧
  (∀ map (s : State), s.due .mapRead = true → s.rs.renumber = none →
    exec (.mapReadDelay map) s =
      .next (let u := (s.disarm .mapRead).adoptMap map; { u with rs := { u.rs with unmirrored := none } })) ∧
  (∀ (s : State), s.due .mapUpdate = true → s.isKeeper = true → s.rs.map.version ≠ 0 →
    exec .mapUpdateTimer s = .next ((s.disarm .mapUpdate).sendMapUpdate 0)) ∧
  (∀ w e (s : State), s.mgmt.restarting = false → s.due .positionDrop = true → s.rs.dropping = some (w, e) → s.isKeeper = true → exec .positionDrop s =
    .next ((State.adoptMap { s.disarm .positionDrop with rs := { s.rs with dropping := none } }
      { s.rs.map with version := s.rs.map.version + 1, positions := splice s.rs.map.positions w e [] }).sendMapUpdate 0))

/-- The duplex pair (R158, R162, R168 to R170, R172, R173). The roles of two equal members are the model's choice (log entry 54),
and so is what a member takes from its partner's PAIR_STATE (log entry 55). -/
def Obligations.PairFormsAndFails : Prop :=
  (∀ k peer (s : State), s.dx.mode = 3 → peer.slot ≠ (s.ident.clusterId ^^^ (Fin.val k + 1)) → (k = 2 → s.pcieMode = false) →
    s.isolated (2 + k.val) = false → s.combOff = false →
    exec (.blLinkTraining k peer) s = .next (s.refuseLink 1 peer.serial)) ∧
  (∀ peer (s : State), s.dx.mode = 2 → peer.slot ≠ (s.ident.clusterId ^^^ 1) → s.isolated 2 = false → s.combOff = false →
    exec (.blLinkTraining 0 peer) s = .next ((s.refuseLink 1 peer.serial).refusePair 1 peer.serial)) ∧
  (∀ peer (s : State), s.dx.mode = 2 → peer.slot = (s.ident.clusterId ^^^ 1) → peer.mode = 2 → s.isolated 2 = false → s.combOff = false →
    s.ident.clusterId < 2 → peer.variant = s.ident.variant → peer.mirrorVersion = s.ident.mirrorVersion →
    exec (.blLinkTraining 0 peer) s = .next ((State.refreshCluster { s.setVal 0x8100 5 0 with
      dx := { s.dx with links := s.dx.links.set 0 { peer with up := true } } }).formPair peer)) ∧
  (∀ k (s : State), exec (.blLinkLoss k) s = .next (s.linkDown k)) ∧
  (∀ k (s : State), s.dx.links[Fin.val k].up = false → s.linkDown k = s) ∧
  (∀ (s : State), s.due .partnerAbsent = true → s.dx.links[0].up = false → s.paired = false → exec .partnerAbsentTimeout s = .next (
    let t := State.setVal { s.disarm .partnerAbsent with dx := { s.dx with alone := true } } 0x8110 0xB 6
    ((t.bump 0x8110 0xA).setRole 3).raise 0x20 6 contained (withSerial 6 s.partnerSerial))) ∧
  (∀ (s : State), s.due .heartbeatSend = true → exec .heartbeatSend s = .next (
    let t := s.disarm .heartbeatSend
    (State.sendPair { t with dx := { t.dx with heartbeatNo := (s.dx.heartbeatNo + 1) % 2 ^ 32 } }
      (beBytes 1 0x10 ++ beBytes 1 0 ++ beBytes 4 s.dx.heartbeatNo ++ beBytes 1 (s.val 0x8110 1) ++
        beBytes 1 s.pairState ++ beBytes 4 s.cycleNumber ++ beBytes 4 0)).arm .heartbeatSend (usec 1))) ∧
  (∀ b (s : State), s.dx.links[0].up = true →
    s.sendPair b = (s.pairHeader (List.length b)).2.sendOn s.pairPort .bl0 (s.pairHeader (List.length b)).1 b) ∧
  (∀ b (s : State), s.dx.links[0].up = false → s.sendPair b = s) ∧
  (∀ payload (s : State), s.dx.links[0].up = true → s.dx.mode = 2 → s.val 0x8110 1 ≠ 3 → beAt payload 0 1 = 0x10 → payload.length = 16 →
    exec (.heartbeat payload) s = .next (
      let t := (State.arm { s with dx := { s.dx with missRun := 0 } } .heartbeatMiss (nsec 1100)).followPair (beAt payload 7 1)
      if t.standby then t.noteTest 7 (!(t.dx.lastMiss.any fun m => t.uptime < m + secs 3600)) else t)) ∧
  (∀ (s : State), s.due .heartbeatMiss = true → s.dx.links[0].up = true → s.standby = true → s.pairState = 1 → s.dx.resync = false →
    s.dx.missRun = 3 → exec .heartbeatMiss s = .next (
      let t := s.disarm .heartbeatMiss
      let u := (State.bump { t with dx := { t.dx with missRun := 4 } } 0x8110 0xE).arm .heartbeatMiss (nsec 1100)
      (State.noteTest { u with dx := { u.dx with lastMiss := some s.uptime } } 7 false).takeOver 1)) ∧
  (∀ payload (s : State), s.dx.links[0].up = true → s.dx.mode = 2 → beAt payload 0 1 = 0x11 → payload.length = 8 → s.standby = true →
    s.pairState = 1 → s.dx.resync = false →
    exec (.failFrame payload) s = .next (State.takeOver { s with dx := { s.dx with failSeen := true } } 2)) ∧
  (∀ payload (s : State), s.dx.links[0].up = true → s.dx.mode = 2 → s.val 0x8110 1 ≠ 3 → beAt payload 0 1 = 0x11 → payload.length = 8 → s.standby = false →
    exec (.failFrame payload) s = .next { s with dx := { s.dx with failSeen := true } }) ∧
  (∀ p f (s : State), s.hears p = true → isMsg f 4 16 = true → f.hdr.dNode.toNat = s.node → exec (.pairProbe p f) s =
    .next (s.sendRingMsg s.ring f.hdr.sNode.toNat (beBytes 1 5 ++ beBytes 1 0 ++ beBytes 8 s.ident.serial ++
      beBytes 4 (beAt f.payload 10 4) ++ beBytes 1 (s.val 0x8110 1) ++ beBytes 1 0))) ∧
  (∀ p f (s : State), s.hears p = true → isMsg f 5 16 = true → f.hdr.dNode.toNat = s.node → s.dx.probe = some (beAt f.payload 10 4) →
    exec (.probeAnswer p f) s = .next (((State.disarm { s with dx := { s.dx with probe := none } } .probe).setPairState 4).raise
      0x20 5 corrected (packArg [i64 s.partnerSerial]))) ∧
  (∀ (s : State), s.due .probe = true → s.dx.probe.isSome = true → s.mayTakeOver = true →
    exec .probeTimeout s = .next ((s.disarm .probe).takeOver 3)) ∧
  (∀ payload (s : State), s.dx.links[0].up = true → s.dx.mode = 2 → s.val 0x8110 1 ≠ 3 → beAt payload 0 1 = 0x16 → payload.length = 4 →
    exec (.safeFrame payload) s = .next (s.enterSafe 2)) ∧
  (∀ payload (s : State), s.dx.links[0].up = true → s.dx.mode = 2 → beAt payload 0 1 = 0x16 → payload.length ≠ 4 →
    exec (.safeFrame payload) s = .next (s.portBump s.pairPort 6))

/-- Mirroring, digests, swaps (R167, R174 to R178, R241). How shared state is cut into blocks is the model's choice (log entry 53). -/
def Obligations.PairMirrorsAndSwaps : Prop :=
  (∀ payload c (s : State), s.dx.links[0].up = true → s.dx.mode = 2 → beAt payload 0 1 = 0x12 → 8 ≤ payload.length → payload.length ≤ 2048 →
    s.standby = true → mirrorOf payload = some c → exec (.mirror payload) s =
    .next (((s.applyMirror c).1.noteTest 6 true).sendPair (beBytes 1 0x13 ++ beBytes 1 0 ++ beBytes 2 (beAt payload 2 2) ++
      beBytes 1 (s.applyMirror c).2.code ++ beBytes 3 0))) ∧
  (∀ payload w (s : State), s.dx.links[0].up = true → s.dx.mode = 2 → s.val 0x8110 1 ≠ 3 → beAt payload 0 1 = 0x13 → payload.length = 8 →
    s.mirrorOut (beAt payload 2 2) = some w → exec (.mirrorAck payload) s = .next (s.mirrorEnded w)) ∧
  (∀ w (s : State), 0x10000000 ≤ MirrorWait.offset w → s.mirrorEnded w = (let t := s.disarm (.mirrorAck w.number)
    State.answerMirrored { t with dx := { t.dx with mirrorWait := t.dx.mirrorWait.filter fun x => x.number != w.number } } w)) ∧
  (∀ n w (s : State), s.due (.mirrorAck (Fin.val n)) = true → (s.disarm (.mirrorAck n.val)).mirrorOut n.val = some w →
    exec (.mirrorTimeout n) s = .next (((((s.disarm (.mirrorAck n.val)).mirrorEnded w).setPairState 2).raise 0x20 7 contained
      (packArg [i32 n.val])).startResync)) ∧
  (∀ (s : State), exec .mirrorApplyTime s = .next s.wagApplies) ∧
  (∀ payload (s : State), s.dx.links[0].up = true → s.dx.mode = 2 → beAt payload 0 1 = 0x14 → payload.length = 80 → s.standby = true →
    s.dx.digest.1 = beAt payload 2 4 → s.dx.digest.2.1 = beAt payload 6 4 → s.dx.resync = false → s.pairState ≠ 4 →
    s.badShares s.dx.digest.2.2 (digestCurrents payload) = [] →
    exec (.digest payload) s = .next (if (s.sharedChannels s.dx.digest.2.2 (digestCurrents payload)).isEmpty then s.noteTest 0 true
      else (s.noteTest 0 true).noteTest 1 true)) ∧
  (∀ payload (s : State), s.dx.links[0].up = true → s.dx.mode = 2 → beAt payload 0 1 = 0x14 → payload.length = 80 → s.standby = true →
    s.dx.digest.1 = beAt payload 2 4 → s.dx.digest.2.1 ≠ beAt payload 6 4 → s.dx.resync = false → s.pairState ≠ 4 →
    s.badShares s.dx.digest.2.2 (digestCurrents payload) = [] →
    exec (.digest payload) s = .next ((if (s.sharedChannels s.dx.digest.2.2 (digestCurrents payload)).isEmpty then s.noteTest 0 false
      else (s.noteTest 0 false).noteTest 1 true).diverge (beAt payload 2 4))) ∧
  (∀ (s : State), s.dx.resync = true → s.val 0x8110 1 = 1 → s.pairState ≠ 4 → s.dx.links[0].up = true → exec .resyncDone s =
    .next ((State.setPairState { s with dx := { s.dx with resync := false, blocks := [], blocksDue := false } } 1).pairResynced)) ∧
  (∀ (s : State), s.dx.resync = true → s.val 0x8110 1 = 2 → s.pairState ≠ 4 → s.dx.links[0].up = true → exec .resyncDone s =
    .next { s with dx := { s.dx with blocksDue := true } }) ∧
  (∀ (s : State), s.dx.blocksDue = true → s.dx.resync = true → s.standby = true → s.dx.blocks ≠ [] → s.resyncBoundary = (
      let t := s.dx.blocks.foldl State.applyBlock (s.clearShared s.dx.blocks)
      (State.setPairState { t with dx := { t.dx with resync := false, blocks := [], blocksDue := false } } 1).pairResynced)) ∧
  (∀ rq value (s : State), s.checkWrite rq (objKey 0x8110 0x10) value = .ok → s.bench = false →
    exec (.rejoin rq value) s = .next (s.accepted rq (objKey 0x8110 0x10) value fun _ t => rejoinFx t)) ∧
  (∀ (s : State), s.pairState ≠ 4 → rejoinFx s = s) ∧
  (∀ rq value (s : State), s.checkWrite rq (objKey 0x8110 4) value = .ok → s.bench = false →
    exec (.swapWrite rq value) s = .next (s.accepted rq (objKey 0x8110 4) value fun _ t => t.requestSwap)) ∧
  (∀ (s : State), s.due .autoSwap = true → exec .autoSwapInterval s = .next (s.disarm .autoSwap).requestSwap.armAutoSwap) ∧
  (∀ payload (s : State), s.dx.links[0].up = true → s.dx.mode = 2 → beAt payload 0 1 = 0x15 → payload.length = 16 → beAt payload 2 1 = 0 →
    s.standby = true → s.pairState = 1 → s.dx.resync = false →
    let t := s.nearTime (beAt payload 8 4) (beAt payload 12 4)
    exec (.swapMessage payload) s = .next ((State.armRing { s with dx := { s.dx with swapAt := some t, swapAccepted := true } }
      .swapTime t).sendSwap 1 t)) ∧
  (∀ payload (s : State), s.dx.links[0].up = true → s.dx.mode = 2 → beAt payload 0 1 = 0x15 → payload.length = 16 → beAt payload 2 1 = 1 →
    s.val 0x8110 1 = 1 →
    let t := s.nearTime (beAt payload 8 4) (beAt payload 12 4)
    s.dx.swapAt = some t →
    exec (.swapMessage payload) s = .next (State.armRing { s with dx := { s.dx with swapAccepted := true } } .swapTime t)) ∧
  (∀ (s : State), s.due .swapTime = true → s.dx.swapAccepted = false → exec .swapTime s = .next (s.disarm .swapTime).cancelSwap) ∧
  (∀ (s : State), s.due .swapTime = true → s.dx.swapAccepted = true → s.paired = true → s.standby = false → exec .swapTime s = .next (
    let t := (s.disarm .swapTime).cancelSwap
    let u := State.arm { t with dx := { t.dx with verifying := true, txOpen := 0 } } .swapVerify (nsec (s.val 0x8110 6))
    (u.setRole 2).armTestOff)) ∧
  (∀ carried (s : State), s.dx.verifying = true → s.due .swapVerify = true → s.standby = false → exec (.swapVerifyEnd none carried) s =
    .next (State.passPaths { s.disarm .swapVerify with dx := { s.dx with
      verifying := false, txOpen := 2 ^ 24 - 1 - BitVec.toNat carried, txSince := s.uptime } } carried.toNat)) ∧
  (∀ carried (s : State), s.dx.verifying = true → s.due .swapVerify = true → s.standby = true → exec (.swapVerifyEnd none carried) s =
    .next ((State.raise { s.disarm .swapVerify with dx := { s.dx with
      verifying := false, txOpen := 2 ^ 24 - 1 - BitVec.toNat carried, txSince := s.uptime } } 0x20 4 corrected
        (packArg [i64 s.partnerSerial])).pairSwapped)) ∧
  (∀ p carried (s : State), s.dx.verifying = true → s.standby = true → exec (.swapVerifyEnd (some p) carried) s =
    .next ((((((s.sendSwap 2 0).revertSwap).markPath p.val).notePath p false).raise 0x20 9 contained
      (packArg [i16 p.val, i16 (4 + p.val / 8)])).failPair)) ∧
  (∀ n (s : State), s.due .testOff = true → s.standby = true → s.nextOn 0 = some n → exec .testOff s =
    .next (State.openChannel { s.disarm .testOff with dx := { s.dx with testGuard := !s.dx.testGuard } } n)) ∧
  (∀ (s : State), s.due .testOffEnd = true → s.standby = false → exec (.testOffEnd true) s =
    .next ((State.syncDio { s.disarm .testOffEnd with dx := { s.dx with testing := 0 } }).noteChannel
      (Fin.ofNat 32 (Nat.log2 s.dx.testing)) true)) ∧
  (∀ n (s : State), s.dx.mode = 2 → (s.dio.latch &&& s.dioOutputs).testBit (Fin.val n) = false → s.dx.guardOpen.testBit n.val = false →
    exec (.stuckChannelCut n) s = .next (((State.syncDio { s with dx := { s.dx with
      guardOpen := putBit s.dx.guardOpen n.val true } }).markChannel n.val).raise 0x20 10 contained (packArg [i16 n.val, i16 0])))

/-- Order of egress and fit test (R186, R187, R194). -/
def Obligations.EgressOrder : Prop :=
  ∀ o c f g (s : State), s.choose o = some (c, f, g) →
    (s.egress o).headOf c.cls = some (c.transit, f) ∧ s.mayStart o c.cls (c.transit, f) = true ∧
    ((s.egress o).headOf 0 ≠ none → c.cls = 0) ∧
    (∀ h, (s.egress o).headOf 1 = some h → s.mayStart o 1 h = true → c.cls.val ≤ 1) ∧
    (s.gated o = true → 2 ≤ c.cls.val → s.openStart ≤ s.ringTime ∧
      s.ringTime + s.lineTime o (lineBytes f.payload.length) + s.lineTime o 64 ≤ s.nextBoundary)

/-- The cycle and the plan (R189 to R191, R196, R198, R202, R203). -/
def Obligations.CycleAndPlan : Prop :=
  (∀ (s : State), s.due .boundary = true → exec .cycleBoundary s = .next (
    let t := s.disarm .boundary
    let t2 := ((t.noteMissedMark.closeLoads.nextCycle).applyCycle t).boundarySteps
    let t3 := ((t2.resyncBoundary.setVal 0x2200 5 (time80 t2.cyc.current)).armBoundary).armOpen
    let t4 := ((t3.keeperBoundary.grantBoundary).wagApplies).wagStartup
    (((t4.startupWorkers.publishAxes).sdciBoundary).sendDigest s.cycleNumber).pump)) ∧
  (∀ (s : State), s.cyc.realign = none → s.cyc.change = none → s.nextCycle = State.setVal { s with cyc := { s.cyc with current := s.nextBoundary } } 0x2200 4
    ((s.cycleNumber + 1) % 2 ^ 32)) ∧
  (∀ (s : State), s.due .openWindow = true → exec .openWindowStart s = .next (s.disarm .openWindow)) ∧
  (∀ (s : State), s.due .openWindow = false → exec .openWindowStart s = .next s) ∧
  (∀ p f (s : State), s.hears p = true → f.hdr.typ.toNat = typCycleMark → f.payload.length = 32 → s.isKeeper = false →
    s.isSource f.hdr = false → s.cyc.lastMark ≠ some (beAt f.payload 0 4) → (beAt f.payload 17 1).testBit 0 = false →
    exec (.cycleMark p f) s = .next (
      let t := State.disarm { s with
        cyc := { s.cyc with lastMark := some (beAt f.payload 0 4) }, rs := { s.rs with markAwaited := false } } .lossGuard
      let u := t.takeMark (beAt f.payload 0 4) (nsec (1000000000 * beAt f.payload 4 6 + beAt f.payload 10 4))
        (10000 * beAt f.payload 14 2) (beAt f.payload 16 1) none
      (u.setVal 0x2200 7 (beAt f.payload 18 2)).atShedLevel (beAt f.payload 20 1))) ∧
  (∀ p f (s : State), s.hears p = true → f.hdr.typ.toNat = typCycleMark → f.payload.length = 32 →
    s.cyc.lastMark = some (beAt f.payload 0 4) → exec (.cycleMark p f) s = .next s) ∧
  (∀ o f l (s : State), (s.egress o).transit[3] = f :: l → nsec (s.val 0x2210 3) ≤ s.uptime - f.since → exec (.promotion o true) s =
    .next ((s.setEgress o { s.egress o with
      transit := ((s.egress o).transit.set 3 l).set 2 ((s.egress o).transit[2] ++ [f]) }).countPromotion o true)) ∧
  (∀ o f l (s : State), (s.egress o).local_[3] = f :: l → nsec (s.val 0x2210 3) + s.heldByShaper o 3 f.since ≤ s.uptime - f.since →
    exec (.promotion o false) s = .next ((s.setEgress o { s.egress o with
      local_ := ((s.egress o).local_.set 3 l).set 2 ((s.egress o).local_[2] ++ [f]) }).countPromotion o false)) ∧
  (∀ o f l (s : State), (s.egress o).transit[3] = f :: l → s.uptime - f.since < nsec (s.val 0x2210 3) →
    exec (.promotion o true) s = .next s) ∧
  (∀ i (s : State), s.due (.wheel (Fin.val i)) = true →
    let t := (s.disarm (.wheel i.val)).creditAge i.val
    let u := State.pump { t with sw := { t.sw with onWheel := t.sw.onWheel.filter fun k => k != i.val } }
    u.val (0x2300 + i.val) 1 ≠ 2 → exec (.wheelSlot i) s = .next u) ∧
  (∀ loads (s : State), s.isKeeper = false → exec (.planDecision loads) s = .next s) ∧
  (∀ (s : State), s.isKeeper = true → s.cyc.planning = true → s.mgmt.restarting = false → s.val 0x2200 8 = 0 → exec (.planDecision []) s =
    .next (State.replanOn (State.showPlan { s with cyc := { s.cyc with planning := false, loads := [] } } []))) ∧
  (∀ loads (s : State), s.mgmt.restarting = true → exec (.planDecision loads) s = .next s) ∧
  (∀ (s : State), s.due .replan = true → s.isKeeper = true → s.mgmt.restarting = false → exec .replanTimer s =
    .next (State.replanOn { s.disarm .replan with cyc := { s.cyc with planning := true, planAt := s.uptime } }))

/-- Ring time (R218 to R230). How the copies of a SYNC are settled is a reading (log entry 30). -/
def Obligations.RingTimeCommands : Prop :=
  (∀ p f k (s : State), s.hears p = true → f.hdr.typ.toNat = typSync → f.payload.length = 48 → s.isKeeper = false → s.syncFault p f = some k →
    exec (.sync p f) s = .next (s.bump 0x3002 k)) ∧
  (∀ p f (s : State), s.hears p = true → f.hdr.typ.toNat = typSync → f.payload.length = 48 → s.isKeeper = false → s.syncFault p f = none →
    s.timeState = 0 →
    let t := (s.firstTime (s.syncOffset p f)).takeSyncFields f
    t.timeState = 1 → t.val 0x3000 4 ≠ 2 →
    exec (.sync p f) s = .next ((t.armHoldover.joinRound p (beAt f.payload 12 4) 0 (syncHops f)).wagRefresh)) ∧
  (∀ p f (s : State), s.hears p = true → f.hdr.typ.toNat = typSync → f.payload.length = 48 → s.isKeeper = true → s.isSource f.hdr = true →
    exec (.sync p f) s = .next (s.closeLoop p (beAt f.payload 12 4) (s.syncOffset p f))) ∧
  (∀ (s : State), s.due .holdover = true → s.timeState = 2 → exec .holdoverEnter s = .next (
    let t := s.disarm .holdover
    let u : State := { t with tu := { t.tu with holdEst := t.estError - t.leftPs, fineRun := 0, coarseRun := 0 } }
    (((u.bump 0x3002 7).setTimeState .holdover).raise 0xB 2 contained
      (packArg [i16 (s.val 0x3000 4), s32 s.combined])).wagRefresh)) ∧
  (∀ rq value (s : State), s.checkWrite rq (objKey 0x3010 4) value = .ok → s.bench = false →
    exec (.hostOffset rq value) s = .next (s.accepted rq (objKey 0x3010 4) value fun v t => t.measured (toSigned 64 v))) ∧
  (∀ rq value (s : State), s.checkWrite rq (objKey 0x3010 5) value = .ok → s.bench = false →
    exec (.setTime rq value) s = .next (s.accepted rq (objKey 0x3010 5) value setTimeFx)) ∧
  (∀ v (s : State), setTimeFx v s = { s with tu := { s.tu with
    step := some (s.stepPlace.1, (1000000000 * (v / 2 ^ 32) + v % 2 ^ 32 : Nat) - (inNs s.stepPlace.2 : Int)) } }) ∧
  (∀ rq value (s : State), s.checkWrite rq (objKey 0x3020 2) value = .ok → s.bench = false →
    exec (.todNext rq value) s = .next (s.accepted rq (objKey 0x3020 2) value todFx)) ∧
  (∀ v (s : State), todFx v s = { s with tu := { s.tu with tod := some v, lastPps := none } }) ∧
  (∀ ns (s : State), s.val 0x3020 1 = 0 →
    let u := (s.bump 0x3020 5).setVal 0x3020 4 (time80 (nsec ns))
    u.isKeeper = false → exec (.ppsInEdge true ns) s = .next u) ∧
  (∀ ns (s : State), s.val 0x3020 1 = 0 → exec (.ppsInEdge false ns) s = .next s) ∧
  (∀ (s : State), s.due .extLoss = true → s.isKeeper = true → s.val 0x3010 1 ≠ 0 → exec .extLost s = .next (
    let t := (s.disarm .extLoss).setVal 0x3010 6 3
    t.raise 0xB 6 contained (packArg [i16 (s.val 0x3010 1), i32 (s.val 0x3010 7)]))) ∧
  (∀ (s : State), s.tu.pps = false → s.ppsOn = true → s.ppsPhase < 2 * tickUnits → exec .ppsOutEdge s = .next (s.drivePps true)) ∧
  (∀ (s : State), s.tu.pps = true → nsec (s.val 0x3030 4) ≤ s.ppsPhase → exec .ppsOutEdge s = .next (s.drivePps false)) ∧
  (∀ pin rising ns (s : State), 32 ≤ Fin.val pin → (s.val 0x3040 (if rising then 1 else 2)).testBit (Fin.val pin) = true →
    exec (.captureEdge pin rising ns) s = .next ((s.storeCapture pin rising ns).wagCapture pin.val rising ns)) ∧
  (∀ pin rising ns (s : State), Fin.val pin < 32 → s.combOff = false →
    let t : State := { s with dio := { s.dio with
      inRaw := putBit s.dio.inRaw pin.val rising
      inState := if s.unfiltered pin.val then putBit s.dio.inState pin.val rising else s.dio.inState } }
    exec (.captureEdge pin rising ns) s = .next (if (s.val 0x3040 (if rising then 1 else 2)).testBit pin.val then
      (t.storeCapture pin rising ns).wagCapture pin.val rising ns else t)) ∧
  (∀ pin rising ns (s : State), 32 ≤ Fin.val pin → (s.val 0x3040 (if rising then 1 else 2)).testBit (Fin.val pin) = false →
    exec (.captureEdge pin rising ns) s = .next s) ∧
  (∀ (s : State), s.tu.second ≠ s.ringTime / secs 1 → exec .wholeSecond s = .next (
    let t : State := { s with tu := { s.tu with second := s.ringTime / secs 1 }, sw := { s.sw with gapRaised := false } }
    [0x5114, 0x5115, 0x5116, 0x5117].foldl State.applyGroup
      (if (s.group 0x3031).pending.isSome then (t.applySet 0x3031).drivePps s.tu.pps else t))) ∧
  (∀ (s : State), s.tu.second = s.ringTime / secs 1 → exec .wholeSecond s = .next s)

/-- Waggles (R240, R241, R244, R246, R248, R252, R255). -/
def Obligations.Waggles : Prop :=
  (∀ rq e words (s : State), s.notMine rq = false → (s.checkAccess rq .write (0x50000000 + 64 * Fin.val e) 48).2 = .ok →
    let b := ((Vector.toList words).map fun w => leBytes 4 (BitVec.toNat w)).flatten
    let u := (s.checkAccess rq .write (0x50000000 + 64 * e.val) 48).1
    exec (.waggleTableWrite rq e words) s = .next ((u.wagWrite (0x50000000 + 64 * e.val) b).1.answerWindow rq
      (0x50000000 + 64 * e.val) (u.wagWrite (0x50000000 + 64 * e.val) b).2 b)) ∧
  (∀ rq e word (s : State), s.notMine rq = false → (s.checkAccess rq .write (0x50000000 + 64 * Fin.val e) 4).2 = .ok →
    let b := leBytes 4 (BitVec.toNat word)
    let u := (s.checkAccess rq .write (0x50000000 + 64 * e.val) 4).1
    exec (.waggleControlWrite rq e word) s = .next ((u.wagWrite (0x50000000 + 64 * e.val) b).1.answerWindow rq
      (0x50000000 + 64 * e.val) (u.wagWrite (0x50000000 + 64 * e.val) b).2 b)) ∧
  (∀ offset bytes e l (s : State), s.wagDecode offset bytes = (.ok, e, l) → s.mirroring = false →
    s.wagWrite offset bytes = (s.wagApply e l, .ok)) ∧
  (∀ offset bytes e l (s : State), s.wagDecode offset bytes = (.range, e, l) → s.wagWrite offset bytes = (s.bump 0x3100 0xB, .range)) ∧
  (∀ e d (s : State), (s.wagEntry (Fin.val e)).due = some d → (s.wagEntry e.val).st = 2 → d ≤ s.nowNs + 1000 →
    s.wagHeld (s.wagEntry e.val) = false →
    exec (.waggleFreeze e) s = .next (s.putWag e.val { s.wagEntry e.val with st := 4 })) ∧
  (∀ e d (s : State),
    let u := s.wagRefresh
    let x := u.wagEntry (Fin.val e)
    let k := if u.wag.tick = u.nowTick then u.wag.inTick else 0
    let r : Outc := .next (State.wagExecute { u with wag := { u.wag with tick := u.nowTick, inTick := k + 1 } } e.val x d)
    x.due = some d → u.wagDue x = true → k < 16 →
    (x.action = 0 → exec (.waggleNone e) s = r) ∧ (x.action = 1 → exec (.waggleDio e) s = r) ∧
    (x.action = 2 → exec (.waggleWorker e) s = r) ∧ (x.action = 3 → exec (.waggleSend e) s = r) ∧
    (x.action = 4 → exec (.waggleSnapshot e) s = r) ∧ (x.action = 5 → exec (.waggleArmOther e) s = r) ∧
    (x.action = 6 → exec (.waggleSupply e) s = r)) ∧
  (∀ e (s : State),
    let x := s.wagRefresh.wagEntry (Fin.val e)
    x.action ≠ 1 → exec (.waggleDio e) s = .next s) ∧
  (∀ e x d cause (s : State), s.wagSuppress x.action = some cause → s.wagExecute e x d =
    ((s.bump 0x3100 6).raise 0x14 3 corrected (packArg [i16 e, i16 cause])).wagAfter e
      { x with lastSuppressed := true, lastLate := false, lastMissed := false } d) ∧
  (∀ e x d (s : State), s.wagSuppress x.action = none → s.ringTime ≤ nsec d → s.wagExecute e x d =
    ((s.bump 0x3100 3).wagAfter e { x with
      fires := x.fires + 1, lastLate := false, lastMissed := false, lastSuppressed := false } d).wagAct e x d (s.nowNs - d)) ∧
  (∀ e x d late (s : State), x.action = 4 → s.wagAct e x d late = s.queueReport (reportRecord (s.reportFields e x d late))) ∧
  (∀ e x d late (s : State), x.action = 6 → s.wagAct e x d late = s.switchSupply (x.w 6) (!(x.w 7).testBit 0)) ∧
  (∀ x d (s : State), s.nowNs + 1000 ≤ d → s.verdict x d = .at_ d d false) ∧
  (∀ x d (s : State), s.nowNs ≤ d → d < s.nowNs + 1000 → s.verdict x d = .at_ d (max d (s.nowNs + 200)) true) ∧
  (∀ x d l (s : State), d < s.nowNs → s.lateLimit x = some l → l ≤ s.nowNs - d → s.verdict x d = .missed d (s.nowNs - d)) ∧
  (∀ x d l (s : State), d < s.nowNs → s.lateLimit x = some l → s.nowNs - d < l → s.verdict x d = .at_ d s.nowNs true) ∧
  (∀ rq value (s : State), s.checkWrite rq (objKey 0x3110 3) value = .ok → s.bench = false →
    exec (.reportPop rq value) s = .next (s.accepted rq (objKey 0x3110 3) value reportPopFx)) ∧
  (∀ n (s : State), reportPopFx n s = { s with wag := { s.wag with
    reports := s.wag.reports.drop n, readIndex := (s.wag.readIndex + n) % 64 } })

/-- Axes (R260, R262, R263). -/
def Obligations.Axes : Prop :=
  (∀ p f i (s : State), s.hears p = true → f.hdr.typ.toNat = typAxis → s.isSource f.hdr = false → f.payload.length = 40 →
    s.followOf (beAt f.payload 0 1 % 64) = some i → s.val (0x3210 + i.val) 2 = f.hdr.sNode.toNat →
    exec (.axis p f) s = .next (s.takeSample i (beAt f.payload 1 1) (beAt f.payload 4 8) (beAt f.payload 12 5)
      (1000000000 * beAt f.payload 20 6 + beAt f.payload 26 4) (beAt f.payload 32 4))) ∧
  (∀ p f i (s : State), s.hears p = true → f.hdr.typ.toNat = typAxis → s.isSource f.hdr = false → f.payload.length = 40 →
    s.followOf (beAt f.payload 0 1 % 64) = some i → s.val (0x3210 + i.val) 2 ≠ f.hdr.sNode.toNat →
    exec (.axis p f) s = .next ((s.bump (0x3210 + i.val) 0xA).raise 0x15 2 corrected
      (packArg [i16 (beAt f.payload 0 1 % 64), i16 f.hdr.sNode.toNat]))) ∧
  (∀ p f (s : State), s.hears p = true → f.hdr.typ.toNat = typAxis → s.isSource f.hdr = false → f.payload.length ≠ 40 →
    exec (.axis p f) s = .next (s.portBump p 6)) ∧
  (∀ i (s : State), s.due (.axisStale i) = true → exec (.axisStale i) s = .next ((s.disarm (.axisStale i)).axisStale i).wagRefresh) ∧
  (∀ i (s : State), s.val (0x3210 + Fin.val i) 4 ≠ 2 → s.axisStale i =
    (((s.setVal (0x3210 + i.val) 4 2).bump (0x3210 + i.val) 9).raise 0x15 1 contained
      (packArg [i16 (s.val (0x3210 + i.val) 1), i16 (s.val (0x3210 + i.val) 2)]))) ∧
  (∀ rq i value (s : State), s.checkWrite rq (objKey (0x3200 + Fin.val i) 5) value = .ok → s.bench = false →
    exec (.preset rq i value) s = .next (s.accepted rq (objKey (0x3200 + i.val) 5) value (presetFx i))) ∧
  (∀ i v (s : State), ((presetFx i v s).ax.pubs[Fin.val i]).preset = some v)

/-- Requests at their target (R50, R273 to R284). -/
def Obligations.RequestsServed : Prop :=
  (∀ f (s : State), beAt f.payload 4 1 % 4 = s.val 0x1001 3 → s.paired = false → (beAt f.payload 0 4 ≠ 0 ∨ beAt f.payload 6 2 = 0) →
    exec (.readReq f) s = .next (s.sharedAt (beAt f.payload 0 4) fun t =>
      t.serveRead (frameRequester f .window) (beAt f.payload 0 4) (beAt f.payload 6 2))) ∧
  (∀ f (s : State), beAt f.payload 4 1 % 4 = s.val 0x1001 3 → s.paired = false → beAt f.payload 0 4 = 0 → beAt f.payload 6 2 ≠ 0 →
    exec (.readReq f) s =
      .next (s.serveTransfer (frameRequester f .transfer) f.hdr (beAt f.payload 6 2) (f.payload.drop 8))) ∧
  (∀ f (s : State), beAt f.payload 4 1 % 4 ≠ s.val 0x1001 3 → s.dx.mode = 0 → exec (.writeAcked f) s =
    .next (s.answer (frameRequester f .window) (beAt f.payload 0 4) (beAt f.payload 6 2) .noTarget [])) ∧
  (∀ f d (s : State), beAt f.payload 4 1 % 4 = s.val 0x1001 3 → s.paired = false → writeData f = some d → exec (.writeAcked f) s =
    .next (s.sharedAt (beAt f.payload 0 4) fun t => t.serveWrite (frameRequester f .window) (beAt f.payload 0 4) d)) ∧
  (∀ f (s : State), beAt f.payload 4 1 % 4 = s.val 0x1001 3 → s.paired = false → writeData f = none → exec (.writeAcked f) s =
    .next (s.sharedAt (beAt f.payload 0 4) fun t => t.answer (frameRequester f .window) (beAt f.payload 0 4)
      (beAt f.payload 6 2) .typeLength [])) ∧
  (∀ f d (s : State), beAt f.payload 4 1 % 4 = s.val 0x1001 3 → s.paired = false → writeData f = some d → exec (.writePosted f) s =
    .next (s.sharedAt (beAt f.payload 0 4) fun t => t.servePosted (frameRequester f .posted) (beAt f.payload 0 4) d)) ∧
  (∀ f (s : State), beAt f.payload 4 1 % 4 = s.val 0x1001 3 → s.paired = false → exec (.compareSwap f) s =
    .next (s.sharedAt (beAt f.payload 0 4) fun t =>
      t.serveAtomic (frameRequester f .window) true (beAt f.payload 0 4) (f.payload.drop 8))) ∧
  (∀ f (s : State), beAt f.payload 4 1 % 4 = s.val 0x1001 3 → s.paired = false → exec (.fetchAdd f) s =
    .next (s.sharedAt (beAt f.payload 0 4) fun t =>
      t.serveAtomic (frameRequester f .window) false (beAt f.payload 0 4) (f.payload.drop 8))) ∧
  (∀ f (s : State), beAt f.payload 4 1 % 4 = s.val 0x1001 3 → s.paired = false → exec (.fence f) s =
    .next (s.sharedAt (beAt f.payload 0 4) fun t => t.serveFence (frameRequester f .window))) ∧
  (∀ m f (s : State), (s.bridge.fences.filter s.fenceLive).find? (fun x => x.master == m) = some f →
    s.touchFence m = ({ s with bridge := { s.bridge with fences :=
      ((s.bridge.fences.filter s.fenceLive).filter fun x => x.master != m) ++ [{ f with lastUse := s.uptime }] } }, true, false)) ∧
  (∀ rq (s : State), s.dx.mirrorWait = [] → (s.touchFence rq.master).2.1 = true →
    s.serveFence rq = (s.touchFence rq.master).1.answerFence rq (s.touchFence rq.master).2.2)

/-- Requests at their initiator, the far-error log, tunnels (R19, R273, R279 to R282, R290, R291). -/
def Obligations.RequestsMade : Prop :=
  (∀ num tag cls addr a (s : State), bitField (BitVec.toNat addr) 46 34 ≠ 0 → exec (.requestIssue num tag cls addr a) s = .next (s.deliver
    { num := num, tag := tag, via := .window, typ := askTyp a, ring := bitField addr.toNat 63 60,
      node := bitField addr.toNat 59 47, offset := addr.toNat % 2 ^ 32, length := askLen a,
      payload := askPayload a (addr.toNat % 2 ^ 32) (bitField addr.toNat 33 32), cls := Fin.val cls, aperture := none }
    .noTarget [])) ∧
  (∀ num tag cls addr a (s : State), bitField (BitVec.toNat addr) 46 34 = 0 → bitField addr.toNat 59 47 = 0 →
    bitField addr.toNat 33 32 = 0 → s.standby = false → exec (.requestIssue num tag cls addr a) s = .next (s.serveLocal
      { num := num, tag := tag, via := .window, typ := askTyp a, ring := bitField addr.toNat 63 60, node := 0,
        offset := addr.toNat % 2 ^ 32, length := askLen a, payload := askPayload a (addr.toNat % 2 ^ 32) 0,
        cls := Fin.val cls, aperture := none } a)) ∧
  (∀ num tag cls addr a (s : State), bitField (BitVec.toNat addr) 46 34 = 0 → bitField addr.toNat 59 47 ≠ 0 →
    bitField addr.toNat 59 47 ≠ 8191 → bitField addr.toNat 59 47 ≠ s.node → bitField addr.toNat 63 60 = s.ring →
    s.bench = false → s.reachesNode (bitField addr.toNat 59 47) = true →
    exec (.requestIssue num tag cls addr a) s = .next (s.issue
      { num := num, tag := tag, via := .window, typ := askTyp a, ring := s.ring, node := bitField addr.toNat 59 47,
        offset := addr.toNat % 2 ^ 32, length := askLen a,
        payload := askPayload a (addr.toNat % 2 ^ 32) (bitField addr.toNat 33 32), cls := Fin.val cls, aperture := none })) ∧
  (∀ f p res (s : State), s.pendingOf f.hdr.dMaster.toNat f.hdr.tag.toNat f.hdr.sRing.toNat f.hdr.sNode.toNat = some p →
    p.typ ≠ typReadReq → Result.ofCode (beAt f.payload 0 1) = some res →
    exec (.readResp f) s = .next ((s.finish p res (f.payload.drop 8)).pushNext p res (f.payload.drop 8))) ∧
  (∀ f (s : State), s.pendingOf f.hdr.dMaster.toNat f.hdr.tag.toNat f.hdr.sRing.toNat f.hdr.sNode.toNat = none →
    exec (.readResp f) s = .next (s.bump 0x8300 5)) ∧
  (∀ p res data (s : State), p.typ ≠ typLock → p.silent = false →
    s.finish p res data = ((s.untrack p).deliver p res data).issueWaiting) ∧
  (∀ num tag p (s : State), s.due (.reqTimeout num tag) = true → s.bridge.waiting = [] → s.bridge.outstanding = [p] → p.num = num →
    p.tag = tag → exec (.reqTimeout num tag) s =
      .next ((((s.disarm (.reqTimeout num tag)).bump 0x8300 4).finish p .farTimeout []).pushNext p .farTimeout [])) ∧
  (∀ f (s : State), exec (.errnote f) s = .next ((s.bump 0x8300 7).farLog
    (65536 * (1000000000 * beAt f.payload 16 6 + beAt f.payload 22 4)) (beAt f.payload 4 8) f.hdr.dMaster.toNat f.hdr.tag.toNat
    (beAt f.payload 0 1) 0 (beAt f.payload 12 2))) ∧
  (∀ rq value (s : State), s.checkWrite rq (objKey 0x8310 3) value = .ok → s.bench = false →
    exec (.farLogPop rq value) s = .next (s.accepted rq (objKey 0x8310 3) value farLogPopFx)) ∧
  (∀ n f (s : State), s.val (0x8200 + Fin.val n) 1 = 0 → exec (.tunnel n f) s = .next (s.bump (0x8200 + n.val) 9)) ∧
  (∀ n f x (s : State), s.val (0x8200 + Fin.val n) 1 = 1 → s.val (0x8200 + n.val) 4 ≠ 0 → beAt f.payload 0 1 = 1 →
    s.permits { master := s.localMaster 9, tag := 0, via := .posted, cls := Fin.ofNat 4 f.hdr.cls.toNat }
      ((targetOf (s.tunnelPort n)).getD 0) .write (s.tunnelPort n) (s.tunnelPort n) = true →
    tunnelFrame f.payload = some x →
    exec (.tunnel n f) s = .next (s.queueReplay n f.hdr.sNode.toNat f.payload)) ∧
  (∀ n x l (s : State), s.bridge.endpoints[Fin.val n].replay = x :: l → x.at_ ≤ s.nowNs → s.val (0x8200 + n.val) 1 = 1 →
    exec (.replayStart n) s = .next (
      let q : Fin 8 := Fin.ofNat 8 (s.val (0x8200 + n.val) 2)
      (s.setEndpoint n { s.bridge.endpoints[n.val] with
        replay := l, offered := s.bridge.endpoints[n.val].offered ++ [((s.canPort q).next, x)] }).updCan q fun p =>
          { p with next := p.next + 1 })) ∧
  (∀ n x l (s : State), s.bridge.endpoints[Fin.val n].replay = x :: l → s.nowNs < x.at_ →
    exec (.replayStart n) s = .next s)

/-- Locks (R294 to R299). -/
def Obligations.Locks : Prop :=
  (∀ rq b issue lease wait (s : State), s.notMine rq = false → s.permits rq (Fin.val b + 1) .atomicLock (busOffset b) (busOffset b) = true →
    s.bridge.buses[b.val].holder = none → BitVec.toNat lease = 0 → BitVec.toNat wait ≤ 1000000 →
    exec (.lockAcquire rq b issue lease wait) s = .next (s.grantLock rq b ⟨issue, rq.master⟩ s.leaseDefault)) ∧
  (∀ rq b issue lease wait h g (s : State), s.notMine rq = false →
    s.permits rq (Fin.val b + 1) .atomicLock (busOffset b) (busOffset b) = true →
    s.bridge.buses[b.val].holder = some (h, g) → h ≠ ⟨issue, rq.master⟩ → Ticket.older ⟨issue, rq.master⟩ h = false →
    BitVec.toNat lease = 0 → BitVec.toNat wait ≤ 1000000 →
    exec (.lockAcquire rq b issue lease wait) s = .next (s.refuseLock rq b 0)) ∧
  (∀ rq b issue lease wait h g (s : State), s.notMine rq = false →
    s.permits rq (Fin.val b + 1) .atomicLock (busOffset b) (busOffset b) = true →
    s.bridge.buses[b.val].holder = some (h, g) → h ≠ ⟨issue, rq.master⟩ → Ticket.older ⟨issue, rq.master⟩ h = true →
    s.bridge.buses[b.val].waiters.length < 8 → BitVec.toNat lease = 0 → BitVec.toNat wait ≤ 1000000 →
    exec (.lockAcquire rq b issue lease wait) s = .next ((s.setBus b { s.bridge.buses[b.val] with
      waiters := insertWaiter (⟨issue, rq.master⟩, s.leaseDefault, rq) s.bridge.buses[b.val].waiters }).arm
        (.lockWait b.val rq.master) (usec wait.toNat))) ∧
  (∀ rq b h g (s : State), s.notMine rq = false → s.permits rq (Fin.val b + 1) .atomicLock (busOffset b) (busOffset b) = true →
    s.bridge.buses[b.val].holder = some (h, g) → h.master = rq.master →
    exec (.lockRenew rq b) s = .next ((s.arm (.lease b.val) (usec g)).lockOk rq b 2 h.issue g)) ∧
  (∀ rq b (s : State), s.notMine rq = false → s.permits rq (Fin.val b + 1) .atomicLock (busOffset b) (busOffset b) = true →
    s.bridge.buses[b.val].holder = none →
    exec (.lockRenew rq b) s = .next (s.answer rq (busOffset b) 8 .lockExpired [])) ∧
  (∀ rq b h g (s : State), s.notMine rq = false → s.permits rq (Fin.val b + 1) .atomicLock (busOffset b) (busOffset b) = true →
    s.bridge.buses[b.val].holder = some (h, g) → h.master = rq.master → s.isLocal rq.master = false →
    exec (.lockRelease rq b) s = .next ((s.freeBus b).lockOk rq b 3 h.issue 0)) ∧
  (∀ rq b (s : State), s.notMine rq = false → s.permits rq (Fin.val b + 1) .atomicLock (busOffset b) (busOffset b) = false →
    exec (.lockRelease rq b) s =
      .next ((s.refuse rq (b.val + 1) (busOffset b)).answer rq (busOffset b) 8 .accessDenied [])) ∧
  (∀ b m t lease rq (s : State), s.due (.lockWait (Fin.val b) m) = true →
    s.bridge.buses[b.val].waiters.find? (fun w => w.1.master == m) = some (t, lease, rq) →
    exec (.lockWaitExpiry b m) s = .next (((s.disarm (.lockWait b.val m)).setBus b { s.bridge.buses[b.val] with
      waiters := s.bridge.buses[b.val].waiters.filter fun w => w.1.master != m }).refuseLock rq b lease)) ∧
  (∀ b h g (s : State), s.due (.lease (Fin.val b)) = true → s.bridge.buses[b.val].holder = some (h, g) → s.isLocal h.master = false →
    exec (.lockExpired b) s = .next ((((s.disarm (.lease b.val)).bump 0x8400 6).raise 0x1A 2 contained
      (packArg [i16 b.val, i32 h.master.word])).freeBus b)) ∧
  (∀ b t lease rq l (s : State), s.bridge.buses[Fin.val b].waiters = (t, lease, rq) :: l →
    s.freeBus b = ((s.setBus b { holder := none, waiters := l }).disarm (.lockWait b.val t.master)).grantLock rq b t lease) ∧
  (∀ n (s : State), s.due (.backoff n) = true → s.bridge.waiting = [] → exec (.backoffEnd n) s = .next (
    let t := s.disarm (.backoff n)
    let q := (t.ownTicket n).quantum
    (t.updTicket n fun x => { x with backingOff := false, grace := true }).arm (.ticketGrace n)
      (usec (if q = 0 then t.leaseDefault else q))))

/-- The order of tickets (R294) and of waiters (R296). -/
def Obligations.LocksAreExclusive : Prop :=
  (∀ x y : Ticket, x ≠ y → (x.older y = true ↔ y.older x = false)) ∧
  (∀ x y z : Ticket, x.older y = true → y.older z = true → x.older z = true) ∧
  (∀ (w : Ticket × Nat × Requester) (l : List (Ticket × Nat × Requester)),
    l.Pairwise (fun a b => b.1.older a.1 = false) → (insertWaiter w l).Pairwise (fun a b => b.1.older a.1 = false)) ∧
  (∀ (w : Ticket × Nat × Requester) (l : List (Ticket × Nat × Requester)) x, x ∈ insertWaiter w l ↔ x = w ∨ x ∈ l)

/-- The host link (R301 to R309). That bus mastering comes with the link is the model's choice (log entry 62), and so is the log of an
access to a hole of BAR0 (log entry 60). -/
def Obligations.HostLink : Prop :=
  (∀ r value (s : State), s.hostLive = true → exec (.tailWrite r value) s = .next (s.setTail r (BitVec.toNat value))) ∧
  (∀ r value (s : State), s.hostLive = false → exec (.tailWrite r value) s = .next s) ∧
  (∀ offset len tag (s : State), s.hostLive = true → s.flag (0x8510 + (s.aperture offset).1.val) 4 = true →
    exec (.bar2Read offset len tag) s = .next ((s.bump (0x8510 + (s.aperture offset).1.val) 5).hostRead tag
      (s.val (0x8510 + (s.aperture offset).1.val) 2) (s.aperture offset).2 (Fin.val len))) ∧
  (∀ offset len tag (s : State), s.hostLive = true → s.flag (0x8510 + (s.aperture offset).1.val) 4 = false →
    exec (.bar2Read offset len tag) s = .next (s.hostMiss tag 1 (s.aperture offset).2 (Fin.val len))) ∧
  (∀ offset bytes tag (s : State), s.hostLive = true → s.flag (0x8510 + (s.aperture offset).1.val) 4 = true →
    s.val (0x8510 + (s.aperture offset).1.val) 3 = 0 → exec (.bar2Write offset bytes tag) s =
      .next ((s.bump (0x8510 + (s.aperture offset).1.val) 5).ask 1 tag (.host 2) (s.val (0x8510 + (s.aperture offset).1.val) 2)
        none (s.aperture offset).2 (.writePosted bytes))) ∧
  (∀ offset bytes tag (s : State), s.hostLive = true → s.flag (0x8510 + (s.aperture offset).1.val) 4 = true →
    s.val (0x8510 + (s.aperture offset).1.val) 3 ≠ 0 → exec (.bar2Write offset bytes tag) s =
      .next ((s.bump (0x8510 + (s.aperture offset).1.val) 5).ask 1 tag (.host 2) (s.val (0x8510 + (s.aperture offset).1.val) 2)
        (some (s.aperture offset).1) (s.aperture offset).2 (.writeAcked bytes))) ∧
  (∀ page offset tag len (s : State), s.hostLive = true → exec (.localPageAccess page offset tag (.read len)) s =
    .next (s.hostRead tag 1 (s.val 0x8501 (Fin.val page + 1) + Fin.val offset) len.val)) ∧
  (∀ page offset tag bytes (s : State), s.hostLive = true → exec (.localPageAccess page offset tag (.write bytes)) s =
    .next (s.ask 1 tag (.host 3) 1 none (s.val 0x8501 (Fin.val page + 1) + Fin.val offset) (.writeAcked bytes))) ∧
  (∀ tag bytes (s : State), s.hostLive = true → bytes.length = 4 → exec (.hostWindowAccess 0 tag (.write bytes)) s =
    .next (s.setTail 0 (leAt bytes 0 4))) ∧
  (∀ tag len (s : State), s.hostLive = true → len.val = 4 → exec (.hostWindowAccess 0x4000 tag (.read len)) s =
    .next (s.hostMiss tag 1 0x4000 4)) ∧
  (∀ c flow flags payload (s : State), s.txReady c = true → (∀ k, k < c → s.txReady k = false) →
    s.lookup s.ring s.flowNode (Fin.val flow) = none →
    exec (.txDescriptorFetch c flow flags payload) s = .next (((s.bump 0x2150 0x15).bump (0x8530 + c.val) 9).ringDone
      (Fin.ofNat 8 c.val) ((BitVec.toNat flags).testBit 0))) ∧
  (∀ c addr f d l (s : State), s.rxReady c = true → (∀ k, k < c → s.rxReady k = false) → (s.egress .bl2).local_[Fin.val c] = f :: l →
    f.entry = some d → exec (.rxDescriptorWrite c addr) s = .next (
      let r : Fin 8 := Fin.ofNat 8 (4 + c.val)
      let data := headerBytes f.hdr ++ f.payload
      let t := ((s.updEgress .bl2 fun g => { g with local_ := g.local_.set c l }).chargeQueue .bl2 ⟨c, false⟩ f).emit (.dma (BitVec.toNat addr) data)
      let u := t.emit (.dma (s.val (0x8534 + c.val) 2 + 16 * s.host.rings[r].head + 8)
        (leBytes 2 data.length ++ leBytes 1 1 ++ leBytes 1 0 ++ leBytes 2 d.entry ++ leBytes 2 0))
      (((u.freeCells f).noteDrain .bl2).bump (0x8534 + c.val) 8).ringDone r false)) ∧
  (∀ r (s : State), s.due (.coalesce (Fin.val r)) = true → exec (.coalesceExpiry r) s = .next ((s.disarm (.coalesce r.val)).ringVector r)) ∧
  (∀ r addr (s : State), s.ringLive r = true → exec (.dmaFault r addr) s = .next (
    let t := (s.setFlag (0x8530 + Fin.val r) 1 false).bump 0x8500 7
    (t.raise 0x1B 2 contained (2 ^ 48 * r.val + BitVec.toNat addr % 2 ^ 48)).hostDrain)) ∧
  (∀ (s : State), s.pcieMode = true → exec (.hostReset (.perst true)) s = .next (
    (((State.setVal { s.resetHost with host := { s.resetHost.host with perst := true } } 0x8500 2 1).setVal
      0x8500 3 0).hostDrain).powerCheck)) ∧
  (∀ (s : State), s.pcieMode = true → s.host.perst = false → exec (.hostReset .flr) s = .next (s.resetHost.bump 0x8500 5).hostDrain) ∧
  (∀ speed bm (s : State), s.pcieMode = true → s.host.perst = false → s.val 0x8500 2 = 2 → s.isolated 5 = false →
    exec (.hostLinkUp speed bm) s =
      .next (((s.setVal 0x8500 2 3).setVal 0x8500 3 (Fin.val speed + 1)).setFlag 0x8500 4 bm)) ∧
  (∀ (s : State), s.pcieMode = true → 3 ≤ s.val 0x8500 2 → exec .hostLinkDown s =
    .next (((s.setVal 0x8500 2 2).setVal 0x8500 3 0).raise 0x1B 1 contained (packArg [i16 2])))

/-- Window accesses (R164, R297, R405, R505). -/
def Obligations.WindowAccess : Prop :=
  (∀ rq offset bytes k (s : State), s.notMine rq = false → (s.checkAccess rq .write offset (List.length bytes)).2 = .ok →
    s.hwWrite rq offset bytes k = State.answerWindow (k (s.checkAccess rq .write offset bytes.length).1).1 rq offset
      (k (s.checkAccess rq .write offset bytes.length).1).2 bytes) ∧
  (∀ rq offset bytes k e (s : State), s.notMine rq = false → (s.checkAccess rq .write offset (List.length bytes)).2 = e → e ≠ .ok →
    s.hwWrite rq offset bytes k = (s.checkAccess rq .write offset bytes.length).1.answer rq offset bytes.length e []) ∧
  (∀ rq offset bytes k (s : State), s.notMine rq = true → offset / 0x10000000 ≠ 3 → s.hwWrite rq offset bytes k = s) ∧
  (∀ rq offset len k (s : State), s.notMine rq = false → s.mirroring = false → (s.checkAccess rq .read offset len).2 = .ok →
    s.hwRead rq offset len k = State.answer (k (s.checkAccess rq .read offset len).1).1 rq offset len
      (k (s.checkAccess rq .read offset len).1).2.1 (k (s.checkAccess rq .read offset len).1).2.2) ∧
  (∀ rq right offset len t (s : State), targetOf offset = some t → s.permits rq t right offset (offset + len - 1) = false →
    s.checkAccess rq right offset len = (s.refuse rq t offset, .accessDenied)) ∧
  (∀ rq right offset len t b h lease (s : State), targetOf offset = some t → s.permits rq t right offset (offset + len - 1) = true →
    busOf t = some b → s.bridge.buses[Fin.val b].holder = some (h, lease) → h.master ≠ rq.master → rq.locked = false →
    s.checkAccess rq right offset len = (s, .lockConflict)) ∧
  (∀ rq right offset len t b h lease (s : State), targetOf offset = some t → s.permits rq t right offset (offset + len - 1) = true →
    busOf t = some b → s.bridge.buses[Fin.val b].holder = some (h, lease) → h.master = rq.master → rq.locked = true →
    s.checkAccess rq right offset len = (s.arm (.lease b.val) (usec lease), .ok)) ∧
  (∀ rq right offset len (s : State), targetOf offset = none → s.checkAccess rq right offset len = (s, .noTarget))

/-- CAN buffers (R328, R330, R332 to R335). -/
def Obligations.CanBuffers : Prop :=
  (∀ rq n mask (s : State), exec (.canTxRequest rq n mask) s = .next (s.hwWrite rq (canBase n + 0x3100) (leBytes 4 (BitVec.toNat mask))
    fun t => (t.eachBuf mask.toNat fun u b => u.requestBuf n (some rq.master) b, .ok))) ∧
  (∀ rq n mask (s : State), exec (.canTxCancel rq n mask) s = .next (s.hwWrite rq (canBase n + 0x3104) (leBytes 4 (BitVec.toNat mask))
    fun t => (t.eachBuf mask.toNat fun u b => u.cancelBuf n b, .ok))) ∧
  (∀ rq n mask (s : State), exec (.canTxDoneClear rq n mask) s = .next (s.hwWrite rq (canBase n + 0x3108) (leBytes 4 (BitVec.toNat mask))
    fun t => (t.updCan n fun c => { c with txDone := bitsWithout c.txDone mask.toNat }, .ok))) ∧
  (∀ rq n value (s : State), exec (.canRxPop rq n value) s = .next (s.hwWrite rq (canBase n + 0x3110) (leBytes 4 (BitVec.toNat value))
    fun t => t.canPop n (value.toNat % 128))) ∧
  (∀ rq n (s : State), exec (.hpRelease rq n 1) s = .next (s.hwWrite rq (canBase n + 0x3118) (leBytes 4 1) fun t =>
    (t.updCan n fun c => { c with hp := Vector.ofFn fun b : Fin 2 =>
      if b = 0 then { c.hp[b] with full := false, overrun := false } else c.hp[b] }, .ok))) ∧
  (∀ n k (s : State), s.canPop n k = (if (s.canPort n).rx.length < k then (s, .range) else
    (s.setCan n { s.canPort n with
      rx := (s.canPort n).rx.drop k
      read := ((s.canPort n).read + k) % 64
      overrun := (s.canPort n).overrun && !((s.canPort n).rx.drop k).isEmpty }, .ok))) ∧
  (∀ n owner (b : Fin 32) (s : State), (s.canPort n).bufs[b].status = 0 → s.canValid n (imgFrame (s.canPort n).bufs[b].img) = true →
    imgReservedOk (s.canPort n).bufs[b].img = true →
    (s.requestBuf n owner b).canPort n = { ((s.canPort n).upd b fun x =>
      { x with status := 1, arb := 0, errors := 0, order := (s.canPort n).next, owner := owner }) with
      next := (s.canPort n).next + 1 }) ∧
  (∀ n owner (b : Fin 32) (s : State), (s.canPort n).bufs[b].status = 0 → s.canValid n (imgFrame (s.canPort n).bufs[b].img) = false →
    s.requestBuf n owner b = (s.canCount n 0xD).finishBuf n b 7) ∧
  (∀ n (b : Fin 32) (s : State), (s.canPort n).bufs[b].status = 1 → s.cancelBuf n b = s.finishBuf n b 5) ∧
  (∀ n (b : Fin 32) payload f (s : State), bodyFrame payload 16 = some f → s.canValid n f = true → (s.canPort n).bufs[b].status = 0 →
    exec (.canDeliver n b payload) s = .next (s.updCan n fun p => { (p.upd b fun y =>
      { y with img := slotOf f 0 0 0, status := 1, arb := 0, errors := 0, order := p.next, owner := none }) with
      next := p.next + 1 })) ∧
  (∀ n b payload (s : State), bodyFrame payload 16 = none → exec (.canDeliver n b payload) s = .next (s.canCount n 0xF)) ∧
  (∀ n (b : Fin 32) f d (s : State), (s.canPort n).chosen = some (.buf b) → s.canLive n = true → (s.canPort n).active = none →
    s.canFrameOf n (.buf b) = some f → f.flags.testBit 3 = false →
    exec (.canTxStart n d) s = .next (s.updCan n fun q =>
      CanPort.upd { q with chosen := none, active := some (.buf b, s.nowNs, false) } b fun x => { x with status := 2 })) ∧
  (∀ n (b : Fin 32) sof (s : State), (s.canPort n).active = some (.buf b, sof, false) → (s.canPort n).bufs[b].status = 1 →
    (s.canPort n).bufs[b].cancel = false → Runs (.canArbLost n) s fun t =>
      (t.canPort n).active = none ∧ (t.canPort n).bufs[b].status = 1 ∧
        (t.canPort n).bufs[b].arb = min 255 ((s.canPort n).bufs[b].arb + 1) ∧ t.objs = s.objs ∧ t.out = s.out) ∧
  (∀ n sof nb (s : State), (s.canPort n).active = some (.sdo, sof, nb) → s.canState n = 3 → (s.canPort n).then_ = .stay →
    (s.canPort n).reply = none → exec (.canTxSent n) s = .next (
      let t := ((s.canCount n 7).setCanStat n 2 (s.canStat n 2 - 1)).updCan n fun p => { p with active := none }
      (t.updCan n fun p => { p with reply := none }).canFrameEnd n)) ∧
  (∀ n (s : State), (s.canPort n).active = none → exec (.canTxSent n) s = .next s)

/-- CAN ports (R319, R320, R325 to R327, R334 to R339). How the error counters move is taken from ISO 11898-1 (log entry 35), and the
BusOff clause does not rest on it. -/
def Obligations.CanPorts : Prop :=
  (∀ n (s : State), s.canState n = 2 → exec (.canIntegrated n) s = .next (s.setCanState n 3)) ∧
  (∀ n (s : State), s.canState n ≠ 2 → exec (.canIntegrated n) s = .next s) ∧
  (∀ n (s : State), (s.canPort n).active = none → (s.canPort n).then_ = .stay → s.canLive n = true → s.contenders n = [] →
    exec (.canBusIdle n) s = .next (s.updCan n fun p => { p with chosen := none })) ∧
  (∀ n c r o (s : State), (s.canPort n).active = none → (s.canPort n).then_ = .stay → s.canLive n = true → s.contenders n = [(c, r, o)] →
    exec (.canBusIdle n) s = .next (s.updCan n fun p => { p with chosen := some c })) ∧
  (∀ n f ns (s : State), s.canHears n = false → exec (.canFrameRx n f ns) s = .next s) ∧
  (∀ n f ns (s : State), s.canHears n = true → s.canState n = 6 → exec (.canFrameRx n f ns) s = .next
    ((((s.canCount n 6).updCan n fun p => { p with seq := (p.seq + 1) % 65536 }).canRoute n f ns).canFrameEnd n)) ∧
  (∀ n f ns (s : State), s.canCfg n 3 = 0 → filterMatches (s.val (0x4028 + Fin.val n) 1) f = false →
    filterMatches (s.val (0x4028 + n.val) 4) f = false →
    (∀ k < 128, filterMatches (s.val (0x4020 + n.val) (k + 1)) f = false) → s.canRoute n f ns = s.canCount n 8) ∧
  (∀ n f ns k (s : State), s.canCfg n 3 = 0 → filterMatches (s.val (0x4028 + Fin.val n) 1) f = false →
    filterMatches (s.val (0x4028 + n.val) 4) f = false → k < 128 →
    (∀ m < k, filterMatches (s.val (0x4020 + n.val) (m + 1)) f = false) →
    filterMatches (s.val (0x4020 + n.val) (k + 1)) f = true → bitField (s.val (0x4020 + n.val) (k + 1)) 31 29 = 1 →
    s.canRoute n f ns = s.canQueue n f k ns) ∧
  (∀ n f mt ns (s : State), (s.canPort n).rx.length < 64 → s.canQueue n f mt ns =
    s.setCan n { s.canPort n with rx := (s.canPort n).rx ++ [slotOf f mt ns (s.canPort n).seq] }) ∧
  (∀ n kind dominant (s : State), exec (.canBusError n kind dominant) s = .next (s.busError n (Fin.val kind + 1) dominant)) ∧
  (∀ n kind dominant (s : State), s.canLive n = false → s.busError n kind dominant = s) ∧
  (∀ n (s : State), s.canState n = 5 → exec (.busOffRecovery n) s = .next (s.canInit n)) ∧
  (∀ n (s : State), s.canState n ≠ 5 → exec (.busOffRecovery n) s = .next s) ∧
  (∀ n (s : State), s.canTiming n 0xD = 1 → s.canState n = 6 → exec (.protocolException n) s = .next (s.canCount n 0x10)) ∧
  (∀ n (s : State), s.canTiming n 0xD ≠ 1 → exec (.protocolException n) s = .next (s.busError n 2 false)) ∧
  (∀ n (s : State), s.canLive n = true → exec (.canDominantTimeout n) s = .next (s.canEvent n 5 contained [])) ∧
  (∀ n (s : State), s.canLive n = false → exec (.canDominantTimeout n) s = .next s) ∧
  (∀ rq n value r (s : State), s.checkWrite rq (objKey (0x4000 + Fin.val n) 7) value = .ok → s.bench = false →
    exec (.canRestart rq n value r) s =
      .next (s.accepted rq (objKey (0x4000 + n.val) 7) value fun _ t => canRestartFx n r t)) ∧
  (∀ rq n value r (s : State), s.checkWrite rq (objKey (0x4000 + Fin.val n) 1) value = .ok → s.bench = false →
    exec (.canEnable rq n value r) s = .next (s.accepted rq (objKey (0x4000 + n.val) 1) value (canEnableFx n r))) ∧
  (∀ n r (s : State), s.canState n = 0 → canRestartFx n r s = s.updCan n fun p => { p with forced := false, busOffs := [] }) ∧
  (∀ n (s : State), s.isolated (8 + Fin.val n) = true → s.canInit n = s.canOff n)

/-- The SDO server (R55 to R57). Which result a wrong toggle bit and a missing transfer keep is a reading (log entry 56), and no clause
here rests on it beyond the abort code. -/
def Obligations.SdoServer : Prop :=
  (∀ n b (s : State), (leAt b 0 1).testBit 1 = true → (leAt b 0 1).testBit 0 = true → exec (.sdoInitiateDownload n b) s = .next (
    let t := s.sdoClose n
    let value := (b.drop 4).take (4 - leAt b 0 1 / 4 % 4)
    let r := t.writeObject (t.sdoRequester n) (sdoKey b) value
    (r.1.answerWrite (t.sdoRequester n) 0x60 (sdoKey b) r.2 value).noteOld t (sdoKey b))) ∧
  (∀ n b (s : State), (leAt b 0 1).testBit 1 = false → (leAt b 0 1).testBit 0 = true →
    exec (.sdoInitiateDownload n b) s = .next ((s.sdoClose n).sdoOpenWrite n (sdoKey b) (some (leAt b 4 4)))) ∧
  (∀ n b x (s : State), s.sdoSession n = some x → x.write = true → x.toggle = (leAt b 0 1).testBit 4 →
    exec (.sdoDownloadSegment n b) s = .next (s.sdoTake n x ((b.drop 1).take (7 - leAt b 0 1 / 2 % 8)) ((leAt b 0 1).testBit 0)
      (0x20 + leAt b 0 1 / 16 % 2 * 16))) ∧
  (∀ n b x (s : State), s.sdoSession n = some x → x.write = true → x.toggle ≠ (leAt b 0 1).testBit 4 →
    exec (.sdoDownloadSegment n b) s = .next ((s.dropSession x).sdoAbort n x.key 0x05030000 Result.range.code)) ∧
  (∀ n b (s : State), s.sdoSession n = none → s.mgmt.restarting = false → exec (.sdoDownloadSegment n b) s = .next (s.sdoFail n 0 .range)) ∧
  (∀ n b v t (s : State), keyIsDom (sdoKey b) = false →
    (s.sdoClose n).readObject ((s.sdoClose n).sdoRequester n) (sdoKey b) 0 = (t, .ok, v) → List.length v ≤ 4 →
    exec (.sdoInitiateUpload n b) s = .next (t.sdoReply n (sdoKey b) (leBytes 1 (0x43 + (4 - v.length) * 4) ++ sdoMux (sdoKey b) ++
      (v ++ List.replicate 4 0).take 4))) ∧
  (∀ n b x (s : State), s.sdoSession n = some x → x.write = false → x.toggle = (leAt b 0 1).testBit 4 → x.data.length ≤ x.accepted + 7 →
    x.accepted ≤ x.data.length →
    exec (.sdoUploadSegment n b) s = .next ((s.closeSession x.number).sdoReply n x.key
      (leBytes 1 (leAt b 0 1 / 16 % 2 * 16 + (7 - (x.data.length - x.accepted)) * 2 + 1) ++
        ((x.data.drop x.accepted) ++ List.replicate 7 0).take 7))) ∧
  (∀ n (s : State), exec (.sdoAbort n) s = .next (s.sdoClose n)) ∧
  (∀ n x (s : State), s.sdoSession n = some x → s.due (.session x.number) = true → exec (.sdoTimeout n) s =
    .next ((((s.disarm (.session x.number)).dropSession x).bump 0x1030 3).sdoFail n x.key .farTimeout)) ∧
  (∀ n (s : State), s.sdoSession n = none → s.sdoClose n = s)

/-- RS-485 slots (R354 to R356, R358, R359). -/
def Obligations.SerialSlots : Prop :=
  (∀ rq n (m : BitVec 32) (s : State), exec (.serTxRequest rq n m) s = .next (s.hwWrite rq (serBase n + 0x4000) (leBytes 4 (BitVec.toNat m))
    fun t => (t.eachSlot m.toNat fun u b => u.requestSlot n (some rq.master) b, .ok))) ∧
  (∀ rq n (m : BitVec 32) (s : State), exec (.serTxCancel rq n m) s = .next (s.hwWrite rq (serBase n + 0x4004) (leBytes 4 (BitVec.toNat m))
    fun t => (t.eachSlot m.toNat fun u b => u.cancelSlot n b, .ok))) ∧
  (∀ rq n (m : BitVec 32) (s : State), exec (.serTxDoneClear rq n m) s = .next (s.hwWrite rq (serBase n + 0x4008) (leBytes 4 (BitVec.toNat m))
    fun t => (t.updSer n fun p => { p with txDone := bitsWithout p.txDone m.toNat }, .ok))) ∧
  (∀ rq n (v : BitVec 32) (s : State), exec (.serRxPop rq n v) s = .next (s.hwWrite rq (serBase n + 0x4020) (leBytes 4 (BitVec.toNat v))
    fun t => if (t.serPort n).rx.length < v.toNat % 64 then (t, .range) else
      (t.setSer n { t.serPort n with rx := (t.serPort n).rx.drop (v.toNat % 64) }, .ok))) ∧
  (∀ n owner (b : Fin 4) (s : State), (s.serPort n).slots[b].status ≠ 1 → (s.serPort n).slots[b].status ≠ 2 →
    0 < (s.serPort n).slots[b].len → (s.serPort n).slots[b].len ≤ 2048 →
    (s.nineBit n = true → (s.serPort n).slots[b].len % 2 = 0) →
    (s.requestSlot n owner b).serPort n = { ((s.serPort n).upd b fun x =>
      { x with status := 1, order := (s.serPort n).next, owner := owner }) with next := (s.serPort n).next + 1 }) ∧
  (∀ n owner (b : Fin 4) (s : State), (s.serPort n).slots[b].status ≠ 1 → (s.serPort n).slots[b].status ≠ 2 →
    ((s.serPort n).slots[b].len = 0 ∨ 2048 < (s.serPort n).slots[b].len ∨
      s.nineBit n = true ∧ (s.serPort n).slots[b].len % 2 = 1) →
    s.requestSlot n owner b =
      (s.updSer n fun p => { p with txInvalid := (p.txInvalid + 1) % 2 ^ 32 }).finishSlot n b 7) ∧
  (∀ n (b : Fin 4) (s : State), (s.serPort n).slots[b].status = 1 → s.cancelSlot n b = s.finishSlot n b 5) ∧
  (∀ n (b : Fin 4) (s : State), (s.serPort n).slots[b].status = 2 →
    s.cancelSlot n b = s.updSer n fun p => p.upd b fun x => { x with cancel := true }) ∧
  (∀ n (b : Fin 4) (s : State), (s.serPort n).slots[b].status ≠ 1 → (s.serPort n).slots[b].status ≠ 2 → s.cancelSlot n b = s) ∧
  (∀ n (b : Fin 4) (p : List Byte) (s : State), p.length < 17 ∨ 2064 < p.length → exec (.serDeliver n b p) s = .next (s.serCount n 0xC)) ∧
  (∀ n (b : Fin 4) (p : List Byte) (s : State), 17 ≤ p.length → p.length ≤ 2064 → s.nineBit n = false →
    (s.serPort n).slots[b].status ≠ 1 → (s.serPort n).slots[b].status ≠ 2 →
    exec (.serDeliver n b p) s = .next (s.updSer n fun q => { (q.upd b fun y =>
      { y with img := leNat (p.drop 16), len := p.length - 16, status := 1, order := q.next, owner := none }) with
      next := q.next + 1 })) ∧
  (∀ n (b : Fin 4) (p : List Byte) (s : State), 17 ≤ p.length → p.length ≤ 2064 → s.nineBit n = false →
    (s.serPort n).slots[b].status = 2 → (s.serPort n).slots[b].shadow = none →
    exec (.serDeliver n b p) s = .next (s.updSer n fun q => q.upd b fun y => { y with shadow := some (p.drop 16) })) ∧
  (∀ n (b : Fin 4) (s : State), s.lineState n = 1 → s.serCfg n 4 = 0 → s.serNext n = some (.slot b) → s.halfDuplex n = false →
    exec (.serTxStart n) s = .next ((s.updSer n fun p =>
      SerPort.upd { p with active := some (.slot b) } b fun x => { x with status := 2, stamp := s.nowNs }).serSettle n)) ∧
  (∀ n (b : Fin 4) t (s : State), s.halfDuplex n = true → t = (s.updSer n fun p => { p with receiving := false }).serSettle n →
    State.halfDuplex t n = true → t.serMaySend n = true → t.serNext n = some (.slot b) →
    exec (.serTxStart n) s = .next ((t.updSer n fun p =>
      SerPort.upd { p with active := some (.slot b) } b fun x => { x with
        status := 2, stamp := t.nowNs + 1000000000 * t.serFrm n 8 / max 1 (t.serFrm n 2) }).serSettle n)) ∧
  (∀ n (s : State), s.halfDuplex n = false → (s.lineState n ≠ 1 ∧ s.lineState n ≠ 2) ∨ s.serCfg n 4 = 1 ∨ s.serNext n = none →
    exec (.serTxStart n) s = .next s) ∧
  (∀ n (b : Fin 4) (s : State), (s.serPort n).active = some (.slot b) → (s.serPort n).slots[b].cancel = false →
    exec (.serTxSent n) s = .next (((((s.drive (.bus (8 + n.val) (s.serPort n).slots[b].bytes)).serCount n 3).updSer n fun p =>
      { p with active := none, trailing := s.halfDuplex n }).finishSlot n b 3).serSettle n)) ∧
  (∀ n (b : Fin 4) k (s : State), (s.serPort n).active = some (.slot b) → s.halfDuplex n = true → s.nineBit n = false →
    exec (.serCollision n k) s = .next ((((((s.drive (.bus (8 + n.val) ((s.serPort n).slots[b].bytes.take (k + 1)))).serCount n 9).raise
      (0x48 + n.val) 2 corrected (packArg [i16 n.val, i16 b.val])).updSer n fun p =>
        { p with active := none, trailing := true }).finishSlot n b
      (if (s.serPort n).slots[b].cancel then 5 else 8)).serSettle n)) ∧
  (∀ n (s : State), (s.serPort n).trailing = true →
    exec (.serDriverRelease n) s = .next ((s.updSer n fun p => { p with trailing := false }).serSettle n))

/-- RS-485 reception (R352, R353). -/
def Obligations.SerialReception : Prop :=
  (∀ n l p f ns (s : State), exec (.serFrameRx n l p f ns) s = .next ((s.serReceive n l p f ns false).serReceived n)) ∧
  (∀ n l p f ns (s : State), exec (.serBreak n l p f ns) s = .next ((s.serReceive n l p f ns true).serReceived n)) ∧
  (∀ n l p f ns brk (s : State), s.serCfg n 1 = 0 → s.serReceive n l p f ns brk = s) ∧
  (∀ n l ns (s : State), s.serCfg n 1 ≠ 0 → s.isolated (16 + n.val) = false → s.lineState n = 1 → s.nineBit n = false →
    s.serFrm n 6 = 0 → s.serCfg n 5 = 1 → List.length l ≤ 8192 → (s.serPort n).rx.length < 32 → (s.serPort n).cutAt ≤ ns →
    ((s.serPort n).rx.map fun r => r.data.length).sum + l.length ≤ 8192 →
    ((s.serReceive n l 0 0 ns false).serPort n).rx = (s.serPort n).rx ++ [⟨serBytes false l, 0, ns⟩] ∧
    ((s.serReceive n l 0 0 ns false).serPort n).seq = ((s.serPort n).seq + 1) % 65536 ∧
    ((s.serReceive n l 0 0 ns false).serPort n).slots = (s.serPort n).slots) ∧
  (∀ n l ns (s : State), s.serCfg n 1 ≠ 0 → s.isolated (16 + n.val) = false → s.lineState n = 1 → s.nineBit n = false →
    s.serFrm n 6 = 0 → s.serCfg n 5 = 1 → List.length l ≤ 8192 → (s.serPort n).rx.length = 32 →
    s.serReceive n l 0 0 ns false = ((((((s.addVal (0x4118 + n.val) 4 0).addVal (0x4118 + n.val) 5 0).serCount n 2).updSer n fun p =>
      { p with seq := (p.seq + 1) % 65536 }).serCount n 7).raise (0x48 + n.val) 1 corrected (packArg [i16 n.val]))) ∧
  (∀ n c l ns (s : State), s.serCfg n 1 ≠ 0 → s.isolated (16 + n.val) = false → s.lineState n = 1 → s.nineBit n = true →
    s.serFrm n 6 = 1 → s.serCfg n 7 ≠ 0xFFFF → (BitVec.toNat (w := 9) c).testBit 8 = false → List.length l < 4096 →
    s.serReceive n (c :: l) 0 0 ns false = ((s.addVal (0x4118 + n.val) 4 0).addVal (0x4118 + n.val) 5 0).serCount n 0xD)

/-- SDCI ports (R361 to R368, R383). -/
def Obligations.SdciPorts : Prop :=
  (∀ n (s : State), s.sdciState n = 6 → s.drives = true → exec (.mSequenceStart n) s = .next
    ((s.setSdci n { s.sdciPort n with taken := some ((s.sdciPort n).pdOut, (s.sdciPort n).outValid && !s.safe) }).drive
      (.bus (16 + n.val) (leBytes (s.sdciStat n 7) (s.sdciPort n).pdOut ++
        [if (s.sdciPort n).outValid && !s.safe then 1#8 else 0#8])))) ∧
  (∀ n (s : State), s.sdciState n = 7 → exec (.mSequenceStart n) s = .next s) ∧
  (∀ n ns b v (s : State), s.sdciState n = 6 → (s.sdciPort n).restart = false → s.sdciSet n 3 = 0 →
    exec (.mSequenceEnd n ns (some (b, v)) none none) s = .next ((s.updSdci n fun p => { p with taken := none }).setSdci n
      { s.sdciPort n with taken := none, pdIn := leNat (b.take (s.sdciStat n 6)), inValid := v, inNs := ns })) ∧
  (∀ n ns q c (s : State), s.sdciState n = 6 → (s.sdciPort n).restart = false → s.endpointOf 3 n.val = none →
    (s.sdciPort n).log.length < 16 →
    Runs (.mSequenceEnd n ns none (some (q, c)) none) s fun t =>
      (t.sdciPort n).log = (s.sdciPort n).log ++ [leNat (leBytes 4 (ns % 1000000000) ++ leBytes 6 (ns / 1000000000) ++
        leBytes 1 (BitVec.toNat q) ++ leBytes 1 0 ++ leBytes 2 (BitVec.toNat c) ++ leBytes 2 0)]) ∧
  (∀ n (p : List Byte) (s : State), s.safe = false → 16 ≤ p.length → beAt p 12 1 = s.sdciStat n 7 → p.length = 16 + s.sdciStat n 7 →
    exec (.pdOutDeliver n p) s = .next ((s.updSdci n fun q =>
      { q with pdOut := leNat (p.drop 16), outValid := (beAt p 11 1).testBit 0 }).syncCq n)) ∧
  (∀ n (p : List Byte) (s : State), s.safe = true ∨ beAt p 12 1 ≠ s.sdciStat n 7 → exec (.pdOutDeliver n p) s = .next (s.sdciCount n 0xF)) ∧
  (∀ rq n (w : BitVec 32) (s : State), exec (.isduCmd rq n w) s = .next (s.hwWrite rq (sdciBase n + 0x100) (leBytes 4 (BitVec.toNat w))
    fun t => t.startIsdu n w.toNat)) ∧
  (∀ n v (s : State), (s.sdciPort n).isdu = 1 → s.startIsdu n v = (s, .inUse)) ∧
  (∀ n v (s : State), (s.sdciPort n).isdu ≠ 1 → s.sdciState n = 6 → v.testBit 7 = false →
    s.startIsdu n v = (((s.drive (.bus (16 + n.val) (beBytes 4 (v - v % 128)))).setSdci n { s.sdciPort n with
      isdu := 1, isduCmd := v - v % 128, isduLen := 0, isduErr := 0 }).arm (.isdu n) (secs 5), .ok)) ∧
  (∀ n e d (s : State), (s.sdciPort n).isdu = 1 → exec (.isduDone n (some e) d) s = .next
    ((s.updSdci n fun p => { p with isdu := 3, isduErr := e.toNat }).disarm (.isdu n))) ∧
  (∀ n (d : List Byte) (s : State), (s.sdciPort n).isdu = 1 → exec (.isduDone n none d) s = .next
    ((s.updSdci n fun p => { p with isdu := 2, isduLen := min 232 d.length, isduData := leNat (d.take 232) }).disarm (.isdu n))) ∧
  (∀ n (s : State), s.due (.isdu n) = true → (s.sdciPort n).isdu = 1 → exec (.isduTimeout n) s = .next
    ((s.disarm (.isdu n)).updSdci n fun p => { p with isdu := 4 })) ∧
  (∀ rq n (w : BitVec 32) (s : State), exec (.evPop rq n w) s = .next (s.hwWrite rq (sdciBase n + 0x504) (leBytes 4 (BitVec.toNat w))
    fun t => t.evPop n w.toNat)) ∧
  (∀ n v (s : State), s.evPop n v = if (s.sdciPort n).log.length < v % 32 then (s, .range) else
    (s.setSdci n { s.sdciPort n with
      log := (s.sdciPort n).log.drop (v % 32)
      read := ((s.sdciPort n).read + v % 32) % 16 }, .ok)) ∧
  (∀ n (s : State), s.sdciState n = 6 → (s.sdciPort n).isdu ≠ 1 → exec (.sdciCommLost n) s = .next
    (((((((s.updSdci n fun p => { p with taken := none, inValid := false }).setSdciStat n 1 7).sdciCount n 0xB).raise
      (0x50 + n.val) 1 contained (packArg [i16 n.val])).masterEvent n 0xFF10)).arm (.sdciRetry n) (secs 1))) ∧
  (∀ n (s : State), s.due (.sdciRetry n) = true → s.sdciState n = 7 →
    exec (.sdciStartupRetry n) s = .next ((s.disarm (.sdciRetry n)).setSdciStat n 1 4)) ∧
  (∀ n t (s : State), (s.sdciPort n).driven = true →
    t = (((((s.updSdci n fun p => { p with trip := true }).sdciStart n).sdciCount n 0xE).raise (0x50 + n.val) 3 contained
      (packArg [i16 n.val])).masterEvent n 0xFF12) →
    exec (.sdciLTrip n) s = .next (State.arm t (.lRetry n) (nsec (t.sdciSet n 4)))) ∧
  (∀ n (s : State), s.due (.lRetry n) = true → s.sdciSet n 1 = 1 → exec (.lRetry n) s = .next
    (((s.disarm (.lRetry n)).updSdci n fun p => { p with trip := false }).sdciStart n)) ∧
  (∀ n (s : State), s.due (.dsUpload n) = true → s.sdciStat n 0xA = 3 → exec (.dsUploadDeferred n) s = .next
    (((s.disarm (.dsUpload n)).updSdci n fun p => { p with dsLast := some s.uptime }).setSdciStat n 0xA 2)) ∧
  (∀ rq n v (s : State), exec (.dsClear rq n v) s = .next (s.objectWrite rq (objKey (0x4210 + n.val) 5) v fun _ t =>
    (((t.updSdci n fun p => { p with ds := none }).setSdciStat n 0xA 0).disarm (.dsUpload n)).noteSave)) ∧
  (∀ n l ns (s : State), s.sdciState n = 2 → s.sdciSet n 3 = 0 → exec (.sioDiChange n l ns) s = .next
    (s.setSdci n { s.sdciPort n with pdIn := if l then 1 else 0, inValid := true, inNs := ns }))

/-- Discrete latches (R250, R370, R371, R376). -/
def Obligations.DiscreteOutputs : Prop :=
  (∀ rq (v : BitVec 32) (s : State), exec (.outImage rq v) s = .next (s.hwWrite rq 0x10300008 (leBytes 4 (BitVec.toNat v))
    fun t => if t.safe then (t, .accessDenied) else (t.writeLatch 0xFFFFFFFF v.toNat v.toNat, .ok))) ∧
  (∀ rq (v : BitVec 32) (s : State), exec (.outSet rq v) s = .next (s.hwWrite rq 0x1030000C (leBytes 4 (BitVec.toNat v))
    fun t => if t.safe then (t, .accessDenied) else (t.writeLatch v.toNat v.toNat v.toNat, .ok))) ∧
  (∀ rq (v : BitVec 32) (s : State), exec (.outClear rq v) s = .next (s.hwWrite rq 0x10300010 (leBytes 4 (BitVec.toNat v))
    fun t => if t.safe then (t, .accessDenied) else (t.writeLatch v.toNat 0 v.toNat, .ok))) ∧
  (∀ mask v ign (i : Nat) (s : State), s.isolated 32 = false → s.turnsNow = [] → (s.writeLatch mask v ign).dio.latch.testBit i =
    if mask.testBit i && s.dioOutputs.testBit i then v.testBit i else s.dio.latch.testBit i) ∧
  (∀ mask v ign (i : Nat) place (s : State), (i, place) ∈ s.turnsNow → 0 < place →
    (s.writeLatch mask v ign).dio.latch.testBit i = s.dio.latch.testBit i) ∧
  (∀ new (s : State), s.isolated 32 = false → (s.setLatch new).dio.driven = (s.setLatch new).dioWanted) ∧
  (∀ new (i : Nat) (s : State), s.isolated 32 = false → s.dio.latch.testBit i = true → Nat.testBit new i = false →
    (s.setLatch new).dio.tripped.testBit i = false ∧ (s.setLatch new).dio.cut.testBit i = false ∧
    (s.setLatch new).dio.testing.testBit i = false) ∧
  (∀ (p : List Byte) (s : State), p.length = 8 → s.safe = false →
    exec (.dioDeliver p) s = .next (s.writeLatch (beAt p 0 4) (beAt p 4 4) (beAt p 0 4))) ∧
  (∀ (p : List Byte) (s : State), p.length = 8 → s.safe = true → exec (.dioDeliver p) s = .next (s.bump 0x4310 0xA)) ∧
  (∀ (p : List Byte) (s : State), p.length ≠ 8 → exec (.dioDeliver p) s = .next
    { s with dio := { s.dio with discards := (s.dio.discards + 1) % 2 ^ 32 } }) ∧
  (∀ (n : Fin 32) at' (s : State), aget s.dio.pulseEnd n.val = some at' → at' ≤ s.nowNs →
    (s.turnsNow.any fun p => p.1 == n.val) = false → exec (.pulseEnd n) s = .next (s.setLatch (putBit s.dio.latch n.val false))) ∧
  (∀ (n : Fin 32) (s : State), aget s.dio.pulseEnd n.val = none → exec (.pulseEnd n) s = .next s) ∧
  (∀ rq n (v : BitVec 32) (s : State), exec (.diagClear rq n v) s = .next
    (s.hwWrite rq (0x10300100 + 4 * Fin.val n) (leBytes 4 (BitVec.toNat v)) fun t =>
      ({ t with dio := { t.dio with diag := t.dio.diag.set (Fin.val n) (bitsWithout t.dio.diag[n] v.toNat) } }, .ok))) ∧
  (∀ rq (v : BitVec 32) (s : State), exec (.dioCapPop rq v) s = .next (s.hwWrite rq 0x10300018 (leBytes 4 (BitVec.toNat v))
    fun t => t.popCaptures (Fin.ofNat 64 (v.toNat % 32)) (bitField v.toNat 12 8))) ∧
  (∀ pin k (s : State), s.popCaptures pin k = if s.tu.caps[pin].recs.length < k then (s, .range) else
    ({ s with
      tu := { s.tu with
        caps := s.tu.caps.set pin { s.tu.caps[pin] with
          recs := s.tu.caps[pin].recs.drop k
          read := (s.tu.caps[pin].read + k) % 16 } } }, .ok)) ∧
  (∀ (n : Fin 32) l (s : State), s.combOff = false → exec (.inputFilterAccept n l) s = .next
    { s with dio := { s.dio with inState := putBit s.dio.inState n.val l, inRaw := putBit s.dio.inRaw n.val l } })

/-- Output protection (R373 to R375, R377 to R379). -/
def Obligations.OutputProtection : Prop :=
  (∀ (n : Fin 32) hot (s : State), s.dio.driven.testBit n.val = true → s.val 0x4308 3 ≠ 0 →
    exec (.dioOvercurrent n hot) s = .next ((
      (State.syncDio { s with dio := { s.dio with tripped := s.dio.tripped ||| 2 ^ n.val } }).arm (.outRetry n)
        (nsec (s.val 0x4308 3))).latchDiag n (if hot then 2 else 1))) ∧
  (∀ (n : Fin 32) hot (s : State), s.dio.driven.testBit n.val = true → s.val 0x4308 3 = 0 →
    exec (.dioOvercurrent n hot) s = .next (
      (State.syncDio { s with dio := { s.dio with tripped := s.dio.tripped ||| 2 ^ n.val } }).latchDiag n (if hot then 2 else 1))) ∧
  (∀ (n : Fin 32) (s : State), s.due (.outRetry n) = true → exec (.outRetry n) s = .next
    (State.syncDio { s.disarm (.outRetry n) with dio := { s.dio with tripped := putBit s.dio.tripped n.val false } })) ∧
  (∀ (n : Fin 32) bit (s : State), Nat.testBit (s.dio.diag[n]) bit = true → s.latchDiag n bit = s) ∧
  (∀ (n : Fin 32) bit t (s : State), Nat.testBit (s.dio.diag[n]) bit = false →
    t = ({ s with dio := { s.dio with diag := s.dio.diag.set n.val (s.dio.diag[n] + 2 ^ bit) } } : State) →
    s.latchDiag n bit = State.raise t 0x58 1 corrected (packArg [i16 n.val, i32 (t.diagWord n)])) ∧
  (∀ (n : Fin 32) (s : State), s.combOff = false → (s.dioMask 7).testBit n.val = true → s.dio.driven.testBit n.val = true →
    exec (.dioDiag n false) s = .next (s.latchDiag n 0)) ∧
  (∀ (n : Fin 32) (s : State), s.combOff = false → s.paired = false → s.dio.latch.testBit n.val = false →
    s.dioOutputs.testBit n.val = true → exec (.dioDiag n true) s = .next (s.latchDiag n 4)) ∧
  (∀ (n : Fin 32) (s : State), (aget s.dio.tested n.val).getD 0 + secs (s.val 0x4308 1) ≤ s.uptime →
    s.dio.testing.testBit n.val = false → s.pulseOk n.val = true → exec (.pulseTestStart n) s = .next
    ((State.syncDio { s with
      dio := { s.dio with
        testing := s.dio.testing ||| 2 ^ n.val
        tested := aput s.dio.tested n.val s.uptime } }).arm (.testEnd n) (nsec (s.val 0x4308 2)))) ∧
  (∀ (n : Fin 32) (s : State), s.dio.reduced = true ∨ s.safe = true ∨ s.paired = true ∨ (aget s.dio.pulseEnd n.val).isSome = true ∨
    s.wagNear n.val = true → exec (.pulseTestStart n) s = .next s) ∧
  (∀ (n : Fin 32) (s : State), s.due (.testEnd n) = true → exec (.pulseTestEnd n true) s = .next
    (State.syncDio { s.disarm (.testEnd n) with dio := { s.dio with testing := putBit s.dio.testing n.val false } })) ∧
  (∀ (n : Fin 32) (s : State), s.due (.testEnd n) = true → exec (.pulseTestEnd n false) s = .next
    (((State.syncDio { s.disarm (.testEnd n) with dio := { s.dio with testing := putBit s.dio.testing n.val false } }).bump
      0x4310 0xC).latchDiag n 6)) ∧
  (∀ (s : State), s.ident.variant ≠ 1 → s.budgetLimit 0 = 2000 ∧ s.budgetLimit 4 = 6000 ∧ s.budgetLimit 5 = 2000 ∧ s.budgetLimit 6 = 2000 ∧
    s.budgetLimit 7 = 12000) ∧
  (∀ (s : State), s.ident.variant = 1 → s.budgetLimit 0 = 1500 ∧ s.budgetLimit 4 = 4500 ∧ s.budgetLimit 5 = 1500 ∧ s.budgetLimit 6 = 1500 ∧
    s.budgetLimit 7 = 9000) ∧
  (∀ k sum (s : State), Fin.val sum ≤ s.budgetLimit k → exec (.budgetCut k sum) s = .next s) ∧
  (∀ k sum m t (s : State), s.combOff = false → s.budgetLimit k < Fin.val sum → s.budgetMember k = some (m, t) →
    exec (.budgetCut k sum) s = .next
    ((State.bump t 0x4310 0xB).raise 0x5A 1 contained (packArg [i16 (Config.budgetNumber k).toNat, i16 m]))) ∧
  (∀ i (s : State), s.budgetMember 4 = some (i, s.cutDio i) ↔ s.dio.driven.testBit i = true ∧ i < 32 ∧
    ∀ j, i < j → j < 32 → s.dio.driven.testBit j = false) ∧
  (∀ (k : Fin 8) i (s : State), k.val < 4 → topBit 32 (s.dio.driven &&& (0xFF * 2 ^ (8 * k.val))) = some i →
    s.budgetMember k = some (i, s.cutDio i)) ∧
  (∀ rq i v (s : State), exec (.supplyOn rq i v) s = .next (s.objectWrite rq (objKey 0x4400 (Fin.val i + 1)) v fun w t =>
    (t.setVal 0x4400 (i.val + 1) w).switchSupply (2 ^ i.val) (w == 1))) ∧
  (∀ (i : Fin 4) (s : State), s.dio.supplyDriven.testBit i.val = true → s.val 0x4400 0xE ≠ 0 →
    Runs (.supplyTrip i) s fun t => t.armed (.supplyRetry i) = true ∧ t.dio.supplyTrip = s.dio.supplyTrip ||| 2 ^ i.val) ∧
  (∀ (i : Fin 4) (s : State), s.due (.supplyRetry i) = true → exec (.supplyRetry i) s = .next
    (State.syncSupply { s.disarm (.supplyRetry i) with
      dio := { s.dio with supplyTrip := putBit s.dio.supplyTrip i.val false } })) ∧
  (∀ (s : State), s.dio.reduced = false → (∀ n : Fin 8, s.sdciCfg n 1 ≠ 1) →
    exec .vinReducedEnter s = .next (((((List.finRange 8).foldl (fun (t : State) n => t.syncL n)
      { s with dio := { s.dio with reduced := true } }).setVal 0x4310 9 1).raise 0x5A 2 corrected (packArg [i16 (Config.reducedArgument true).toNat])))) ∧
  (∀ (s : State), s.dio.reduced = true → exec .vinReducedExit s = .next
    ((((List.finRange 8).foldl State.syncL { s with dio := { s.dio with reduced := false } }).setVal 0x4310 9 0).raise 0x5A 2
      corrected (packArg [i16 (Config.reducedArgument false).toNat]))) ∧
  (∀ (s : State), s.dio.reduced = true → exec .vinReducedEnter s = .next s)

/-- Worker instructions (R393 to R395). `w` is the worker, `i` its instruction. -/
def Obligations.WorkerInstructions : Prop :=
  (∀ n (s : State), s.ready n 0 = true → exec (.workerNop n) s = .next (s.run n false (.did s none))) ∧
  (∀ n w i k (s : State), s.ready n 1 = true → w = s.worker n → i = s.instrAt n → k = shiftBits i → i.testBit 11 = false ∨ k ≤ Worker.count w →
    iField i 13 12 = 0 → exec (.workerOut n) s = .next (s.run n false (.did
      ((s.setWorker n { w with sr := (takeBits (s.wcfg n 6) w.sr k).2, count := w.count - k }).writePins n false (s.wcfg n 7)
        (takeBits (s.wcfg n 6) w.sr k).1 k) none))) ∧
  (∀ n w i k x l (s : State), s.ready n 1 = true → w = s.worker n → i = s.instrAt n → k = shiftBits i → i.testBit 11 = true →
    Worker.count w < k → Worker.txWords w s.nowTick = x :: l → iField i 13 12 = 3 → exec (.workerOut n) s = .next (s.run n false (.did
      (s.setWorker n { w with tx := w.tx.drop 1, sr := (takeBits (s.wcfg n 6) x k).2, count := 32 - k }) none))) ∧
  (∀ n w i (s : State), s.ready n 1 = true → w = s.worker n → i = s.instrAt n → i.testBit 11 = true → Worker.count w < shiftBits i →
    Worker.txWords w s.nowTick = [] → exec (.workerOut n) s = .next (s.beginStall n 4)) ∧
  (∀ n levels w i k (s : State), s.ready n 2 = true → w = s.worker n → i = s.instrAt n → k = shiftBits i → i.testBit 11 = false →
    iField i 13 12 = 0 → exec (.workerIn n levels) s = .next (s.run n false (.did
      (s.setWorker n { w with
        sr := fillBits (s.wcfg n 6) (Worker.sr w) k (gather (s.wcfg n 8) (s.readPins n (BitVec.toNat levels)))
        count := min 32 (w.count + k) }) none))) ∧
  (∀ n levels w i k (s : State), s.ready n 2 = true → w = s.worker n → i = s.instrAt n → k = shiftBits i → i.testBit 11 = true →
    iField i 13 12 = 2 → s.wcfg n 0xA ≤ min 32 (Worker.count w + k) → s.rxRoom n = 0 →
    exec (.workerIn n levels) s = .next ((s.setWorker n { w with
      sr := fillBits (s.wcfg n 6) w.sr k 0
      count := min 32 (w.count + k) }).beginStall n 5)) ∧
  (∀ n x l (s : State), s.ready n 3 = true → (s.worker n).txWords s.nowTick = x :: l → (s.instrAt n).testBit 1 = false →
    exec (.workerPull n) s = .next (s.run n false (.did (s.setWorker n { s.worker n with
      tx := (s.worker n).tx.drop 1, sr := x, count := 32, f := true }) none))) ∧
  (∀ n (s : State), s.ready n 3 = true → (s.worker n).txWords s.nowTick = [] → (s.instrAt n).testBit 0 = true →
    exec (.workerPull n) s = .next (s.beginStall n 2)) ∧
  (∀ n (s : State), s.ready n 3 = true → (s.worker n).txWords s.nowTick = [] → (s.instrAt n).testBit 0 = false → exec (.workerPull n) s = .next
    (s.run n false (.did (s.setWorker n { s.worker n with f := false }) none))) ∧
  (∀ n (s : State), s.ready n 4 = true → s.rxRoom n ≠ 0 → exec (.workerPush n) s = .next (s.run n false (.did
    (s.setWorker n { (s.worker n).addRx s.nowTick ((s.worker n).sr, s.nowNs) with sr := 0, count := 0 }) none))) ∧
  (∀ n (s : State), s.ready n 4 = true → s.rxRoom n = 0 → (s.instrAt n).testBit 0 = false → exec (.workerPush n) s = .next
    (s.run n false (.did ((s.bump (0x5060 + n.val) 7).setWorker n { s.worker n with sr := 0, count := 0 }) none))) ∧
  (∀ n (s : State), s.ready n 5 = true → exec (.workerSet n) s = .next (s.run n false (.did
    (s.writePins n ((s.instrAt n).testBit 13) (s.wcfg n 9) (s.instrAt n % 256) 8) none))) ∧
  (∀ n levels i (s : State), s.ready n 6 = true → i = s.instrAt n → iField i 13 11 = 0 →
    exec (.workerWait n levels) s = .next (
      let t := if (s.readPins n (BitVec.toNat levels)).testBit (i % 32) = i.testBit 5
        then s.run n false (.did s none) else s.beginStall n 1
      if s.wu.ringTicks[clusterOf n] = some s.nowTick then t.tickWorker n else t)) ∧
  (∀ n levels (s : State), s.ready n 6 = true → iField (s.instrAt n) 13 11 = 1 ∨ iField (s.instrAt n) 13 11 = 6 →
    exec (.workerWait n levels) s = .next (
      if s.wu.ringTicks[clusterOf n] = some s.nowTick then (s.beginStall n 1).tickWorker n else s.beginStall n 1)) ∧
  (∀ n i (s : State), s.ready n 7 = true → i = s.instrAt n → iField i 13 11 = 0 → i.testBit 10 = false → exec (.workerCmp n) s = .next
    (s.run n false (.did (s.setWorker n { s.worker n with f := (s.worker n).sr == (s.worker n).cr }) none))) ∧
  (∀ n i (s : State), s.ready n 7 = true → i = s.instrAt n → iField i 13 11 = 4 → i.testBit 10 = false → exec (.workerCmp n) s = .next
    (s.run n false (.did (s.setWorker n { s.worker n with
      cr := ((s.worker n).cr + 0xFFFFFFFF) % 2 ^ 32
      f := ((s.worker n).cr + 0xFFFFFFFF) % 2 ^ 32 != 0 }) none))) ∧
  (∀ n levels i (s : State), s.ready n 8 = true → i = s.instrAt n → iField i 13 11 = 0 →
    exec (.workerJmp n levels) s = .next (s.run n false (.did s (some (i % 32))))) ∧
  (∀ n levels i (s : State), s.ready n 8 = true → i = s.instrAt n → iField i 13 11 = 1 → exec (.workerJmp n levels) s = .next
    (s.run n false (.did s (if (s.worker n).f then some (i % 32) else none)))) ∧
  (∀ n i (s : State), s.ready n 9 = true → i = s.instrAt n → iField i 13 12 = 0 → i.testBit 11 = false → exec (.workerFlag n) s = .next
    (s.run n false (.did (s.setFlagBit n (i % 8) true false) none))) ∧
  (∀ n i (s : State), s.ready n 9 = true → i = s.instrAt n → iField i 13 12 = 1 → i.testBit 11 = true → exec (.workerFlag n) s = .next
    (s.run n false (.did ((s.setFlagBit n (i % 8) false false).raise (0x60 + n.val) 1 corrected
      (packArg [i16 n.val, i16 (i % 8)])) none))) ∧
  (∀ n i (s : State), s.ready n 10 = true → i = s.instrAt n → i.testBit 0 = false → i.testBit 1 = false → s.rxRoom n ≠ 0 →
    exec (.workerStamp n) s = .next (s.run n false (.did
      (s.setWorker n ((s.worker n).addRx s.nowTick (s.nowNs % 1000000000, s.nowNs))) none))) ∧
  (∀ n levels edge x l (s : State), (s.worker n).st = 2 → iField (s.instrAt n) 23 20 = 3 →
    (s.worker n).txWords s.nowTick = x :: l →
    (s.instrAt n).testBit 1 = false → exec (.stallEnd n levels edge) s = .next
    (s.run n true (.did (s.setWorker n { s.worker n with tx := (s.worker n).tx.drop 1, sr := x, count := 32, f := true }) none))) ∧
  (∀ n levels (r : Bool) ns (s : State), (s.worker n).st = 2 → iField (s.instrAt n) 23 20 = 6 → iField (s.instrAt n) 13 11 = 1 →
    r ≠ (s.wcfg n 0xC).testBit (s.instrAt n % 32) → exec (.stallEnd n levels (some (r, ns))) s = .next
      (s.run n true (.did (s.setWorker n { s.worker n with stamp := some ns }) none))) ∧
  (∀ n levels edge (s : State), (s.worker n).st ≠ 2 → exec (.stallEnd n levels edge) s = .next s) ∧
  (∀ n (s : State), (s.worker n).st ≠ 1 ∨ s.nowTick < (s.worker n).edgeTick (s.worker n).edge → exec (.workerNop n) s = .next s) ∧
  (∀ n jump (s : State), s.val (0x5040 + Fin.val n) 2 = 0xFFFF → (s.worker n).pc ≠ s.wcfg n 4 →
    (s.run n false (.did s jump)).worker n = { s.worker n with
      st := 1
      reason := 0
      edge := (s.worker n).edge + iField (s.instrAt n) 19 14 + 1
      pc := jump.getD (((s.worker n).pc + 1) % 32) }) ∧
  (∀ n (s : State), s.val (0x5040 + Fin.val n) 2 = 0xFFFF → (s.worker n).pc = s.wcfg n 4 → s.flipPending n = false →
    ((s.run n false (.did s none)).worker n).pc = s.wcfg n 3)

/-- Worker control (R396 to R398, R404). -/
def Obligations.WorkerControl : Prop :=
  (∀ rq (m : BitVec 32) (s : State), exec (.startMask rq m) s = .next (s.hwWrite rq 0x20020000 (leBytes 4 (BitVec.toNat m))
    fun t => if t.safe then (t, .accessDenied) else (t.eachWorker m.toNat State.startWorker, .ok))) ∧
  (∀ rq (m : BitVec 32) (s : State), exec (.restartMask rq m) s = .next (s.hwWrite rq 0x20020004 (leBytes 4 (BitVec.toNat m))
    fun t => (t.eachWorker m.toNat State.restartWorker, .ok))) ∧
  (∀ rq (m : BitVec 32) (s : State), exec (.stopMask rq m) s = .next (s.hwWrite rq 0x20020008 (leBytes 4 (BitVec.toNat m))
    fun t => (t.eachWorker m.toNat State.stopWorker, .ok))) ∧
  (∀ n (s : State), s.isolated (34 + (clusterOf n).val) = false → s.startedNow n = false → s.flipPending n = false →
    (s.startWorker n).worker n = { s.worker n with
      st := 1
      reason := 0
      pc := s.wcfg n 2
      cr := s.wcfg n 0xE
      f := false
      stamp := none
      base := s.nowTick
      clocks := 0
      edge := 0
      div := s.wcfg n 5
      ahead := false
      startTick := some s.nowTick
      ran := (s.worker n).st == 1 || (s.worker n).st == 2 }) ∧
  (∀ n (s : State), s.isolated (34 + (clusterOf n).val) = true ∨ s.startedNow n = true → s.startWorker n = s) ∧
  (∀ n m (s : State), n ≠ m → s.flipPending n = false →
    (s.startWorker n).worker m = s.worker m) ∧
  (∀ n (s : State), (s.worker n).st = 0 → s.restartWorker n = s) ∧
  (∀ n (s : State), s.flipPending n = false → s.startedNow n = false → (s.worker n).st = 2 →
    (s.stopWorker n).worker n = { s.worker n with st := 0, reason := 0 }) ∧
  (∀ n (s : State), s.due (.workerStall n) = true → (s.worker n).st = 2 → exec (.workerStall n) s = .next
    (((s.disarm (.workerStall n)).bump (0x5060 + n.val) 9).raise (0x60 + n.val) 3 corrected
      (packArg [i16 n.val, i16 (s.worker n).reason, i16 (s.worker n).pc]))) ∧
  (∀ n (s : State), s.due (.workerStall n) = false → exec (.workerStall n) s = .next s) ∧
  (∀ n reason (s : State), s.val (0x5040 + Fin.val n) 4 ≠ 0 →
    s.beginStall n reason = (s.setWorker n { s.worker n with st := 2, reason := reason }).arm (.workerStall n)
      (nsec (s.val (0x5040 + n.val) 4))) ∧
  (∀ c (s : State), s.ringTickNow c = true → exec (.ringTick c) s = .next
    (((List.finRange 32).filter fun n => clusterOf n == c).foldl State.tickWorker (
      let t := s.bump (0x5110 + Fin.val c) 4
      { t with wu := { t.wu with ringTicks := t.wu.ringTicks.set c (some s.nowTick) } }))) ∧
  (∀ n (s : State), (s.worker n).st = 2 → iField (s.instrAt n) 23 20 = 6 → iField (s.instrAt n) 13 11 = 6 →
    s.tickWorker n = (s.setWorker n { (s.worker n).restart s.nowTick with edge := 0 }).complete n
      (iField (s.instrAt n) 19 14) none true)

/-- Worker ports (R399, R401 to R403, R407). -/
def Obligations.WorkerPorts : Prop :=
  (∀ rq n bank (addr : Fin 32) words (s : State), 0 < List.length words → addr.val + words.length ≤ 32 →
    exec (.bankWrite rq n bank addr words) s = .next (s.hwWrite rq
      (0x20000000 + 0x1000 * Fin.val n + 0x80 * Fin.val bank + 4 * addr.val) (words.map fun w => leBytes 4 (BitVec.toNat (w := 32) w)).flatten
      fun t => t.bankWrite n bank.val addr.val (words.map BitVec.toNat))) ∧
  (∀ n bank addr l (s : State), s.wcfg n 1 = bank → s.bankWrite n bank addr l = (s, .inUse)) ∧
  (∀ n bank addr l (s : State), s.wcfg n 1 ≠ bank → (s.group (0x5020 + Fin.val n)).pending = none → l.all instrOk = false →
    s.bankWrite n bank addr l = (s, .range)) ∧
  (∀ n bank addr w (s : State), s.wcfg n 1 ≠ bank → (s.group (0x5020 + Fin.val n)).pending = none → instrOk w = true → bank < 2 → addr < 32 →
    (s.bankWrite n bank addr [w]).2 = .ok ∧ (s.bankWrite n bank addr [w]).1.progWord n bank addr = w) ∧
  (∀ rq n words (s : State), 0 < List.length words → List.length words ≤ 16 →
    exec (.txFifoWrite rq n words) s = .next (s.hwWrite rq (0x20000100 + 0x1000 * Fin.val n)
      (words.map fun w => leBytes 4 (BitVec.toNat (w := 32) w)).flatten fun t => t.txWrite n (words.map BitVec.toNat))) ∧
  (∀ n l (s : State), s.txWrite n l = if s.txRoom n < l.length then (s, .busyRetry) else
    (s.setWorker n ((s.worker n).addTx s.nowTick l), .ok)) ∧
  (∀ rq n k (s : State), exec (.rxFifoRead rq n k) s = .next
    (s.hwRead rq (0x20000104 + 0x1000 * Fin.val n) (4 * k) fun t => t.rxRead n k)) ∧
  (∀ n k (s : State), s.val (0x5040 + Fin.val n) 2 ≠ 0xFFFF → s.rxRead n k = (s, .inUse, [])) ∧
  (∀ n k (s : State), s.val (0x5040 + Fin.val n) 2 = 0xFFFF → 0 < k → k ≤ 16 → s.rxRead n k =
    if ((s.worker n).rxWords s.nowTick).length < k then (s, .busyRetry, []) else
      (s.setWorker n { s.worker n with rx := (s.worker n).rx.drop k }, .ok,
        (((s.worker n).rx.take k).map fun x => leBytes 4 x.1).flatten)) ∧
  (∀ n (p : List Byte) (s : State), p.length % 4 = 0 → p ≠ [] → p.length ≤ 64 → p.length / 4 ≤ s.txRoom n →
    exec (.workerDeliver n p) s = .next (s.setWorker n ((s.worker n).addTx s.nowTick
      ((List.range (p.length / 4)).map fun i => beAt p (4 * i) 4)))) ∧
  (∀ n (p : List Byte) (s : State), p.length % 4 ≠ 0 ∨ p = [] ∨ 64 < p.length ∨ s.txRoom n < p.length / 4 →
    exec (.workerDeliver n p) s = .next (s.bump (0x5060 + n.val) 8)) ∧
  (∀ rq (v : BitVec 32) (s : State), exec (.workerCapPop rq v) s = .next (s.hwWrite rq 0x20032080 (leBytes 4 (BitVec.toNat v))
    fun t => t.popCaptures (Fin.ofNat 64 (32 + v.toNat % 32)) (bitField v.toNat 12 8))) ∧
  (∀ h b ns (s : State), s.flag (0x5120 + Fin.val h) 1 = true → s.val (0x5120 + h.val) 2 = 0 → s.flag (0x5120 + h.val) 3 = false →
    (s.helper h).lastA = none → exec (.helperTransition h true true b false ns) s = .next
    (((s.setHelper h { s.helper h with lastA := some ns }).setVal (0x5120 + h.val) 6
      (ofSigned 32 (toSigned 32 (s.val (0x5120 + h.val) 6) + if b then -1 else 1))).setVal (0x5120 + h.val) 7 (time80 (nsec ns)))) ∧
  (∀ h a b ns (s : State), s.flag (0x5120 + Fin.val h) 1 = true → exec (.helperTransition h true a b true ns) s = .next
    ((s.setHelper h { s.helper h with lastA := some ns }).encoderError h)) ∧
  (∀ h onA a b tog ns (s : State), s.flag (0x5120 + Fin.val h) 1 = false → exec (.helperTransition h onA a b tog ns) s = .next s) ∧
  (∀ h ns (s : State), s.flag (0x5120 + Fin.val h) 1 = true → s.flag (0x5120 + h.val) 5 = true → exec (.helperIndex h ns) s = .next
    ((s.setVal (0x5120 + h.val) 8 (s.val (0x5120 + h.val) 6)).setVal (0x5120 + h.val) 9 (time80 (nsec ns)))) ∧
  (∀ h ns (s : State), s.flag (0x5120 + Fin.val h) 5 = false → exec (.helperIndex h ns) s = .next s)

/-- The safe state (R425, R427 to R430). -/
def Obligations.SafeState : Prop :=
  (∀ cause (s : State), s.safe = true → s.enterSafe cause = s.setVal 0x6000 2 (s.val 0x6000 2 ||| 2 ^ cause)) ∧
  (∀ cause t (s : State), s.safe = false → s.paired = false →
    t = (((((State.dioSafe ((s.setVal 0x6000 2 (s.val 0x6000 2 ||| 2 ^ cause)).wakeTo 0)).setFlag 0x6000 1 true).cansSafe).sersSafe).sdcisSafe).workersSafe.driveFaultN →
    State.paired t = false → s.enterSafe cause =
      ((t.ownPlain 9 contained (packArg [i16 (s.val 0x6000 2 ||| 2 ^ cause)])).2).openShadow safeShadowCodes (msec 10)
        (t.ownPlain 9 contained (packArg [i16 (s.val 0x6000 2 ||| 2 ^ cause)])).1 0) ∧
  (∀ (s : State), exec (.safeNLow .rose) s = .next { s with coll := { s.coll with safeN := true } }) ∧
  (∀ (s : State), exec (.safeNLow .short) s = .next (s.ownEvent 11 contained 0).2) ∧
  (∀ t (s : State), t = (s.ownEvent 11 contained 0).2 →
    exec (.safeNLow .held) s = .next (State.enterSafe { t with coll := { State.coll t with safeN := false } } 1)) ∧
  (∀ rq v (s : State), exec (.safeExit rq v) s = .next (s.objectWrite rq (objKey 0x6000 3) v fun _ t => safeExitFx t)) ∧
  (∀ (s : State), s.safe = false → safeExitFx s = s) ∧
  (∀ (s : State), s.safe = true → s.paired = false → safeExitFx s = s.exitSafe) ∧
  (∀ (s : State), s.safe = false → s.exitSafe = s) ∧
  (∀ t (s : State), s.safe = true → t = ((((s.setVal 0x6000 2 0).setFlag 0x6000 1 false).driveFaultN.cansUnsafe).sersRole).sdcisSafe →
    s.exitSafe = (State.ownEvent t 10 corrected (packArg [i16 (s.val 0x6000 2)])).2) ∧
  (∀ rq v (s : State), exec (.faultClear rq v) s = .next (s.objectWrite rq (objKey 0x6000 5) v fun _ t =>
    ((State.driveFaultN { t with coll := { t.coll with faultLatch := false } }).ownEvent 12 corrected
      (packArg [i32 rq.master.word])).2)) ∧
  (∀ (s : State), exec (.configScrub .clean) s = .next s) ∧
  (∀ copy word (s : State), exec (.configScrub (.fixed copy word)) s = .next (s.ownFull 2 corrected (packArg [i16 (Fin.val copy), i16 word])).2) ∧
  (∀ copy word (s : State), exec (.configScrub (.uncorrectable copy word)) s = .next
    (((((s.setFlag 0x6000 7 true).sendFail 3).enterSafe 3).latchFaultN 0x80).ownFull 3 fatal
      (packArg [i16 (Fin.val copy), i16 word])).2) ∧
  (∀ word (s : State), exec (.configScrub (.mismatch word)) s = .next
    (((((s.setFlag 0x6000 7 true).sendFail 3).enterSafe 3).latchFaultN 0x80).ownFull 1 fatal (packArg [i16 word])).2)

/-- Messages and reactions (R417, R419 to R423, R431 to R433, R436). -/
def Obligations.MessagesTaken : Prop :=
  (∀ (s : State), s.rcd.starting = false → s.coll.queue = [] → exec .collectorMessage s = .next s) ∧
  (∀ (s : State), s.rcd.starting = true → exec .collectorMessage s = .next s) ∧
  (∀ m l t (s : State), s.rcd.starting = false → s.coll.queue = m :: l → s.coll.overrunRun = 0 →
    t = State.takeMessage { s with coll := { s.coll with queue := l, overrunRun := 0 } } m →
    exec .collectorMessage s = .next { t with rcd := { State.rcd t with early := t.rcd.early - 1 } }) ∧
  (∀ m l t (s : State), s.rcd.starting = false → s.coll.queue = m :: l → s.coll.overrunRun ≠ 0 →
    t = State.takeMessage { s with coll := { s.coll with queue := l, overrunRun := 0 } } m →
    exec .collectorMessage s = .next (State.ownFull { t with rcd := { State.rcd t with early := t.rcd.early - 1 } } 4 corrected
      (packArg [i32 s.coll.overrunRun])).2) ∧
  (∀ m x (s : State), (s.noteTaken m).shadowOf (eventCode m.source m.kind) = some x →
    s.takeMessage m = ((((s.noteTaken m).bump 0x6000 0xA).recordMsg m 1 4 x.link)).2) ∧
  (∀ m u mask (s : State), u = s.noteTaken m → mask = State.maskOf u m → u.shadowOf (eventCode m.source m.kind) = none →
    blockOf m.source = none → mask.testBit 6 = false →
    s.takeMessage m = ((((if mask.testBit 8 then u.enterSafe 0 else u).latchFaultN mask).recordMsg m mask
      (if u.escalates m mask then 8 else 0) 0)).2) ∧
  (∀ m b u mask w (s : State), u = s.noteTaken m → mask = State.maskOf u m → u.shadowOf (eventCode m.source m.kind) = none →
    blockOf m.source = some b → mask.testBit 8 = false → mask.testBit 6 = false → mask.testBit 5 = true →
    w = ((u.latchFaultN mask).recordMsg m mask (if u.escalates m mask then 8 else 0) 0) →
    s.takeMessage m = (w.2.wakeTo 0).isolateFor b (eventCode m.source m.kind) w.1) ∧
  (∀ m mask flags link w (s : State), s.admitRecord (eventCode m.source m.kind) m.cls = (true, w) → mask.testBit 0 = true →
    s.recordMsg m mask flags link = ((State.writeRecord w m flags link).1.seq,
      (((w.writeRecord m flags link).2.resolveShadows (eventCode m.source m.kind) (w.writeRecord m flags link).1.seq).interrupts
        mask (w.writeRecord m flags link).1))) ∧
  (∀ m mask flags link w (s : State), s.admitRecord (eventCode m.source m.kind) m.cls = (false, w) →
    s.recordMsg m mask flags link = (0, (State.suppress w (eventCode m.source m.kind)).resolveShadows (eventCode m.source m.kind) 0)) ∧
  (∀ code (s : State), (s.admitRecord code fatal).1 = true) ∧
  (∀ b code seq (s : State), s.isolated b = true → s.isolateFor b code seq = s) ∧
  (∀ b code seq w (s : State), s.isolated b = false → w = s.ownFull 7 contained (packArg [i16 b, i16 code, i32 seq]) →
    s.isolateFor b code seq = (State.isolate w.2 b).openShadow (blockCodes b) (settleTime b) w.1 0) ∧
  (∀ b code seq u w (s : State), (s.recentResets b).length < 2 →
    u = ({ s with coll := { s.coll with
      resets := (s.coll.resets.filter fun (r : Nat × Nat) => s.uptime ≤ r.2 + secs 10) ++ [(b, s.uptime)] } } : State) →
    w = State.ownFull u 6 corrected (packArg [i16 b, i16 code, i32 seq]) →
    s.resetFor b code seq = ((w.2.bump 0x6001 3).resetBlock b).openShadow (blockCodes b) (settleTime b) w.1 0) ∧
  (∀ b code seq u (s : State), 2 ≤ (s.recentResets b).length → b ≠ 7 →
    u = ({ s with coll := { s.coll with
      resets := (s.coll.resets.filter fun (r : Nat × Nat) => s.uptime ≤ r.2 + secs 10) ++ [(b, s.uptime)] } } : State) →
    s.resetFor b code seq =
      (((State.ownFull u 5 fatal (packArg [i16 b, i16 code])).2).bump 0x6000 0xB).isolateFor b code seq) ∧
  (∀ id settled (s : State), s.due (.shadow id) = true → exec (.shadowEnd id settled) s = .next (s.endShadow id)) ∧
  (∀ id (s : State), s.settledShadow id = true → exec (.shadowEnd id true) s = .next (s.endShadow id)) ∧
  (∀ id settled (s : State), s.due (.shadow id) = false → settled = false ∨ s.settledShadow id = false →
    exec (.shadowEnd id settled) s = .next s) ∧
  (∀ id (s : State), ∀ y ∈ (s.endShadow id).coll.shadows, y.id ≠ id) ∧
  (∀ x l (s : State), s.coll.shadows = l ++ [x] → (∀ y ∈ l, y.id ≠ Shadow.id x ∧ y.codes.any x.codes.contains = false) →
    (s.endShadow x.id).coll.shadows = l) ∧
  (∀ rq v (s : State), exec (.release rq v) s = .next (s.objectWrite rq (objKey 0x6001 2) v releaseFx)) ∧
  (∀ b w (s : State), w = State.ownFull { s with coll := { s.coll with resets := s.coll.resets.filter fun r => r.1 != b } } 8 corrected
      (packArg [i16 b]) →
    releaseFx b s = ((w.2.unisolate b).resetBlock b).openShadow (blockCodes b) (settleTime b) w.1 0)

/-- The recorder (R434, R435, R437, R439). -/
def Obligations.Recorder : Prop :=
  (∀ r (s : State), s.rcd.clearing = none → s.rcd.crystal.length < 255 →
    s.storeRec r = { s.bump 0x6010 7 with
      rcd := { s.rcd with
        crystal := s.rcd.crystal ++ [{ r with flags := r.flags + 16 }]
        norCrystal := s.rcd.crystal ++ [{ r with flags := r.flags + 16 }] } }) ∧
  (∀ r (s : State), s.rcd.clearing = none → s.rcd.crystal.length = 255 →
    ((s.storeRec r).rcd.crystal.length = 256) ∧ (s.storeRec r).rcd.headSeq = nextSeqNo s.rcd.headSeq ∧
    (s.storeRec r).rcd.brine.getLast? = some {
      seq := s.rcd.headSeq, time := s.ringTime, code := eventCode 1 2
      flags := corrected + s.unstableBit, arg := 0, suppressed := 0, link := 0 }) ∧
  (∀ r (s : State), s.rcd.crystal.length = 256 → s.storeRec r = s.putBrine r) ∧
  (∀ r (s : State), (s.putBrine r).rcd.brine.getLast? = some r ∧ (s.putBrine r).rcd.crystal = s.rcd.crystal ∧
    (s.putBrine r).rcd.brineCount = s.rcd.brineCount + 1) ∧
  (∀ n, nextSeqNo n = if n = 4294967295 then 1 else n + 1) ∧
  (∀ m flags link (s : State), (s.writeRecord m flags link).1.seq = s.rcd.headSeq ∧
    (s.writeRecord m flags link).1.code = eventCode m.source m.kind ∧
    (s.writeRecord m flags link).1.time = m.time ∧ (s.writeRecord m flags link).1.arg = m.arg) ∧
  (∀ rq v (s : State), exec (.crystalClear rq v) s = .next (s.objectWrite rq (objKey 0x6010 6) v fun _ t => crystalClearFx rq.master t)) ∧
  (∀ m (s : State), s.rcd.clearing = none → s.isLocal m = true →
    crystalClearFx m s = (State.noteUnstable { s with
      rcd := { s.rcd with crystal := [], clearing := some (s.ident.serial, m.num.val) } }).arm .crystalClear (msec 500)) ∧
  (∀ sn num (s : State), s.rcd.clearing = some (sn, num) → exec .crystalClearDone s = .next
    ((((State.noteUnstable { s with rcd := { s.rcd with clearing := none, crystal := [], norCrystal := [] } }).disarm
      .crystalClear).ownRecord 1 (65536 * (sn % 2 ^ 48) + num) true))) ∧
  (∀ (s : State), s.rcd.clearing = none → exec .crystalClearDone s = .next s) ∧
  (∀ (s : State), s.due .brine = true → exec .brineFlush s = .next
    (State.arm { s.disarm .brine with rcd := { s.rcd with norBrine := s.rcd.brine } } .brine (secs 10))) ∧
  (∀ slot (s : State), exec (.recorderEccRecovery slot false) s = .next
    ((State.noteUnstable { s with rcd := { s.rcd with ecc := true } }).raise 1 3 corrected (packArg [i16 (Fin.val slot)]))) ∧
  (∀ slot (s : State), exec (.recorderEccRecovery slot true) s = .next (State.noteUnstable { s with rcd := { s.rcd with ecc := false } }))

/-- Management restarts (R29 to R31, R475). -/
def Obligations.Restarts : Prop :=
  (∀ (pc : BitVec 32) (s : State), exec (.lockstepMismatch pc) s = .next
    (((s.raise 2 3 fatal (packArg [i32 (BitVec.toNat pc)])).sendFail 3).beginRestart 2)) ∧
  (∀ (pc : BitVec 32) (s : State), exec (.watchdog pc) s = .next ((s.raise 2 4 fatal (packArg [i32 (BitVec.toNat pc)])).beginRestart 3)) ∧
  (∀ cause (s : State), (s.beginRestart cause).mgmt.restarting = true ∧ (s.beginRestart cause).mgmt.cause = cause ∧
    (s.beginRestart cause).sessions = [] ∧
    (∀ p ∈ (s.beginRestart cause).groups, p.2.staged = [] ∧ p.2.owner = none)) ∧
  (∀ rq v r (s : State), r = s.writeCore rq (objKey 0x7000 6) v (fun _ t => t) → r.2 = .ok →
    exec (.mgmtRestart rq v) s = .next ((State.answerWrite r.1 rq 2 (objKey 0x7000 6) r.2 v).beginRestart 5)) ∧
  (∀ rq v r (s : State), r = s.writeCore rq (objKey 0x7000 6) v (fun _ t => t) → r.2 ≠ .ok →
    exec (.mgmtRestart rq v) s = .next (State.answerWrite r.1 rq 2 (objKey 0x7000 6) r.2 v)) ∧
  (∀ (s : State), s.mgmt.restarting = false → exec .restartEnd s = .next s) ∧
  (∀ (s : State), (s.val 0x2420 4).testBit 4 = true → exec .restartEnd s = .next s) ∧
  (∀ t u (s : State), s.mgmt.restarting = true → (s.val 0x2420 4).testBit 4 = false → plannedRestart s.mgmt.cause = false →
    t = State.clearSelfFault { s with mgmt := { s.mgmt with restarting := false } } →
    u = State.deliverEvents ((State.startImages (State.fallBack t)).raise 2 2 corrected (packArg [i16 s.mgmt.cause])) →
    (State.settings u).held = false → exec .restartEnd s = .next u) ∧
  (∀ t u (s : State), s.mgmt.restarting = true → (s.val 0x2420 4).testBit 4 = false → plannedRestart s.mgmt.cause = true →
    t = State.clearSelfFault { s with mgmt := { s.mgmt with restarting := false } } → State.armed t .confirm = false →
    u = State.deliverEvents ((State.startImages t).raise 2 2 corrected (packArg [i16 s.mgmt.cause])) →
    (State.settings u).held = false → exec .restartEnd s = .next u)

/-- Dictionary writes (R35, R37, R38, R95). -/
def Obligations.DictionaryWrites : Prop :=
  (∀ rq i j v (s : State), exec (.objectWrite rq i j v) s = .next (s.writeRequest rq (objKey (Fin.val i) (Fin.val j)) v)) ∧
  (∀ rq i sub js v (s : State), clearSubs (Fin.val i) = some (sub, js) →
    exec (.countersClear rq i v) s = .next (s.writeRequest rq (objKey i.val sub) v)) ∧
  (∀ rq key v e (s : State), (commitObjects.contains (key / 256) && key % 256 == 1) = false → s.checkWrite rq key v = e → e ≠ .ok →
    s.writeRequest rq key v = s.turnedAway rq key v e) ∧
  (∀ rq key v r (s : State), (commitObjects.contains (key / 256) && key % 256 == 1) = false → (key = objKey 0x7010 4 → leNat v / 16 ≠ 2) →
    s.checkWrite rq key v = .ok → s.bench = false → objRow? (key / 256) (key % 256) = some r → r.acc ≠ .rws →
    s.writeRequest rq key v = s.accepted rq key v (writeFx rq key)) ∧
  (∀ rq key v r (s : State), (commitObjects.contains (key / 256) && key % 256 == 1) = false → (key = objKey 0x7010 4 → leNat v / 16 ≠ 2) →
    s.checkWrite rq key v = .ok → s.bench = true → key ≠ objKey 0x1001 8 → objRow? (key / 256) (key % 256) = some r → r.acc ≠ .rws →
    s.writeRequest rq key v = s.accepted rq key v (storeFx key)) ∧
  (∀ rq key right (s : State), s.permits rq (objTarget key) right (objOffset key) (objOffset key + 15) = true → s.noteRefusal rq key right = s) ∧
  (∀ rq key right (s : State), s.permits rq (objTarget key) right (objOffset key) (objOffset key + 15) = false →
    s.checkObject rq key right = .accessDenied) ∧
  (∀ rq key right (s : State), s.permits rq (objTarget key) right (objOffset key) (objOffset key + 15) = true → s.mgmt.restarting = true →
    s.checkObject rq key right = .busyRetry) ∧
  (∀ rq key right (s : State), s.permits rq (objTarget key) right (objOffset key) (objOffset key + 15) = true → s.mgmt.restarting = false →
    objBlock? (key / 256) = none → s.checkObject rq key right = .noObject) ∧
  (∀ rq key right (s : State), s.permits rq (objTarget key) right (objOffset key) (objOffset key + 15) = true → s.mgmt.restarting = false →
    (objBlock? (key / 256)).isSome = true → objRow? (key / 256) (key % 256) = none → s.checkObject rq key right = .noSub) ∧
  (∀ rq key v r (s : State), s.checkObject rq key (writeRight key) = .ok → objRow? (key / 256) (key % 256) = some r →
    r.acc = .ro ∨ r.acc = .const → s.checkWrite rq key v = .readOnly) ∧
  (∀ rq key v r (s : State), s.checkObject rq key (writeRight key) = .ok → objRow? (key / 256) (key % 256) = some r →
    r.acc = .rw → s.roleCheck rq key = .ok → lengthOk r.ty (List.length v) = false → s.checkWrite rq key v = .typeLength) ∧
  (∀ rq key v r (s : State), s.checkObject rq key (writeRight key) = .ok → objRow? (key / 256) (key % 256) = some r →
    r.acc = .rw → s.roleCheck rq key = .ok → lengthOk r.ty (List.length v) = true → r.range.holds (valueOf r.ty v) = false →
    s.checkWrite rq key v = .range) ∧
  (∀ key v rq (s : State), portFx (key / 256) (key % 256) v s = none → ((clearSubs (key / 256)).any fun c => c.1 == key % 256) = false →
    key = objKey 0x1001 7 → writeFx rq key v s = (s.setVal 0x1001 7 v).pump) ∧
  (∀ (s : State), (countersClearFx 0x4310 s).val 0x4310 0xA = 0 ∧ (countersClearFx 0x4310 s).val 0x4310 0xB = 0 ∧
    (countersClearFx 0x4310 s).val 0x4310 0xC = 0 ∧ (countersClearFx 0x4310 s).val 0x4310 9 = s.val 0x4310 9)

/-- Commit groups (R45 to R49). -/
def Obligations.CommitGroups : Prop :=
  (∀ rq i j v key r g (s : State), key = objKey (Fin.val i) (Fin.val j) →
    (commitObjects.contains (key / 256) && key % 256 == 1) = false → s.checkWrite rq key v = .ok →
    objRow? (key / 256) (key % 256) = some r → r.acc = .rws → groupOf (key / 256) = some g →
    exec (.stagedWrite rq i j v) s =
      .next (((s.stage rq g key (writtenValue key v)).answerWrite rq 2 key .ok v).noteOld s key)) ∧
  (∀ rq g key v (s : State), s.stage rq g key v = (s.setGroup g { s.group g with
    staged := aput (s.group g).staged key v
    owner := some rq.master }).arm (.claim g) (secs 10)) ∧
  (∀ rq g (s : State), (s.group g).pending = none → (s.group g).owner = some rq.master → s.groupCheck rq g = .ok) ∧
  (∀ rq m g (s : State), (s.group g).owner = some m → m ≠ Requester.master rq → s.groupCheck rq g = .inUse) ∧
  (∀ rq g x (s : State), (s.group g).owner = none → (s.group g).pending = some x → s.groupCheck rq g = .stagedPending) ∧
  (∀ g (s : State), s.due (.claim (Fin.val g)) = true → exec (.claimTimeout g) s = .next ((s.disarm (.claim g.val)).discardStaged g.val)) ∧
  (∀ g (s : State), (s.discardStaged g).group g = { s.group g with staged := [], owner := none }) ∧
  (∀ rq g (s : State), exec (.commitDiscard rq g) s = .next (s.writeRequest rq (objKey (Fin.val g) 1) [0#8])) ∧
  (∀ rq g (s : State), exec (.commitAtBoundary rq g) s = .next (s.writeRequest rq (objKey (Fin.val g) 1) [1#8])) ∧
  (∀ rq g (s : State), exec (.commitNow rq g) s = .next (s.writeRequest rq (objKey (Fin.val g) 1) [2#8])) ∧
  (∀ rq g v t (s : State), commitObjects.contains g = true → s.checkWrite rq (objKey g 1) v = .ok → s.commitResult rq.master g (leNat v) = .ok →
    t = (if g = 0x2201 && leNat v != 0 && s.isKeeper && (s.group g).code != 0 then (s.commit g (leNat v)).arm .replan 0
      else s.commit g (leNat v)) → s.writeRequest rq (objKey g 1) v =
      ((if (s.group g).code = 0 then t else State.setGroup t g { t.group g with lastResult := 0 }).answerWrite rq 2 (objKey g 1) .ok
        v).noteOld s (objKey g 1)) ∧
  (∀ rq g v e (s : State), commitObjects.contains g = true → s.checkWrite rq (objKey g 1) v = .ok → s.commitResult rq.master g (leNat v) = e →
    e ≠ .ok → s.writeRequest rq (objKey g 1) v =
      ((if (s.group g).code = 0 then s else s.setGroup g { s.group g with lastResult := e.code }).answerWrite rq 2 (objKey g 1) e
        v).noteOld s (objKey g 1)) ∧
  (∀ m g v (s : State), (s.group g).pending = none → (s.group g).owner = none → s.commitResult m g v = .ok ∧ s.commit g v = s) ∧
  (∀ m o g v (s : State), (s.group g).pending = none → (s.group g).owner = some o → o ≠ m → s.commitResult m g v = .inUse) ∧
  (∀ m g v (s : State), (s.group g).pending = none → (s.group g).owner = some m → v ≠ 0 → s.setOk m g (s.group g).staged = false →
    s.commitResult m g v = .commitInconsistent) ∧
  (∀ m g v x (s : State), (s.group g).pending = some x → v ≠ 2 → s.commitResult m g v = .stagedPending) ∧
  (∀ m g v x (s : State), (s.group g).pending = some x → v = 2 → s.commitResult m g v = .ok ∧ s.commit g v = s.settleGroup g true) ∧
  (∀ g o (s : State), (s.group g).pending = none → (s.group g).owner = some o → s.commit g 0 = s.discardStaged g) ∧
  (∀ g o v (s : State), (s.group g).pending = none → (s.group g).owner = some o → v = 1 ∨ v = 2 →
    s.commit g v = ((s.setGroup g { s.group g with
      staged := []
      owner := none
      pending := some (s.group g).staged }).disarm (.claim g)).settleGroup g (v == 2)) ∧
  (∀ g set (s : State), (s.group g).pending = some set → (set.any fun kv => keyPersistent kv.1) = false →
    s.applySet g = (s.storeSet set).setGroup g { s.group g with
      pending := none
      applyCount := ((s.group g).applyCount + 1) % 2 ^ 32 })

/-- Transfers (R49, R51 to R54, R537). -/
def Obligations.Transfers : Prop :=
  (∀ rq t (s : State), exec (.dictRead rq t) s = .next (s.dictRow rq 1 t)) ∧
  (∀ rq t (s : State), exec (.dictWrite rq t) s = .next (s.dictRow rq 2 t)) ∧
  (∀ rq t (s : State), exec (.segReadInit rq t) s = .next (s.dictRow rq 3 t)) ∧
  (∀ rq t (s : State), exec (.segWriteInit rq t) s = .next (s.dictRow rq 4 t)) ∧
  (∀ rq t (s : State), exec (.segRead rq t) s = .next (s.dictRow rq 5 t)) ∧
  (∀ rq t (s : State), exec (.segWrite rq t) s = .next (s.dictRow rq 6 t)) ∧
  (∀ rq t (s : State), exec (.dictAbort rq t) s = .next (s.dictRow rq 7 t)) ∧
  (∀ rq op t (s : State), rq.via ≠ .usb → s.dictRow rq op t = s.transferOp rq op t) ∧
  (∀ rq op t (s : State), rq.via = .usb → TransferReq.raw t = none → s.dictRow rq op t = s.usbTransfer rq op t) ∧
  (∀ rq op t b (s : State), rq.via = .usb → TransferReq.raw t = some b → s.dictRow rq op t = s.usbBytes rq t.target b) ∧
  (∀ rq op t (s : State), framedOk op t = false → s.transferOp rq op t = s.answerTransfer rq .typeLength
    (transferHeader op 5 (transferKey t) (TransferReq.session t).toNat 0 (TransferReq.pos t).toNat)) ∧
  (∀ rq t r (s : State), framedOk 1 t = true → r = s.readObject rq (transferKey t) (TransferReq.flags t).toNat →
    s.transferOp rq 1 t = State.answerObj r.1 rq 1 (transferKey t) 0 0 r.2.1 r.2.2) ∧
  (∀ rq t (s : State), framedOk 2 t = true → s.transferOp rq 2 t = s.writeRequest rq (transferKey t) t.value) ∧
  (∀ rq t r (s : State), framedOk 6 t = true →
    r = s.segWrite rq (transferKey t) (TransferReq.session t).toNat (TransferReq.pos t).toNat t.value (t.flags.toNat.testBit 0) →
    s.transferOp rq 6 t = State.answerObj r.1 rq 6 (transferKey t) t.session.toNat t.pos.toNat r.2 []) ∧
  (∀ rq key flags (s : State), s.readCheck rq key = .ok → keyIsDom key = true → s.readObject rq key flags = (s, .typeLength, [])) ∧
  (∀ rq key (s : State), s.readCheck rq key = .ok → keyIsDom key = false → (objRow? (key / 256) (key % 256)).any (fun r => r.acc == .const) = false →
    s.readObject rq key 0x40 = (s, .ok, leBytes (keySize key) (objDefault key))) ∧
  (∀ rq key v (s : State), s.readCheck rq key = .ok → keyIsDom key = false → s.stagedView key = some v →
    s.readObject rq key 0x80 = (s, .ok, leBytes (keySize key) v)) ∧
  (∀ rq key (s : State), s.readCheck rq key = .ok → keyIsDom key = false → s.readObject rq key 0 =
    ((s.activeValue key).2, .ok, leBytes (keySize key) (s.activeValue key).1)) ∧
  (∀ rq sdo key flags (s : State), s.readCheck rq key = .ok → keyIsDom key = true → 8 ≤ s.sessions.length →
    s.segReadInit rq sdo key flags = (s, .busyRetry, 0, 0)) ∧
  (∀ rq key n pos len x (s : State), s.readCheck rq key = .ok → s.findSession rq n key false = some x → x.place pos len = .next →
    s.segRead rq key n pos len = (s.putSession { x with
      accepted := pos + (((Session.data x).drop pos).take len).length
      last := some (pos, len) }, .ok, (x.data.drop pos).take len)) ∧
  (∀ rq key n pos len x (s : State), s.readCheck rq key = .ok → s.findSession rq n key false = some x → x.place pos len = .wrong →
    s.segRead rq key n pos len = (s.closeSession n, .range, [])) ∧
  (∀ rq key n pos len (s : State), s.readCheck rq key = .ok → s.findSession rq n key false = none →
    s.segRead rq key n pos len = (s, if keyIsDom key then .range else .typeLength, [])) ∧
  (∀ rq key n pos v last x (s : State), s.segWriteCheck rq key = .ok → s.findSession rq n key true = some x →
    x.place pos (List.length v) = .again → s.segWrite rq key n pos v last = (s.putSession x, .ok)) ∧
  (∀ rq key n pos v x (s : State), s.segWriteCheck rq key = .ok → s.findSession rq n key true = some x →
    x.place pos (List.length v) = .next → pos + v.length ≠ x.total → s.segWrite rq key n pos v true = (s.dropSession x, .typeLength)) ∧
  (∀ rq key n (s : State), s.session n = none → s.checkObject rq key .read = .ok → s.segAbort rq key n = (s, .ok)) ∧
  (∀ rq key n x (s : State), s.session n = some x → s.checkObject rq key (if Session.write x then writeRight key else .read) = .ok →
    x.master ≠ Requester.master rq → s.segAbort rq key n = (s, .range)) ∧
  (∀ rq key n x (s : State), s.session n = some x → s.checkObject rq key (if Session.write x then writeRight key else .read) = .ok →
    x.master = Requester.master rq → x.sdo = none → s.segAbort rq key n = (s.dropSession x, .ok)) ∧
  (∀ n x (s : State), s.session (Fin.val n) = some x → x.sdo = none → s.due (.session n.val) = true →
    exec (.sessionTimeout n) s = .next (((s.disarm (.session n.val)).dropSession x).bump 0x1030 3))

/-- Saves (R40, R42, R43, R60, R113). -/
def Obligations.Saves : Prop :=
  (∀ (s : State), s.due .save = true → s.settings.writing = none → exec .saveStart s = .next ((s.disarm .save).startSave)) ∧
  (∀ (s : State), s.due .save = false → exec .saveStart s = .next s) ∧
  (∀ (s : State), s.mgmt.restarting = false → s.startSave = ({ s.disarm .save with
    settings := { s.settings with writing := some s.persistentSet, again := false, held := false } } : State).setVal 0x1010 1 2) ∧
  (∀ (s : State), s.mgmt.restarting = true → s.startSave = { s.disarm .save with settings := { s.settings with held := true } }) ∧
  (∀ key (s : State), keyPersistent key = true → s.val 0x1010 1 ≠ 2 → s.armed .save = false →
    (s.noteChange key).val 0x1010 1 = 1 ∧ (s.noteChange key).armed .save = true) ∧
  (∀ key (s : State), keyPersistent key = false → s.noteChange key = s) ∧
  (∀ rq v (s : State), exec (.saveNow rq v) s = .next (s.objectWrite rq (objKey 0x1010 5) v fun _ t => saveNowFx t)) ∧
  (∀ (s : State), s.settings.writing = none → saveNowFx s = s.startSave) ∧
  (∀ set (s : State), s.settings.writing = some set → saveNowFx s = { s with settings := { s.settings with again := true } }) ∧
  (∀ ok (s : State), s.settings.writing = none → exec (.saveDone ok none) s = .next s) ∧
  (∀ ok x (s : State), exec (.saveDone ok (some x)) s = .next (s.takeSet (Fin.val (Prod.fst x)) x.2)) ∧
  (∀ set (s : State), s.settings.writing = some set → s.settings.again = false → s.settings.restart = none →
    exec (.saveDone true none) s = .next (State.storeSave { s with settings := { s.settings with writing := none, again := false, restart := none } } set)) ∧
  (∀ set (s : State), s.settings.writing = some set → s.settings.again = false → s.settings.restart = none →
    exec (.saveDone false none) s = .next ((State.setVal
      { s with settings := { s.settings with writing := none, again := false, restart := none } } 0x1010 1 3).raise 6 1 contained
        (packArg [i32 set.seq]))) ∧
  (∀ set cause (s : State), s.settings.writing = some set → s.settings.again = false → s.settings.restart = some (cause, false) →
    exec (.saveDone true none) s = .next ((State.storeSave
      { s with settings := { s.settings with writing := none, again := false, restart := none } } set).beginRestart cause)) ∧
  (∀ rq v (s : State), exec (.restoreDefaults rq v) s = .next (s.objectWrite rq (objKey 0x1010 4) v fun _ t => restoreFx t)) ∧
  (∀ set cause (s : State), s.settings.writing = some set → s.settings.again = true → s.settings.restart = some (cause, true) →
    exec (.saveDone true none) s = .next (
      let t := State.storeSave { s with settings := { s.settings with writing := none, again := false, restart := none } } set
      State.startSave { t with settings := { t.settings with restart := some (cause, false) } })) ∧
  (∀ (s : State), restoreFx s = (State.reconfigure { s with
    objs := s.objs.filter fun kv => !keyPersistent kv.1 || kv.1 == objKey 0x1001 1 } s).startPorts.saveAndRestart 6) ∧
  (∀ rq v (s : State), exec (.releaseNumber rq v) s = .next (s.objectWrite rq (objKey 0x1001 8) v fun _ t => releaseNumberFx t)) ∧
  (∀ (s : State), (releaseNumberFx s).rs.stored = 0 ∧ (releaseNumberFx s).rs.map = {} ∧ (releaseNumberFx s).rs.copies = [] ∧
    (releaseNumberFx s).settings.restart = some (7, s.settings.writing.isSome))

/-- Power states (R471 to R474, R500, R502). -/
def Obligations.PowerStates : Prop :=
  (∀ m t (s : State), t = (State.takeMonitors s m).countPower → State.val t 0x7000 3 ≠ 4 →
    exec (.powerEvaluation m) s = .next ((t.powerWake.powerCheck.noteConditions).powerEnter).showBlockers) ∧
  (∀ m t (s : State), t = (State.takeMonitors s m).countPower → State.val t 0x7000 3 = 4 → exec (.powerEvaluation m) s = .next t) ∧
  (∀ rq v (s : State), exec (.latencyTolerance rq v) s = .next (s.objectWrite rq (objKey 0x7000 1) v fun w t =>
    (t.setVal 0x7000 1 w).powerCheck)) ∧
  (∀ b (s : State), exec (.wake .wake b) s = .next ((s.jtagTake .wake).wakeTo 0)) ∧
  (∀ b (s : State), exec (.wake .bypass b) s = .next ((s.jtagTake .bypass).emit (.tdo 1 0))) ∧
  (∀ b (s : State), exec (.wake .idcode b) s = .next ((s.jtagTake .idcode).emit (.tdo 32 s.idcode))) ∧
  (∀ b (s : State), exec (.wake .samplePreload b) s = .next ((s.jtagTake .samplePreload).jtagShift b)) ∧
  (∀ b (s : State), exec (.wake .extest b) s = .next (((s.jtagTake .extest).jtagShift b).drivePads (padBits b))) ∧
  (∀ b (s : State), exec (.wake .clamp b) s = .next (((s.jtagTake .clamp).emit (.tdo 1 0)).drivePads (padBits s.jtag.boundary))) ∧
  (∀ b (s : State), exec (.wake .highz b) s = .next (((s.jtagTake .highz).emit (.tdo 1 0)).drivePads fun _ => none)) ∧
  (∀ (s : State), s.idcode % 2 ^ 28 = 0x055486B5 ∧ s.idcode / 2 ^ 28 = s.ident.siliconRev / 256 % 16) ∧
  (∀ i (s : State), (s.jtagTake i).jtag.instruction = i ∧ (s.jtagTake i).objs = s.objs ∧ (s.jtagTake i).wu.prog = s.wu.prog) ∧
  (∀ b (s : State), exec (.vbusChange b) s = .next (((s.setFlag 0x7020 4 b).setFlag 0x7020 1 (b && s.usbReady)).powerCheck)) ∧
  (∀ (s : State), s.allowedState = if 2500 ≤ s.val 0x7000 1 then 3 else if 60 ≤ s.val 0x7000 1 then 2 else if 6 ≤ s.val 0x7000 1 then 1 else 0) ∧
  (∀ (s : State), s.val 0x7000 3 = 4 → s.powerCheck = s) ∧
  (∀ (s : State), s.val 0x7000 3 = 1 → s.allowedState = 1 → s.holdsTo 1 = true → s.powerCheck = s.wakeTo 1) ∧
  (∀ (s : State), s.val 0x7000 3 = 3 → s.allowedState = 0 → s.powerCheck = s.wakeTo 0) ∧
  (∀ (s : State), s.val 0x7000 3 = 0 → s.pw.wakeAt = none → s.allowedState = 1 → s.ripe 0 = true → s.powerEnter = s.setPower 1) ∧
  (∀ (s : State), s.val 0x7000 3 = 2 → s.pw.wakeAt = none → s.allowedState = 3 → s.ripe 0 = true → s.ripe 1 = true → s.ripe 2 = true →
    s.powerEnter = s.enterS3) ∧
  (∀ (s : State), s.allowedState = 0 → s.powerEnter = s) ∧
  (∀ t n (s : State), s.pw.wakeAt = some (t, n) → s.uptime < t → s.powerWake = s)

/-- Margin plans and health (R463, R464, R467 to R469). -/
def Obligations.MarginPlans : Prop :=
  (∀ m d (s : State), s.mgmt.restarting = false → s.combOff = false → s.due .plan = true → s.deadline .plan = some d →
    exec (.marginPlan m) s = .next ((s.armRing .plan (d.at_ + secs 86400)).formPlan m true)) ∧
  (∀ m (s : State), s.mgmt.restarting = false → s.combOff = false → s.due .plan = false → s.hm.planDue = true →
    exec (.marginPlan m) s = .next (s.formPlan m false)) ∧
  (∀ m (s : State), s.mgmt.restarting = true ∨ s.combOff = true → exec (.marginPlan m) s = .next s) ∧
  (∀ m daily (s : State), (s.formPlan m daily).hm.planDue = false) ∧
  (∀ rq v (s : State), exec (.planNow rq v) s = .next (s.objectWrite rq (objKey 0x6200 0xB) v fun _ t =>
    { t with hm := { t.hm with planDue := true } })) ∧
  (∀ rq p v (s : State), exec (.baselineReset rq p v) s = .next (s.objectWrite rq (objKey (0x6230 + RingPort.num p) 0xC) v fun _ t =>
    t.updPort p fun e => { e with rebase := true })) ∧
  (∀ d slack (s : State), (s.val 0x6201 2 : Int) ≤ slack → exec (.slackEvent d slack) s = .next s) ∧
  (∀ d (slack : Int) (s : State), slack < (s.val 0x6201 2 : Int) → s.val 0x6200 3 < 900 →
    exec (.slackEvent d slack) s = .next ((planNowFx ((s.setVal 0x6220 (0x21 + Fin.val d) (ofSigned 16 slack)).bump 0x6200 6)).setVal
      0x6200 3 (min 900 (s.val 0x6200 3 + 10)))) ∧
  (∀ d (slack : Int) (s : State), slack < (s.val 0x6201 2 : Int) → 900 ≤ s.val 0x6200 3 →
    exec (.slackEvent d slack) s = .next ((planNowFx ((s.setVal 0x6220 (0x21 + Fin.val d) (ofSigned 16 slack)).bump 0x6200 6)).raise
      4 1 contained (packArg [i16 1, i16 0, i32 (s.val 0x6200 3)]))) ∧
  (∀ i (temp : Int) (s : State), s.hm.hot = false → (s.val 0x6201 3 : Int) * 10 < temp → exec (.thermalHigh i temp) s = .next
    (State.raise { s with hm := { s.hm with hot := true } } 4 3 contained (packArg [i16 (Fin.val i), i16 (ofSigned 16 temp)]))) ∧
  (∀ i temp (s : State), s.hm.hot = true → exec (.thermalHigh i temp) s = .next s) ∧
  (∀ i (temp : Int) (s : State), s.hm.limit = false → 1400 ≤ temp → exec (.thermalLimit i temp) s = .next
    (State.raise { s with hm := { s.hm with limit := true } } 4 4 fatal (packArg [i16 (Fin.val i), i16 (ofSigned 16 temp)]))) ∧
  (∀ i (temp : Int) (s : State), temp < 1400 → exec (.thermalLimit i temp) s = .next s) ∧
  (∀ mv (s : State), s.hm.ripple = false → s.val 0x6201 4 < mv → exec (.rippleHigh mv) s = .next
    ((planNowFx { s with hm := { s.hm with ripple := true, calmSince := none } }).raise 4 5 corrected (packArg [i16 mv]))) ∧
  (∀ mv (s : State), s.hm.ripple = true → exec (.rippleHigh mv) s = .next s)

/-- Hold-up (R380, R437, R470). -/
def Obligations.HoldUp : Prop :=
  (∀ (s : State), s.val 0x7000 3 = 4 → exec .vinLost s = .next s) ∧
  (∀ t u (s : State), s.val 0x7000 3 ≠ 4 → t = (State.syncSupply (State.syncDio { s.sendFail 1 with
      dio := { (s.sendFail 1).dio with fieldOff := true } })).syncLs →
    u = ((((((State.raise t 0x5A 3 contained 0).openShadow vinShadowCodes 0 0 (eventCode 0x5A 3)).disarm
      (.shadow t.coll.nextShadow)).dropDomains).bump 0x6211 6).raise 3 2 contained (packArg [i16 (s.val 0x7000 3)])).enterPower 4 →
    exec .vinLost s = .next { u with
      pw := { State.pw u with before := s.val 0x7000 3, heldAt := u.uptime, since := Vector.replicate 3 none } }) ∧
  (∀ (s : State), s.dio.fieldOff = true → s.dioWanted = 0) ∧
  (∀ (s : State), s.dropDomains.sessions = [] ∧ s.dropDomains.sw.waiting = [] ∧ s.dropDomains.wu.prog = [] ∧ s.dropDomains.wu.pinDir = 0 ∧
    (∀ n : Fin 8, s.dropDomains.can[n] = {}) ∧ (∀ n : Fin 8, s.dropDomains.ser[n] = {})) ∧
  (∀ (s : State), s.val 0x7000 3 ≠ 4 → exec .vinReturn s = .next s) ∧
  (∀ t u v (s : State), s.val 0x7000 3 = 4 →
    t = (s.setPower s.pw.before).raise 3 3 corrected (packArg [i32 (inNs (s.uptime - s.pw.heldAt))]) →
    u = (State.syncSupply (State.syncDio { t with
      dio := { t.dio with fieldOff := false }
      wu := { t.wu with prog := t.savedProg } })).syncLs →
    v = (if (State.host u).pcie && !(State.host u).perst then u.setVal 0x8500 2 2 else u) →
    exec .vinReturn s = .next
      (v.newEpochs ((v.sw.flow.filter fun p => p.2.isDeliver && p.2.lossless).map fun p => p.1)).startFieldPorts.endVinShadow) ∧
  (∀ (s : State), s.val 0x7000 3 = 4 → exec .holdupExpiry s = .next s.powerOff) ∧
  (∀ (s : State), s.val 0x7000 3 ≠ 4 → exec .holdupExpiry s = .next s) ∧
  (∀ (s : State), s.powerOff.rcd.crystal = s.rcd.norCrystal ∧ s.powerOff.rcd.brine = s.rcd.norBrine ∧ s.powerOff.ident = s.ident ∧
    s.powerOff.rs.map = s.rs.map ∧ s.powerOff.settings = s.cutSave ∧
    s.powerOff.alarms = [] ∧ s.powerOff.coll.queue = []) ∧
  (∀ (s : State), s.settings.writing = none → s.cutSave.copyA = s.settings.copyA ∧ s.cutSave.copyB = s.settings.copyB)

/-- Reception of images and channel loads (R484 to R493). The counting of a malformed frame or of one that finds NOR being written is
the model's choice (log entry 51). -/
def Obligations.ImageReception : Prop :=
  (∀ k (s : State), s.up.verifying = some k → exec (.verificationDone .good) s = .next
    (State.raise ((State.setSlot { s with up := { s.up with verifying := none } } k 1 3).setVal 0x7010 2 3) 5 2 corrected
      (packArg [i16 (Fin.val k), i16 (s.slotVal k 2), i32 (s.slotVal k 3)]))) ∧
  (∀ k (s : State), s.up.verifying = some k → exec (.verificationDone .bad) s = .next
    (State.refuseImage { s with up := { s.up with verifying := none } } (some k) 11 (s.slotVal k 2))) ∧
  (∀ k (s : State), s.up.verifying = some k → exec (.verificationDone .revoked) s = .next
    (State.refuseImage { s with up := { s.up with verifying := none } } (some k) 12 (s.slotVal k 2))) ∧
  (∀ o (s : State), s.up.verifying = none → exec (.verificationDone o) s = .next s) ∧
  (∀ k c t (s : State), s.refuseImage (some k) c t = ((((s.setRx none).setVal 0x7010 2 4).setVal 0x7010 3 c).raise 5 1 corrected
    (packArg [i16 c, i16 t])).setSlot k 1 8) ∧
  (∀ repair p (s : State), s.val 0x7014 (if repair = true then 2 else 1) = 0xFFFF → exec (.distributionFrame repair p) s = .next s) ∧
  (∀ repair p (s : State), s.val 0x7014 (if repair = true then 2 else 1) ≠ 0xFFFF → List.length p ≠ 16 + beAt p 12 2 →
    exec (.distributionFrame repair p) s = .next (s.bump 0x7014 5)) ∧
  (∀ repair p n (s : State), s.val 0x7014 (if repair = true then 2 else 1) ≠ 0xFFFF → n = beAt p 12 2 → List.length p = 16 + n →
    beAt p 4 4 % 1024 = 0 → n = min 1024 (beAt p 8 4 - beAt p 4 4) → beAt p 4 4 < beAt p 8 4 → s.up.dist = some (beAt p 0 4) →
    exec (.distributionFrame repair p) s = .next (s.storeSegment (beAt p 4 4) ((p.drop 16).take n))) ∧
  (∀ repair p n (s : State), s.val 0x7014 (if repair = true then 2 else 1) ≠ 0xFFFF → n = beAt p 12 2 → List.length p = 16 + n →
    n = min 1024 (beAt p 8 4) → beAt p 4 4 = 0 → 0 < beAt p 8 4 → s.up.dist ≠ some (beAt p 0 4) → s.up.rx = none →
    exec (.distributionFrame repair p) s = .next (State.storeSegment { (s.beginImage (some (beAt p 0 4)) (beAt p 8 4)).setVal 0x7014 3
        (beAt p 0 4) with
      up := { (s.beginImage (some (beAt p 0 4)) (beAt p 8 4)).up with dist := some (beAt p 0 4) } } 0 ((p.drop 16).take n))) ∧
  (∀ pos d r (s : State), s.up.rx = some r → s.uptime < r.busyUntil → s.storeSegment pos d = s.bump 0x7014 6) ∧
  (∀ pos d r (s : State), s.up.rx = some r → r.busyUntil ≤ s.uptime → ((r.pieces.any fun x => x.1 == pos) = true) → s.storeSegment pos d = s) ∧
  (∀ rq v (s : State), exec (.loadChannels rq v) s = .next (s.objectWrite rq (objKey 0x7010 9) v loadChannelsFx)) ∧
  (∀ mask c (s : State), s.up.channels = [c] → c.typ = s.val 0x7010 0xA → loadChannelsFx mask s = { s with
    up := { s.up with loads := s.up.loads ++ ((List.range 8).filter mask.testBit).map fun n => (c.typ, n, c.version) } }) ∧
  (∀ b (s : State), s.up.loads = [] → exec (.channelLoaded b) s = .next s) ∧
  (∀ b typ n v l (s : State), s.up.loads = (typ, n, v) :: l → s.channelFree typ n = false → exec (.channelLoaded b) s = .next s) ∧
  (∀ typ n v l (s : State), s.up.loads = (typ, n, v) :: l → s.channelFree typ n = true → exec (.channelLoaded true) s = .next
    (State.raise (State.setVal { s with up := { s.up with loads := l } } 0x7013 (channelSub typ n) v) 5 4 corrected
      (packArg [i16 typ, i16 n, i32 v]))) ∧
  (∀ typ n v l (s : State), s.up.loads = (typ, n, v) :: l → s.channelFree typ n = true → exec (.channelLoaded false) s = .next
    (State.raise { s with up := { s.up with loads := l } } 5 6 contained (packArg [i16 typ, i16 n])))

/-- Activation and KIND 3 of USB (R494 to R498, R500). -/
def Obligations.Activation : Prop :=
  (∀ rq k (s : State), exec (.activateSlot rq k) s = .next (s.objectWrite rq (objKey 0x7010 4) (leBytes 1 (0x10 + Fin.val k)) activateFx)) ∧
  (∀ rq k (s : State), exec (.activatePair rq k true) s = .next (s.objectWrite rq (objKey 0x7010 4) (leBytes 1 (0x20 + Fin.val k)) activateFx)) ∧
  (∀ rq k (s : State), s.checkWrite rq (objKey 0x7010 4) (leBytes 1 (0x20 + Fin.val k)) = .ok → exec (.activatePair rq k false) s = .next
    (s.answerWrite rq 2 (objKey 0x7010 4) .imageRefused (leBytes 1 (0x20 + Fin.val k)))) ∧
  (∀ v (s : State), s.ringTime < ofTime80 (s.val 0x7010 5) → activateFx v s = State.armRing { s with up := { s.up with waiting := some v } }
    .activation (ofTime80 (s.val 0x7010 5))) ∧
  (∀ (s : State), ofTime80 (s.val 0x7010 5) ≤ s.ringTime → activateFx 0x10 s = s.activateSlot 0 ∧ activateFx 0x11 s = s.activateSlot 1 ∧
    activateFx 0x20 s = s.startPair 0 ∧ activateFx 0x21 s = s.startPair 1) ∧
  (∀ v (s : State), s.due .activation = true → s.up.waiting = some v → exec .activationTime s = .next
    (State.activate { s.disarm .activation with up := { s.up with waiting := none } } v)) ∧
  (∀ (s : State), s.due .activation = false → exec .activationTime s = .next s) ∧
  (∀ k (s : State), s.slotVal k 1 ≠ 3 → s.activateSlot k = s) ∧
  (∀ k (s : State), s.slotVal k 1 = 3 → s.slotVal k 2 = 0x10 → s.activateSlot k =
    State.beginRestart { s.setSlot k 1 4 with up := { s.up with starts := some k } } 4) ∧
  (∀ k (s : State), s.slotVal k 1 = 3 → s.slotVal k 2 = 0x11 → s.activateSlot k = State.armRing { s.setSlot k 1 4 with
      up := { s.up with phy := some k } } .phyEast (s.ringTime + (s.node - 1) * nsec (s.val 0x7010 8))) ∧
  (∀ k (s : State), s.slotVal k 1 = 3 → s.slotVal k 2 = 0x12 → s.activateSlot k = { s.setSlot k 1 4 with up := { s.up with loader := some k } }) ∧
  (∀ p (s : State), s.isUp p = true → s.phyRetrain p = s.plannedRetrain p ⟨(s.port p).rate, false, 3⟩) ∧
  (∀ p (s : State), s.isUp p = false → s.phyRetrain p = s.updPort p fun e => { e with deferred := e.deferred ++ [⟨e.rate, false, 3⟩] }) ∧
  (∀ (s : State), s.due .phyEast = true → exec .phyStaggerRetrain s = .next ((s.disarm .phyEast).phyRetrain .east)) ∧
  (∀ (s : State), s.due .phyEast = false → exec .phyStaggerRetrain s = .next s) ∧
  (∀ (s : State), s.due .phyWest = true → s.up.phyRuns.2 = none → exec .phyWestRetrain s = .next ((s.disarm .phyWest).phyRetrain .west)) ∧
  (∀ (s : State), s.due .phyWest = false → exec .phyWestRetrain s = .next s) ∧
  (∀ v (s : State), s.due .phyWest = true → s.up.phyRuns.2 = some v → exec .phyWestRetrain s = .next (s.disarm .phyWest)) ∧
  (∀ rq v (s : State), exec (.confirm rq v) s = .next (s.objectWrite rq (objKey 0x7010 6) v fun _ t => t.confirm)) ∧
  (∀ (s : State), s.due .confirm = true → exec .confirmAfter s = .next (s.disarm .confirm).confirm) ∧
  (∀ k (s : State), s.trialSlot = some k → s.up.loaderTrial = none → s.confirm = (s.setSlot k 1 5).disarm .confirm) ∧
  (∀ tag target seq k (s : State), s.flag 0x7020 1 = false → exec (.usbRecorderRead tag target seq k) s = .next s) ∧
  (∀ tag target seq k (s : State), s.flag 0x7020 1 = true → bitField (BitVec.toNat target) 59 47 = 0 → Fin.val k = 0 →
    exec (.usbRecorderRead tag target seq k) s = .next (((s.bump 0x7020 3).emit (.usb 0x81 (beBytes 1 0x83 ++
      beBytes 1 Result.range.code ++ beBytes 2 (Fin.val tag) ++ beBytes 8 (Config.usbTarget tag.val).toNat ++ []))).setVal 0x1020 9 Result.range.code)) ∧
  (∀ tag target seq k (s : State), s.flag 0x7020 1 = true → bitField (BitVec.toNat target) 59 47 = 0 → 0 < Fin.val k → Fin.val k ≤ 63 →
    s.rcd.unstable = false → exec (.usbRecorderRead tag target seq k) s = .next (((s.bump 0x7020 3).emit (.usb 0x81 (beBytes 1 0x83 ++
      beBytes 1 0 ++ beBytes 2 (Fin.val tag) ++ beBytes 8 (Config.usbTarget tag.val).toNat ++ (s.bump 0x7020 3).cursorBytes (BitVec.toNat seq) (Fin.val k)))).setVal
      0x1020 9 0)) ∧
  (∀ tag target seq k (s : State), s.flag 0x7020 1 = true → bitField (BitVec.toNat target) 59 47 ≠ 0 →
    bitField (BitVec.toNat target) 59 47 ≠ s.node ∨ bitField (BitVec.toNat target) 63 60 ≠ s.ring → exec (.usbRecorderRead tag target seq k) s = .next
      (((s.bump 0x7020 3).emit (.usb 0x81 (beBytes 1 0x83 ++ beBytes 1 Result.noTarget.code ++ beBytes 2 (Fin.val tag) ++
        beBytes 8 (Config.usbTarget tag.val).toNat ++ []))).setVal 0x1020 9 Result.noTarget.code))

/-- SDO_LAST_RESULT (R57). -/
def Obligations.SdoLastResult : Prop :=
  (∀ n key abort code (s : State), code < 256 → (s.sdoAbort n key abort code).val 0x1020 (Fin.val n + 1) = code) ∧
  (∀ n m key abort code (s : State), m ≠ n → (s.sdoAbort n key abort code).val 0x1020 (Fin.val m + 1) = s.val 0x1020 (Fin.val m + 1)) ∧
  (∀ n key (e : Result) (s : State), (s.sdoFail n key e).val 0x1020 (Fin.val n + 1) = e.code) ∧
  (∀ e e' : Result, e.code = e'.code → e = e') ∧
  (∀ n b (e : Result) (s : State), (leAt b 0 1).testBit 1 = true → (leAt b 0 1).testBit 0 = true → e ≠ .ok →
    ((s.sdoClose n).writeObject ((s.sdoClose n).sdoRequester n) (sdoKey b) ((b.drop 4).take (4 - leAt b 0 1 / 4 % 4))).2 = e →
    Runs (.sdoInitiateDownload n b) s fun t => t.val 0x1020 (Fin.val n + 1) = e.code) ∧
  (∀ n b (e : Result) (s : State), keyIsDom (sdoKey b) = false → e ≠ .ok →
    ((s.sdoClose n).readObject ((s.sdoClose n).sdoRequester n) (sdoKey b) 0).2.1 = e →
    Runs (.sdoInitiateUpload n b) s fun t => t.val 0x1020 (Fin.val n + 1) = e.code)

/-- Cancellation (R355): statuses 1 PENDING, 2 ACTIVE, 4 SENT_CANCEL_LATE, 5 CANCELLED; CANCELS_LATE is subindex 0xA. -/
def Obligations.SerialCancellation : Prop :=
  (∀ n b (s : State), (s.serPort n).slots[Fin.val b].status = 1 → (s.serPort n).slots[Fin.val b].shadow = none →
    ((s.cancelSlot n b).serPort n).slots[Fin.val b].status = 5) ∧
  (∀ n b (s : State), (s.serPort n).slots[Fin.val b].status = 2 → ((s.cancelSlot n b).serPort n).slots[Fin.val b].status = 2 ∧
    ((s.cancelSlot n b).serPort n).slots[Fin.val b].cancel = true ∧ ((s.cancelSlot n b).serPort n).active = (s.serPort n).active) ∧
  (∀ n b (s : State), (s.serPort n).active = some (.slot b) → (s.serPort n).slots[Fin.val b].cancel = true →
    (s.serPort n).slots[Fin.val b].shadow = none → (s.group (0x4110 + Fin.val n)).pending = none →
    Runs (.serTxSent n) s fun t => (t.serPort n).slots[Fin.val b].status = 4 ∧
      t.val (0x4118 + Fin.val n) 0xA = (s.val (0x4118 + Fin.val n) 0xA + 1) % 2 ^ 32) ∧
  (∀ n b k (s : State), (s.serPort n).active = some (.slot b) → (s.serPort n).slots[Fin.val b].cancel = true →
    (s.serPort n).slots[Fin.val b].shadow = none → s.halfDuplex n = true →
    Runs (.serCollision n k) s fun t => (t.serPort n).slots[Fin.val b].status = 5) ∧
  (∀ n b (s : State), (s.serPort n).slots[Fin.val b].status = 0 → s.cancelSlot n b = s) ∧
  (∀ n b (s : State), 3 ≤ (s.serPort n).slots[Fin.val b].status → s.cancelSlot n b = s)

/-- MGMT_RESTART (R475). -/
def Obligations.RestartByWrite : Prop :=
  (∀ rq (s : State), s.bench = false → s.checkObject rq (objKey 0x7000 6) (writeRight (objKey 0x7000 6)) = .ok →
    exec (.mgmtRestart rq (leBytes 4 0x72657374)) s = .next
      ((s.answerWrite rq 2 (objKey 0x7000 6) .ok (leBytes 4 0x72657374)).beginRestart 5)) ∧
  (∀ cause (s : State), (s.beginRestart cause).mgmt.restarting = true ∧ (s.beginRestart cause).sessions = []) ∧
  (∀ rq (v : BitVec 32) (s : State), s.bench = false → s.checkObject rq (objKey 0x7000 6) (writeRight (objKey 0x7000 6)) = .ok → v ≠ 0x72657374 →
    exec (.mgmtRestart rq (leBytes 4 v.toNat)) s = .next (s.turnedAway rq (objKey 0x7000 6) (leBytes 4 v.toNat) .range))

/-- The step. That an empty queue lets a core tick pass is the model's choice (log entry 1, R212). -/
def Obligations.StepRunsTheFrontCommand : Prop :=
  (∀ c rest (s : State), s.pending = c :: rest → step s = exec c { s with pending := rest }) ∧
  (∀ c (s : State), step { s with pending := c :: s.pending } = exec c s) ∧
  (∀ c (s : State), ∃ t, exec c s = .next t) ∧
  (∀ (s : State), s.pending = [] → step s = .next s.coreTick) ∧
  (∀ (s : State), ((s.timeTick.wag.applies.any fun a => a.time ≤ s.timeTick.nowNs) = false) → s.coreTick = s.timeTick) ∧
  (∀ (s : State), s.wag.applies = [] → s.coreTick = s.timeTick) ∧
  (∀ nbits w (s : State), s.withFetchWord nbits w = s)

/-- After reset. Defaults that the spec does not give are the model's choice (log entries 6 and 7). -/
def Obligations.StateAfterReset : Prop :=
  State.reset.pending = [] ∧ (∀ i j, State.reset.val i j = objDefault (objKey i j)) ∧ State.reset.uptime = 0 ∧
    State.reset.ringTime = 0 ∧ State.reset.alarms = [] ∧ State.reset.sessions = [] ∧ State.reset.coll.queue = [] ∧
    State.reset.rcd.crystal = [] ∧ State.reset.rcd.brine = [] ∧ State.reset.node = 0 ∧ State.reset.safe = false ∧
    State.reset.storeOk = true ∧ queueOk State.reset.coll.queue = true ∧ State.reset.areasOk = true ∧ Goes State.reset

/-- Time (R212): 163,840 units of 2^-16 ns a tick. -/
def Obligations.TimePasses : Prop :=
  (∀ n (s : State), s.pending = [] → s.wag.applies = [] → ∃ t, steps n s = some t ∧ State.uptime t = s.uptime + 163840 * n ∧ s.ringTime ≤ State.ringTime t ∧
    State.pending t = [] ∧ State.objs t = s.objs ∧ State.alarms t = s.alarms ∧ State.coll t = s.coll ∧ State.out t = s.out ∧
    State.sw t = s.sw ∧ State.dio t = s.dio) ∧
  (∀ n (s : State), s.pending = [] → s.wag.applies = [] → s.tu.slew = 0 → s.tu.held = 0 → s.tu.acc = 0 →
    steps n s = some { s with
      uptime := s.uptime + 163840 * n
      ringTime := s.ringTime + 163840 * n })

/-- Header bytes (R8, R81). -/
def Obligations.HeaderRoundTrip : Prop :=
  (∀ h : Header, decodeHeader (BitVec.ofNat 256 (beNat (headerBytes h))) = h) ∧
  (∀ w : BitVec 256, encodeHeader (decodeHeader w) = w) ∧
  (∀ h : Header, (headerBytes h).length = 32) ∧
  (∀ h h' : Header, headerBytes h = headerBytes h' → h = h')

/-- The adjusted trailing CRC (R88). -/
def Obligations.CrcFollowsEveryHop : Prop :=
  ∀ (crc : Nat) (old new : Header) (payload : List Byte),
    adjustCrc crc old new payload.length = frameCrc new payload ↔ crc = frameCrc old payload

/-- The queue (R417) and the areas (R435); flag bit 4 marks a record of CRYSTAL. In the bench state nothing is recorded (R459). -/
def Obligations.MessagesAndRecords : Prop :=
  (∀ (l : List Msg) (m : Msg), queueOk l = true → (∀ x ∈ l, x.time / tickUnits ≤ m.time / tickUnits) → queueOk (insertMsg l m) = true) ∧
  (∀ (l : List Msg) (m x : Msg), x ∈ insertMsg l m ↔ x = m ∨ x ∈ l) ∧
  (∀ (l : List Msg) (m : Msg) (n : Nat), (insertMsg l m).filter (fun x => x.source == n && x != m) = l.filter (fun x => x.source == n && x != m)) ∧
  (∀ source kind cls arg (s : State), s.coll.queue.length ≤ 256 → (s.raise source kind cls arg).coll.queue.length ≤ 256) ∧
  (∀ source kind cls arg (s : State), s.coll.queue.length = 256 → s.val 0x2420 5 ≠ 7 →
    (s.raise source kind cls arg).coll.queue = s.coll.queue ∧
    (s.raise source kind cls arg).val 0x6000 9 = (s.val 0x6000 9 + 1) % 2 ^ 32 ∧
    ∀ i j, objKey i j ≠ objKey 0x6000 9 → (s.raise source kind cls arg).val i j = s.val i j) ∧
  (∀ r (s : State), s.areasOk = true → (s.storeRec r).areasOk = true) ∧
  (∀ r (s : State), s.rcd.crystal <+: (s.storeRec r).rcd.crystal) ∧
  (∀ r (s : State), s.crystalOpen = true → Rec.mk (Rec.seq r) r.time r.code (r.flags + 16) r.arg r.suppressed r.link ∈ (s.storeRec r).rcd.crystal) ∧
  (∀ r (s : State), s.crystalOpen = false → r ∈ (s.storeRec r).rcd.brine ∧ (s.storeRec r).rcd.crystal = s.rcd.crystal) ∧
  (∀ r (s : State), s.crystalOpen = true → s.rcd.crystal.length = 255 → (s.storeRec r).crystalOpen = false)

/-- The object store. -/
def Obligations.ObjectsReadBack : Prop :=
  (∀ set (s : State), rising set = true → (∀ kv ∈ set, (s.storeSet set).val (kv.1 / 256) (kv.1 % 256) = kv.2 % 2 ^ objBits kv.1) ∧
    (∀ k, aget set k = none → (s.storeSet set).val (k / 256) (k % 256) = s.val (k / 256) (k % 256))) ∧
  (∀ set (s : State), s.storeOk = true → (s.storeSet set).storeOk = true) ∧
  (∀ a b : State, a.storeOk = true → b.storeOk = true →
    (∀ k, a.val (k / 256) (k % 256) = b.val (k / 256) (k % 256)) → a.objs = b.objs)

/-- Failed writes (R38, R505). -/
def Obligations.FailedWritesChangeNothing : Prop :=
  (∀ rq i j v e (s : State), rq.via = .window → s.isLocal rq.master = true → commitObjects.contains (Fin.val i) = false →
    s.checkWrite rq (objKey (Fin.val i) (Fin.val j)) v = e → e ≠ .ok →
    s.permits rq (objTarget (objKey i.val j.val)) (writeRight (objKey i.val j.val)) (objOffset (objKey i.val j.val))
      (objOffset (objKey i.val j.val) + 15) = true →
    exec (.objectWrite rq i j v) s = .next (s.answerObj rq 2 (objKey i.val j.val) 0 0 e [])) ∧
  (∀ rq i j v t (s : State), rq.via = .window → s.isLocal rq.master = true → commitObjects.contains (Fin.val i) = false →
    s.permits rq (objTarget (objKey i.val j.val)) (writeRight (objKey i.val j.val)) (objOffset (objKey i.val j.val))
      (objOffset (objKey i.val (Fin.val j)) + 15) = false →
    t = (s.bump (0x7100 + objTarget (objKey i.val j.val)) 0x82).raise (0x090 + objTarget (objKey i.val j.val)) 1 corrected
      (packArg [i16 rq.master.node.val, i16 rq.master.num.val, i32 (objOffset (objKey i.val j.val))]) →
    exec (.objectWrite rq i j v) s = .next (State.answerObj t rq 2 (objKey i.val j.val) 0 0 .accessDenied [])) ∧
  (∀ rq op key e (s : State), rq.via = .window → s.isLocal rq.master = true → e ≠ .ok → s.dictWaits = false →
    s.answerObj rq op key 0 0 e [] = s.emit (.answer rq e [])) ∧
  (∀ rq op key e (s : State), rq.via = .window → s.dictWaits = true → s.answerObj rq op key 0 0 e [] = s.queueAnswer rq op key 0 0 e [])
end

