-- ==== Sys2Proof/Laws/Answers.lean ====
section
/-!
SUPPORT. What answering a dictionary request, raising an event and a core tick can do: answers keep their turn (R536) and change no
object but the kept SDO result (R57); an event changes no object but OVERRUNS (R417); a tick moves the hub's times alone (R212).
-/

namespace Sys2Proof.Machine

/-! ### Answers -/

@[simp] theorem State.objs_queueAnswer (s : State) (rq : Requester) (op key session pos : Nat) (res : Result) (data : List Byte) :
    (s.queueAnswer rq op key session pos res data).objs = s.objs := rfl

@[simp] theorem State.objs_sdoReply (s : State) (n : Fin 8) (key : Nat) (data : List Byte) : (s.sdoReply n key data).objs = s.objs := by
  unfold State.sdoReply; split <;> rfl

/-- The server's abort keeps its result code and changes no other object (R57). -/
theorem State.objs_sdoAbort (s : State) (n : Fin 8) (key abort code : Nat) :
    (s.sdoAbort n key abort code).objs = (s.setVal 0x1020 (n.val + 1) code).objs := by
  unfold State.sdoAbort; exact State.objs_sdoReply ..

/-- While no answer waits, a request is answered on its transport at once. -/
theorem State.answerObj_now (s : State) (rq : Requester) (op key session pos : Nat) (res : Result) (data : List Byte)
    (h : s.dictWaits = false) (hv : ∀ n, rq.via ≠ .sdo n) :
    s.answerObj rq op key session pos res data = s.sayObj rq op key session pos res data := by
  unfold State.answerObj
  cases hq : rq.via <;> simp_all

/-- While one waits, an answer joins those that wait, unless the SDO server gives it, which keeps its turn by itself. -/
theorem State.answerObj_waits (s : State) (rq : Requester) (op key session pos : Nat) (res : Result) (data : List Byte)
    (h : s.dictWaits = true) (hv : ∀ n, rq.via ≠ .sdo n) :
    s.answerObj rq op key session pos res data = s.queueAnswer rq op key session pos res data := by
  unfold State.answerObj
  cases hq : rq.via <;> simp_all

/-! ### Events -/

@[simp] theorem State.objs_raiseVector (s : State) (v : Fin 32) : (s.raiseVector v).objs = s.objs := by
  unfold State.raiseVector; split
  · split <;> rfl
  · rfl

@[simp] theorem State.coll_raiseVector (s : State) (v : Fin 32) : (s.raiseVector v).coll = s.coll := by
  unfold State.raiseVector; split
  · split <;> rfl
  · rfl

/-- An event joins the collector's queue, or is counted in OVERRUNS; nothing is recorded in the bench state (R417, R459). -/
theorem State.coll_raise (s : State) (source kind cls arg : Nat) :
    (s.raise source kind cls arg).coll = if s.val 0x2420 5 = 7 then s.coll else (s.queueMsg source kind cls arg).coll := by
  unfold State.raise; split
  · rfl
  · cases eventVector source kind <;> simp

/-- The objects after an event. -/
theorem State.objs_raise (s : State) (source kind cls arg : Nat) :
    (s.raise source kind cls arg).objs = if s.val 0x2420 5 = 7 then s.objs else (s.queueMsg source kind cls arg).objs := by
  unfold State.raise; split
  · rfl
  · cases eventVector source kind <;> simp

/-- An event with room in the queue changes no object. -/
theorem State.objs_queueMsg_of_room (s : State) (source kind cls arg : Nat) (h : s.coll.queue.length < 256) :
    (s.queueMsg source kind cls arg).objs = s.objs := by
  unfold State.queueMsg; rw [if_pos h]

/-! ### Time -/

@[simp] theorem State.uptime_timeTick (s : State) : s.timeTick.uptime = s.uptime + tickUnits := by
  unfold State.timeTick; dsimp only; split <;> rfl

/-- A tick leaves everything but the two times and the time unit. -/
theorem State.timeTick_frame (s : State) :
    s.timeTick = { s with uptime := s.timeTick.uptime, ringTime := s.timeTick.ringTime, tu := s.timeTick.tu } := by
  unfold State.timeTick; dsimp only; split <;> rfl

/-- A core tick with no mirrored write waiting is a tick of time. -/
theorem State.coreTick_of_none (s : State) (h : s.wag.applies = []) : s.coreTick = s.timeTick := by
  have e : s.timeTick.wag = s.wag := by rw [State.timeTick_frame]
  simp [State.coreTick, e, h]

end Sys2Proof.Machine
end

