-- ==== Sys2Proof/WellFormed.lean ====
section
/-!
DEFINITION. Well-formed commands: bounds that the types of the operands do not say. The meanings of Machine/ take every command,
whether it is well formed or not.
-/

namespace Sys2Proof

/-- Bytes of one request, message or frame: 4,096 at most, the largest host access (R302). -/
def bytesOk (b : List Byte) : Bool := b.length ≤ 4096

/-- A frame that has been received whole: its payload has the LEN of its header, 2,048 at most (R81). -/
def frameOk (f : TakenFrame) : Bool := f.payload.length == f.hdr.len.toNat && f.payload.length ≤ 2048

/-- Margins fit their objects (R94). -/
def marginsOk (m : Margins) : Bool := m.v < 65536 && m.h < 65536

/-- A transfer's value fits the largest payload behind its header of 16 bytes (R51); what no row spells is shorter than a header, or
has an OP of none (R54). -/
def transferOk (t : TransferReq) : Bool :=
  t.value.length ≤ 2032 && match t.raw with
    | some b => b.length ≤ 2044 && (b.length < 12 || beAt b 0 1 = 0 || 7 < beAt b 0 1)
    | none => true

/-- A write on the fabric brings 2,048 payload bytes at most (R81). -/
def askOk (a : FabricAsk) : Bool :=
  match a with
  | .writePosted b | .writeAcked b | .transfer b => b.length ≤ 2048
  | .atomic _ b => b.length ≤ 16
  | .read _ | .fence | .lockAcquire _ _ | .lockRenew _ | .lockRelease _ => true

/-- A CAN frame: 29 identifier bits, a DLC of four bits, 64 data bytes at most (R330). -/
def canOk (f : CanFrame) : Bool := f.id < 2 ^ 29 && f.flags < 32 && f.dlc < 16 && f.data.length ≤ 64

/-- A host access of 4,096 bytes at most. -/
def accessOk (a : HostAccess) : Bool :=
  match a with
  | .read _ => true
  | .write b => b.length ≤ 4096

/-- A settings image lists no object twice (R40). -/
def setOk (x : SavedSet) : Bool := (x.objs.map (·.1)).Nodup && x.seq < 2 ^ 32 && x.release < 2 ^ 32

/-- A full ring has 4,096 positions (ch. 14, step 5). -/
def mapOk (m : RingMap) : Bool := m.positions.length ≤ 4096

/-- Program words of one bank, or words of a FIFO (R390, R402). -/
def wordsOk (w : List (BitVec 32)) : Bool := w.length ≤ 32

/-- Characters of one RS-485 frame as the port stores them (R352). -/
def charsOk (c : List (BitVec 9)) : Bool := c.length ≤ 4096

/-- Measured voltages fit their objects (R479). -/
def monitorsOk (m : Monitors) : Bool := m.vin < 65536 && m.ripple < 65536 && m.ron.toList.all fun r => r < 65536

/-- The command is well formed: every operand is one that the hub can be given. -/
def Instr.wf : Instr → Bool
  | .selfTestDone _ => true
  | .settingsLoadDone _ => true
  | .portEnable _ _ value => bytesOk value
  | .partnerDetected _ => true
  | .detectTimeout _ => true
  | .trainingRetry _ => true
  | .orientIdentity _ _ _ _ _ _ => true
  | .equaliseDone _ ownFull partnerFull ownFallback => marginsOk ownFull && marginsOk partnerFull && marginsOk ownFallback
  | .marginUpdate _ m _ => marginsOk m
  | .margin _ f => frameOk f
  | .fallbackHoldExpiry _ => true
  | .retrainReq _ f => frameOk f
  | .retrainAck _ f => frameOk f
  | .fastRetrainStart _ => true
  | .fastRetrainDone _ margins => margins.all fun x => marginsOk x.1 && marginsOk x.2
  | .retrainFast _ _ => true
  | .retrainFull _ _ => true
  | .maxRate _ _ value => bytesOk value
  | .deferredRetrain _ => true
  | .linkLoss _ => true
  | .disable _ f => frameOk f
  | .neighbourSend _ => true
  | .neighbour _ f => frameOk f
  | .delayReqSend _ => true
  | .delayReq _ f => frameOk f
  | .delayResp _ f => frameOk f
  | .delayRespTimeout _ => true
  | .ringFrameRx _ _ _ => true
  | .endOfFrame _ payload _ _ => bytesOk payload
  | .frameOriginate _ _ _ payload _ _ => bytesOk payload
  | .egressSelect _ => true
  | .localOutputDequeue _ => true
  | .holdDeadline _ => true
  | .resyncIdle _ => true
  | .residenceDiscard _ _ => true
  | .flowTableWrite _ _ _ _ _ _ => true
  | .retirementEnd _ => true
  | .credit _ f => frameOk f
  | .creditIntervalExpiry _ => true
  | .creditRefresh _ => true
  | .creditStall _ => true
  | .hopReportRepeat _ => true
  | .hopReport _ f => frameOk f
  | .elect _ f => frameOk f
  | .keeperAnnounce _ f => frameOk f
  | .mirrorCopyDone map copies _ _ => mapOk map && (copies.all fun x => setOk x.2)
  | .keeperPriority _ value => bytesOk value
  | .blLinkTraining _ _ => true
  | .blLinkLoss _ => true
  | .heartbeat payload => bytesOk payload
  | .failFrame payload => bytesOk payload
  | .pairProbe _ f => frameOk f
  | .probeAnswer _ f => frameOk f
  | .mirror payload => bytesOk payload
  | .mirrorAck payload => bytesOk payload
  | .mirrorTimeout _ => true
  | .digest payload => bytesOk payload
  | .swapWrite _ value => bytesOk value
  | .swapMessage payload => bytesOk payload
  | .swapVerifyEnd _ _ => true
  | .rejoin _ value => bytesOk value
  | .safeFrame payload => bytesOk payload
  | .testOffEnd _ => true
  | .stuckChannelCut _ => true
  | .cycleMark _ f => frameOk f
  | .promotion _ _ => true
  | .wheelSlot _ => true
  | .planDecision _ => true
  | .sync _ f => frameOk f
  | .hostOffset _ value => bytesOk value
  | .setTime _ value => bytesOk value
  | .todNext _ value => bytesOk value
  | .ppsInEdge _ _ => true
  | .captureEdge _ _ _ => true
  | .waggleTableWrite _ _ _ => true
  | .waggleControlWrite _ _ _ => true
  | .waggleFreeze _ => true
  | .waggleDio _ => true
  | .waggleWorker _ => true
  | .waggleSend _ => true
  | .waggleSnapshot _ => true
  | .waggleArmOther _ => true
  | .waggleSupply _ => true
  | .pulseEnd _ => true
  | .reportPop _ value => bytesOk value
  | .axis _ f => frameOk f
  | .axisStale _ => true
  | .preset _ _ value => bytesOk value
  | .readReq f => frameOk f
  | .writePosted f => frameOk f
  | .writeAcked f => frameOk f
  | .compareSwap f => frameOk f
  | .fetchAdd f => frameOk f
  | .fence f => frameOk f
  | .readResp f => frameOk f
  | .requestIssue _ _ _ _ a => askOk a
  | .reqTimeout _ _ => true
  | .errnote f => frameOk f
  | .farLogPop _ value => bytesOk value
  | .lockAcquire _ _ _ _ _ => true
  | .lockRenew _ _ => true
  | .lockRelease _ _ => true
  | .lockWaitExpiry _ _ => true
  | .lockExpired _ => true
  | .backoffEnd _ => true
  | .tunnel _ f => frameOk f
  | .replayStart _ => true
  | .tailWrite _ _ => true
  | .txDescriptorFetch _ _ _ payload => bytesOk payload
  | .rxDescriptorWrite _ _ => true
  | .coalesceExpiry _ => true
  | .bar2Read _ _ _ => true
  | .bar2Write _ bytes _ => bytesOk bytes
  | .localPageAccess _ _ _ acc => accessOk acc
  | .hostReset _ => true
  | .dmaFault _ _ => true
  | .canTxRequest _ _ _ => true
  | .canTxCancel _ _ _ => true
  | .canTxDoneClear _ _ _ => true
  | .canRxPop _ _ _ => true
  | .hpRelease _ _ _ => true
  | .canDeliver _ _ payload => bytesOk payload
  | .canIntegrated _ => true
  | .canBusIdle _ => true
  | .canTxStart _ _ => true
  | .canTxSent _ => true
  | .canArbLost _ => true
  | .canFrameRx _ f _ => canOk f
  | .canBusError _ _ _ => true
  | .busOffRecovery _ => true
  | .protocolException _ => true
  | .canDominantTimeout _ => true
  | .canRestart _ _ value _ => bytesOk value
  | .canEnable _ _ value _ => bytesOk value
  | .sdoInitiateDownload _ data => bytesOk data
  | .sdoDownloadSegment _ data => bytesOk data
  | .sdoInitiateUpload _ data => bytesOk data
  | .sdoUploadSegment _ data => bytesOk data
  | .sdoAbort _ => true
  | .sdoTimeout _ => true
  | .serTxRequest _ _ _ => true
  | .serTxCancel _ _ _ => true
  | .serTxDoneClear _ _ _ => true
  | .serRxPop _ _ _ => true
  | .serDeliver _ _ payload => bytesOk payload
  | .serTxStart _ => true
  | .serTxSent _ => true
  | .serCollision _ _ => true
  | .serDriverRelease _ => true
  | .serFrameRx _ chars _ _ _ => charsOk chars
  | .serBreak _ chars _ _ _ => charsOk chars
  | .mSequenceEnd _ _ _ _ _ => true
  | .pdOutDeliver _ payload => bytesOk payload
  | .isduCmd _ _ _ => true
  | .isduDone _ _ data => bytesOk data
  | .isduTimeout _ => true
  | .evPop _ _ _ => true
  | .sdciCommLost _ => true
  | .sdciStartupRetry _ => true
  | .sdciLTrip _ => true
  | .lRetry _ => true
  | .dsUploadDeferred _ => true
  | .dsClear _ _ value => bytesOk value
  | .outImage _ _ => true
  | .outSet _ _ => true
  | .outClear _ _ => true
  | .dioDeliver payload => bytesOk payload
  | .diagClear _ _ _ => true
  | .dioCapPop _ _ => true
  | .inputFilterAccept _ _ => true
  | .dioOvercurrent _ _ => true
  | .outRetry _ => true
  | .dioDiag _ _ => true
  | .pulseTestStart _ => true
  | .pulseTestEnd _ _ => true
  | .budgetCut _ _ => true
  | .supplyOn _ _ value => bytesOk value
  | .supplyTrip _ => true
  | .supplyRetry _ => true
  | .workerNop _ => true
  | .workerOut _ => true
  | .workerIn _ _ => true
  | .workerPull _ => true
  | .workerPush _ => true
  | .workerSet _ => true
  | .workerWait _ _ => true
  | .workerCmp _ => true
  | .workerJmp _ _ => true
  | .workerFlag _ => true
  | .workerStamp _ => true
  | .stallEnd _ _ _ => true
  | .ringTick _ => true
  | .startMask _ _ => true
  | .restartMask _ _ => true
  | .stopMask _ _ => true
  | .workerStall _ => true
  | .bankWrite _ _ _ _ words => wordsOk words
  | .txFifoWrite _ _ words => wordsOk words
  | .rxFifoRead _ _ _ => true
  | .workerDeliver _ payload => bytesOk payload
  | .workerCapPop _ _ => true
  | .helperTransition _ _ _ _ _ _ => true
  | .helperIndex _ _ => true
  | .safeNLow _ => true
  | .safeExit _ value => bytesOk value
  | .faultClear _ value => bytesOk value
  | .configScrub _ => true
  | .shadowEnd _ _ => true
  | .release _ value => bytesOk value
  | .crystalClear _ value => bytesOk value
  | .lockstepMismatch _ => true
  | .watchdog _ => true
  | .mgmtRestart _ value => bytesOk value
  | .dictRead _ t => transferOk t
  | .dictWrite _ t => transferOk t
  | .segReadInit _ t => transferOk t
  | .segWriteInit _ t => transferOk t
  | .segRead _ t => transferOk t
  | .segWrite _ t => transferOk t
  | .dictAbort _ t => transferOk t
  | .sessionTimeout _ => true
  | .objectWrite _ _ _ value => bytesOk value
  | .stagedWrite _ _ _ value => bytesOk value
  | .claimTimeout _ => true
  | .commitDiscard _ _ => true
  | .commitAtBoundary _ _ => true
  | .commitNow _ _ => true
  | .saveNow _ value => bytesOk value
  | .saveDone _ other => other.all fun x => setOk x.2
  | .restoreDefaults _ value => bytesOk value
  | .releaseNumber _ value => bytesOk value
  | .countersClear _ _ value => bytesOk value
  | .keeperQuery _ f => frameOk f
  | .joinReq _ f => frameOk f
  | .joinGrant _ f => frameOk f
  | .settingsPushDone set => setOk set
  | .mapReadDelay map => mapOk map
  | .commission _ value => bytesOk value
  | .mapWrite _ value => bytesOk value
  | .mapUpdate _ f => frameOk f
  | .powerEvaluation m => monitorsOk m
  | .latencyTolerance _ value => bytesOk value
  | .wake _ _ => true
  | .marginPlan _ => true
  | .planNow _ value => bytesOk value
  | .baselineReset _ _ value => bytesOk value
  | .slackEvent _ _ => true
  | .thermalHigh _ _ => true
  | .thermalLimit _ _ => true
  | .rippleHigh _ => true
  | .verificationDone _ => true
  | .distributionFrame _ payload => bytesOk payload
  | .activateSlot _ _ => true
  | .activatePair _ _ _ => true
  | .confirm _ value => bytesOk value
  | .loadChannels _ value => bytesOk value
  | .channelLoaded _ => true
  | .usbRecorderRead _ _ _ _ => true
  | .waggleNone _ => true
  | .vbusChange _ => true
  | .hostLinkUp _ _ => true
  | .blFrameRx _ _ payload _ _ => bytesOk payload
  | .mSequenceStart _ => true
  | .sioDiChange _ _ _ => true
  | .recorderEccRecovery _ _ => true
  | .hostWindowAccess _ _ acc => accessOk acc
  | .powerOn => true
  | .rstN => true
  | .benchPower => true
  | .downHopExpiry => true
  | .electRound2 => true
  | .electionDecision => true
  | .electionRestart => true
  | .keeperAnnounceTimer => true
  | .keeperLossGuardExpiry => true
  | .partnerAbsentTimeout => true
  | .heartbeatSend => true
  | .heartbeatMiss => true
  | .probeTimeout => true
  | .resyncDone => true
  | .mirrorApplyTime => true
  | .autoSwapInterval => true
  | .swapTime => true
  | .testOff => true
  | .cycleBoundary => true
  | .openWindowStart => true
  | .replanTimer => true
  | .holdoverEnter => true
  | .extLost => true
  | .ppsOutEdge => true
  | .vinReducedEnter => true
  | .vinReducedExit => true
  | .vinLost => true
  | .vinReturn => true
  | .holdupExpiry => true
  | .collectorMessage => true
  | .crystalClearDone => true
  | .brineFlush => true
  | .restartEnd => true
  | .saveStart => true
  | .discoveryWait => true
  | .keeperQuerySend => true
  | .joinRetry => true
  | .mapUpdateTimer => true
  | .positionDrop => true
  | .activationTime => true
  | .confirmAfter => true
  | .phyStaggerRetrain => true
  | .phyWestRetrain => true
  | .wholeSecond => true
  | .hostLinkDown => true

end Sys2Proof
end

