-- ==== Sys2Proof/Tests/Slice0.lean ====
section
/-!
SUPPORT. The model's own tests: ill-formed terms that WellFormed refuses, steps on small states, and for every statement of
Obligations.lean states and operands that meet the hypotheses of each of its clauses (`witness_<statement>`, one part per clause
that has hypotheses, in the statement's order).
-/

open Sys2Proof Sys2Proof.Machine

namespace Sys2Proof.Tests

set_option Elab.async false

/-! ### Small states and operands -/

/-- The state after reset of a module with the serial number 100, slot 0 of any cluster. -/
def rst : State := { State.reset with ident := {
  variant := 1, serial := 100, dateCode := 0, siliconRev := 0, fwVersion := 0, loaderVersion := 0, phyVersion := 0,
  fingerprint := 0, clusterId := 0, mirrorVersion := 0 } }

/-- Objects set one after the other: index, subindex, value. -/
def obj (l : List (Nat × Nat × Nat)) (s : State) : State := l.foldl (fun (t : State) x => t.setVal x.1 x.2.1 x.2.2) s

/-- Bytes. -/
def bts (l : List Nat) : List Byte := l.map (BitVec.ofNat 8)

/-- A taken frame of a flow. -/
def frm (flow : Nat) (payload : List Nat) : TakenFrame :=
  { hdr := { Header.zero with flow := BitVec.ofNat 16 flow }, payload := bts payload, stamp := 0 }

/-- Zero bytes, in number. -/
def zeros (n : Nat) : List Nat := List.replicate n 0

/-- A request by master 0 of this hub, which every checker lets pass (R505). -/
def req : Requester := { master := ⟨0, 0, 0⟩, tag := 7, via := .window, cls := 0 }

/-- The same by the USB service port. -/
def reqUsb : Requester := { master := ⟨0, 0, 2⟩, tag := 7, via := .usb, cls := 3 }

/-- Another master's. -/
def reqFar : Requester := { master := ⟨0, 5, 1⟩, tag := 7, via := .window, cls := 0 }

/-- EAST is UP. -/
def upE : State := obj [(0x2000, 4, 4)] rst

/-- Both ring ports are UP. -/
def upEW : State := obj [(0x2001, 4, 4)] upE

/-- A hub with node number 1, both ports UP. -/
def hub1 : State := obj [(0x1001, 2, 1)] upEW

/-- A flow-table entry on the key (ring 0, node, flow), by its words 1 (low half), 2 and 3. -/
def entNo (node flow : Nat) : Nat := 8 * flowBucket 0 node flow
def ent (node flow w1 w2 w3 : Nat) (s : State) : State :=
  s.setFlow (entNo node flow) { w0 := 32768 * node + 1, w1 := 65536 * flow + w1, w2 := w2, w3 := w3 }

/-- The word of a header with its HCRC. -/
def rawOf (h : Header) : BitVec 256 := encodeHeader h.sealed

/-- A DATA frame in class C2 for node 9, as it comes in by EAST; and a HOP_MGMT frame. -/
def dataHdr : Header := { Header.zero with cls := 2, path := 1, hops := 2, dNode := 9, sNode := 5, flow := 0x100 }
def hopHdr : Header := { Header.zero with typ := 0xC, hops := 1, flow := 0xFFFF }

/-- A frame in a queue. -/
def qf : QFrame := { hdr := dataHdr, payload := [] }

/-- A descriptor of a lookup. -/
def dsc : Desc := { entry := 3, version := 1, action := actDeliver, cls := 0, outset := 0, sel := 0, epoch := 0 }

/-- The state with one frame in a class queue of an output. -/
def queued (o : Output) (c : Fin 4) (transit : Bool) (f : QFrame) (s : State) : State :=
  s.updEgress o fun g => if transit then { g with transit := g.transit.set c [f] } else { g with local_ := g.local_.set c [f] }

/-- A frame being received on EAST. -/
def rxOf (raw hdr : Header) : RxFrame := { raw := raw, hdr := hdr, stamp := 0, arrival := 0 }
def receiving (r : RxFrame) (s : State) : State := s.updPort .east fun e => { e with rx := some r }

/-- Board link 0 of a cluster in this mode is formed. -/
def linked (mode : Nat) (s : State) : State :=
  { s with dx := { s.dx with mode := mode, links := s.dx.links.set 0 { s.dx.links[0] with up := true } } }

/-- A gateway of ring 0 whose board link 0 leads to ring 1. -/
def gateway : State :=
  let s := linked 3 hub1
  { s with dx := { s.dx with links := s.dx.links.set 0 { s.dx.links[0] with ring := 1 } } }

/-- A ring management message: MSG, LEN and the bytes from byte 2 on, the sender's serial first (R146). -/
def rmsg (msg len : Nat) (l : List Nat) : TakenFrame := frm 0xFFF4 (([msg, 0] ++ l) ++ zeros (len - 2 - l.length))

/-- A board-link hardware message: its first byte, its length and what follows. -/
def bmsg (msg len : Nat) (l : List Nat) : List Byte := bts (([msg] ++ l) ++ zeros (len - 1 - l.length))

/-- A keeper, and a standby of a formed pair. -/
def keeper : State := obj [(0x1001, 4, 1)] hub1
def standby : State := obj [(0x8110, 1, 2), (0x8110, 2, 1)] (linked 2 hub1)

/-- A change under number 9 that waits for the standby. -/
def mwait : MirrorWait :=
  { number := 9, requester := req, offset := 0x10000000, len := 1, result := .ok, op := 2, data := [] }

/-- An election with these bids. -/
def bids (l : List Bid) (s : State) : State := { s with rs := { s.rs with election := some l } }

/-- A frame of fixed logic, by its type. -/
def tfrm (typ : Nat) (n : Nat) : TakenFrame :=
  { hdr := { Header.zero with typ := BitVec.ofNat 4 typ, tsv := 1, sNode := 5 }, payload := bts (zeros n), stamp := 0 }

/-- A SYNC of a higher TERM than this hub's own. -/
def syncHigh : TakenFrame := { tfrm 0xA 48 with payload := bts (zeros 19 ++ [1] ++ zeros 28) }

/-- The hub's time is good, and one waggle is due at ring time 0. -/
def waggled (st action : Nat) : State :=
  obj [(0x3000, 2, 2)] { rst with wag := { rst.wag with
    entries := [(0, { st := st, due := some 0, words := [16777216 * action] ++ List.replicate 11 0 })] } }

/-- A request that this hub tracks. -/
def pend (typ : Nat) : Pending := { num := 0, tag := 0, via := .window, typ := typ, ring := 0, node := 0, offset := 0, length := 0 }

/-- Bus 0 is under this lock, with these waiters. -/
def locked (h : Ticket) (w : List (Ticket × Nat × Requester)) (s : State) : State :=
  { s with bridge := { s.bridge with buses := s.bridge.buses.set 0 { holder := some (h, 0), waiters := w } } }

/-- The PCI Express link is up, with bus mastering and DMA ring `r` enabled and one descriptor waiting in it. -/
def hosted (r : Fin 8) : State :=
  obj [(0x8500, 2, 3), (0x8500, 4, 1), (0x8530 + r.val, 1, 1)] { rst with host := { rst.host with
    pcie := true, perst := false, rings := rst.host.rings.set r { tail := 1 } } }

/-- Endpoint 0 holds one frame for replay. -/
def replaying (t : Nat) (s : State) : State :=
  { s with bridge := { s.bridge with endpoints := s.bridge.endpoints.set 0 { s.bridge.endpoints[0] with replay := [⟨t, 5, [], []⟩] } } }

/-- CAN, RS-485 and SDCI port 0 in this state. -/
def canp (p : CanPort) (s : State) : State := { s with can := s.can.set 0 p }
def canBuf (x : CanBuf) : CanPort := { bufs := (Vector.replicate 32 {}).set 0 x }
def serp (p : SerPort) (s : State) : State := { s with ser := s.ser.set 0 p }
def serSlot (x : SerSlot) : SerPort := { slots := (Vector.replicate 4 {}).set 0 x }
def sdp (p : SdciPort) (s : State) : State := { s with sdci := s.sdci.set 0 p }

/-- An SDO transfer open on CAN0. -/
def sdoOpen (write toggle : Bool) (data : List Byte) : State :=
  { rst with sessions := [{ number := 1, master := ⟨0, 0, 3⟩, sdo := some 0, write := write, key := 0, total := 9, data := data,
                            accepted := 0, toggle := toggle }] }

/-- Discrete channels in this state. -/
def dios (d : Dio) (s : State) : State := { s with dio := d }

/-- Worker 0 stands at its first instruction, which is this word. -/
def wrk (word : Nat) (w : Worker) (s : State) : State :=
  { s with wu := { s.wu with prog := [(0, word)], workers := s.wu.workers.set 0 w } }

/-- Messages, records, shadows. -/
def msg (source kind cls : Nat) : Msg := { source := source, kind := kind, cls := cls, arg := 0, time := 0 }
def rec0 : Rec := { seq := 1, time := 0, code := 65, flags := 0, arg := 0, suppressed := 0, link := 0 }
def taking (m : Msg) (s : State) : State := { s with coll := { s.coll with queue := [m] } }
def crystals (n : Nat) (s : State) : State := { s with rcd := { s.rcd with crystal := List.replicate n rec0 } }
def resets (l : List (Nat × Nat)) (s : State) : State := { s with coll := { s.coll with resets := l } }

/-- A transfer without data, and an open session of master 0. -/
def tr0 : TransferReq := { flags := 0, index := 0x1001, sub := 5, session := 1, len := 0, pos := 0, value := [] }
def ses (write : Bool) (accepted : Nat) (last : Option (Nat × Nat)) : Session :=
  { number := 1, master := ⟨0, 0, 0⟩, sdo := none, write := write, key := objKey 0x2410 6, total := 9, data := bts (zeros 9),
    accepted := accepted, last := last }
def opened (x : Session) (s : State) : State := { s with sessions := [x] }

/-- A saved set being written. -/
def set0 : SavedSet :=
  { seq := 1, release := 0, objs := [], flow := [], waggles := [], banks := [], node := 0, ringMap := {}, storage := [], crc := 0 }
def saving (restart : Option (Nat × Bool)) (s : State) : State :=
  { s with settings := { s.settings with writing := some set0, restart := restart } }

/-- What the monitors measure. -/
def mon0 : Monitors :=
  { temps := Vector.replicate 6 400, slacks := Vector.replicate 48 500, vin := 24000, ripple := 0, blV := Vector.replicate 3 200,
    blH := Vector.replicate 3 500, ron := Vector.replicate 32 0 }

/-- The update engine in this state. -/
def upd (u : Update) (s : State) : State := { s with up := u }

theorem witness_StartUpSteps :
    (∃ s : State, (s.selfTesting = true) ∧ (s.bench = false)) ∧
    (∃ s : State, (s.val 0x2420 1 = 3) ∧ (s.bench = false) ∧ (s.rcd.starting = false) ∧ (s.rs.map.version = 0) ∧
      (s.coll.safeN = true)) ∧
    (∃ s : State, (s.val 0x2420 1 = 3) ∧ (s.bench = false) ∧ (s.rcd.starting = true)) := by
  refine ⟨⟨(obj [(0x2420, 1, 2)] rst), by decide +kernel⟩,
    ⟨(obj [(0x2420, 1, 3)] rst), by decide +kernel⟩,
    ⟨(obj [(0x2420, 1, 3)] { rst with rcd := { rst.rcd with starting := true } }), by decide +kernel⟩⟩

theorem witness_PortTraining :
    (∃ rq : Requester, ∃ p : RingPort, ∃ value : List Byte, ∃ s : State,
      (s.checkWrite rq (objKey (0x2000 + RingPort.num p) 1) value = .ok) ∧ (s.bench = false)) ∧
    (∃ p : RingPort, ∃ s : State, (s.portIs p .detect = true) ∧ (s.armed (.detect p) = true)) ∧
    (∃ p : RingPort, ∃ s : State, (s.portIs p .detect = false) ∧ (s.portIs p .refused = true) ∧ (s.armed (.detect p) = true)) ∧
    (∃ p : RingPort, ∃ s : State, (s.due (.detect p) = true) ∧ (s.portIs p .refused = false)) ∧
    (∃ p : RingPort, ∃ s : State, (s.due (.detect p) = true) ∧ (s.portIs p .refused = true)) ∧
    (∃ p : RingPort, ∃ s : State, (s.due (.trainRetry p) = true) ∧ (s.portIs p .refused = false)) ∧
    (∃ p : RingPort, ∃ s : State, (s.due (.trainRetry p) = true) ∧ (s.portIs p .refused = true)) ∧
    (∃ p : RingPort, ∃ serial : BitVec 64, ∃ s : State, (s.portIs p .orient = true) ∧ (serial.toNat ≠ s.ident.serial) ∧
      (s.rs.stored = 0)) ∧
    (∃ p : RingPort, ∃ s : State, (s.portIs p .orient = true)) ∧
    (∃ p : RingPort, ∃ own partner : Margins, ∃ s : State, (s.portIs p .equalise = true) ∧ (s.portVal p 2 = 2) ∧
      ((s.port p).partnerRate = .full) ∧ ((s.port p).cap ≠ some .fallback) ∧ (s.portVal p 0xD + 12 ≤ own.v) ∧
      (s.portVal p 0xE + 60 ≤ own.h) ∧ (s.portVal p 0xD + 12 ≤ partner.v) ∧ (s.portVal p 0xE + 60 ≤ partner.h)) ∧
    (∃ p : RingPort, ∃ own partner fallback : Margins, ∃ s : State, (s.portIs p .equalise = true) ∧
      ((s.portVal p 2 ≠ 2 ∨ (s.port p).partnerRate = .fallback ∨ (s.port p).cap = some .fallback ∨ own.v < s.portVal p 0xD + 12 ∨ own.h < s.portVal p 0xE + 60 ∨ partner.v < s.portVal p 0xD + 12 ∨ partner.h < s.portVal p 0xE + 60)) ∧
      (40 ≤ fallback.v) ∧ (150 ≤ fallback.h)) ∧
    (∃ p : RingPort, ∃ own partner fallback : Margins, ∃ s : State, (s.portIs p .equalise = true) ∧
      ((s.portVal p 2 ≠ 2 ∨ (s.port p).partnerRate = .fallback ∨ (s.port p).cap = some .fallback ∨ own.v < s.portVal p 0xD + 12 ∨ own.h < s.portVal p 0xE + 60 ∨ partner.v < s.portVal p 0xD + 12 ∨ partner.h < s.portVal p 0xE + 60)) ∧
      ((fallback.v < 40 ∨ fallback.h < 150))) ∧
    (∃ p : RingPort, ∃ s : State, (s.isUp p = true)) ∧
    (∃ p : RingPort, ∃ s : State, (s.portIs p .fastRetrain = true)) ∧
    (∃ p : RingPort, ∃ s : State, (s.portIs p .orient = true ∨ s.portIs p .equalise = true)) ∧
    (∃ p : RingPort, ∃ f : TakenFrame, ∃ s : State, (s.isUp p = true) ∧ (beAt f.payload 0 1 = 7) ∧ (f.payload.length = 4)) := by
  refine ⟨⟨req, .east, (bts [1]), rst, by decide +kernel⟩,
    ⟨.east, (obj [(0x2000, 4, 1)] rst).arm (.detect .east) 0, by decide +kernel⟩,
    ⟨.east, (obj [(0x2000, 4, 6)] rst).arm (.detect .east) 0, by decide +kernel⟩,
    ⟨.east, (rst.arm (.detect .east) 0), by decide +kernel⟩,
    ⟨.east, (obj [(0x2000, 4, 6)] rst).arm (.detect .east) 0, by decide +kernel⟩,
    ⟨.east, (rst.arm (.trainRetry .east) 0), by decide +kernel⟩,
    ⟨.east, (obj [(0x2000, 4, 6)] rst).arm (.trainRetry .east) 0, by decide +kernel⟩,
    ⟨.east, 2, (obj [(0x2000, 4, 2)] { rst with ident := { rst.ident with serial := 1 } }), by decide +kernel⟩,
    ⟨.east, (obj [(0x2000, 4, 2)] rst), by decide +kernel⟩,
    ⟨.east, (⟨72, 260⟩), (⟨72, 260⟩), (obj [(0x2000, 4, 3), (0x2000, 2, 2), (0x2000, 0xD, 60), (0x2000, 0xE,
      200)] rst).updPort .east fun e => { e with partnerRate := .full }, by decide +kernel⟩,
    ⟨.east, (⟨0, 0⟩), (⟨0, 0⟩), (⟨40, 150⟩), (obj [(0x2000, 4, 3), (0x2000, 2, 1)] rst), by decide +kernel⟩,
    ⟨.east, (⟨0, 0⟩), (⟨0, 0⟩), (⟨39, 150⟩), (obj [(0x2000, 4, 3), (0x2000, 2, 1)] rst), by decide +kernel⟩,
    ⟨.east, upE, by decide +kernel⟩,
    ⟨.east, (obj [(0x2000, 4, 5)] rst), by decide +kernel⟩,
    ⟨.east, (obj [(0x2000, 4, 2)] rst), by decide +kernel⟩,
    ⟨.east, (frm 0xFFF3 [7, 0, 0, 0]), upE, by decide +kernel⟩⟩

theorem witness_PortMarginsAndRetrains :
    (∃ p : RingPort, ∃ s : State, (s.due (.marginTick p) = true) ∧ (s.isUp p = true)) ∧
    (∃ p : RingPort, ∃ f : TakenFrame, ∃ s : State, (s.isUp p = true) ∧ (beAt f.payload 0 1 = 4) ∧ (f.payload.length = 8)) ∧
    (∃ p : RingPort, ∃ s : State, (s.due (.fallbackHold p) = true) ∧ (s.isUp p = true) ∧ ((s.port p).rate = .full)) ∧
    (∃ p : RingPort, ∃ f : TakenFrame, ∃ s : State, (s.isUp p = true) ∧ (beAt f.payload 0 1 = 5) ∧ (f.payload.length = 8) ∧
      ((s.port p).requested = none) ∧ ((beAt f.payload 4 1 = 0 ∨ 4 ≤ beAt f.payload 4 1 ∨ s.otherPortBusy p = false))) ∧
    (∃ p : RingPort, ∃ f : TakenFrame, ∃ s : State, (s.isUp p = true) ∧ (beAt f.payload 0 1 = 5) ∧ (f.payload.length = 8) ∧
      ((s.port p).requested = none) ∧ (1 ≤ beAt f.payload 4 1) ∧ (beAt f.payload 4 1 ≤ 3) ∧ (s.otherPortBusy p = true)) ∧
    (∃ p : RingPort, ∃ f : TakenFrame, ∃ r : Retrain, ∃ s : State, (s.isUp p = true) ∧ (beAt f.payload 0 1 = 5) ∧
      (f.payload.length = 8) ∧ ((s.port p).requested = some r) ∧ (s.ident.serial ≤ s.portVal p 7)) ∧
    (∃ p : RingPort, ∃ f : TakenFrame, ∃ r : Retrain, ∃ s : State, (s.isUp p = true) ∧ (beAt f.payload 0 1 = 5) ∧
      (f.payload.length = 8) ∧ ((s.port p).requested = some r) ∧ (s.portVal p 7 < s.ident.serial)) ∧
    (∃ p : RingPort, ∃ f : TakenFrame, ∃ s : State, (s.isUp p = true) ∧ (beAt f.payload 0 1 = 6) ∧ (f.payload.length = 16)) ∧
    (∃ p : RingPort, ∃ r : Retrain, ∃ s : State, (s.due (.retrainStart p) = true) ∧ ((s.port p).agreed = some r) ∧
      (r.reason = 2) ∧ (r.full = false)) ∧
    (∃ p : RingPort, ∃ r : Retrain, ∃ s : State, (s.due (.retrainStart p) = true) ∧ ((s.port p).agreed = some r) ∧
      (r.reason = 2) ∧ (r.full = true)) ∧
    (∃ p : RingPort, ∃ own : Margins, ∃ s : State, (s.portIs p .fastRetrain = true) ∧ ((s.port p).running = some ⟨.fallback,
      false, 0⟩) ∧ (40 ≤ own.v) ∧ (150 ≤ own.h)) ∧
    (∃ p : RingPort, ∃ own partner : Margins, ∃ s : State, (s.portIs p .fastRetrain = true) ∧
      ((s.port p).running = some ⟨.full, false, 1⟩) ∧ (s.portVal p 0xD + 12 ≤ own.v) ∧ (s.portVal p 0xE + 60 ≤ own.h) ∧
      (s.portVal p 0xD + 12 ≤ partner.v) ∧ (s.portVal p 0xE + 60 ≤ partner.h)) ∧
    (∃ p : RingPort, ∃ r : Retrain, ∃ s : State, (s.portIs p .fastRetrain = true) ∧ ((s.port p).running = some r) ∧
      ((s.port p).phyToo = false)) ∧
    (∃ rq : Requester, ∃ p : RingPort, ∃ s : State,
      (s.checkWrite rq (objKey (0x2000 + RingPort.num p) 0x10) (leBytes 1 1) = .ok) ∧ (s.bench = false)) ∧
    (∃ rq : Requester, ∃ p : RingPort, ∃ s : State,
      (s.checkWrite rq (objKey (0x2000 + RingPort.num p) 0x10) (leBytes 1 2) = .ok) ∧ (s.bench = false)) ∧
    (∃ p : RingPort, ∃ s : State, (s.isUp p = true)) ∧
    (∃ p : RingPort, ∃ s : State, (s.isUp p = true)) ∧
    (∃ p : RingPort, ∃ s : State, (s.isUp p = false)) ∧
    (∃ p : RingPort, ∃ s : State, (s.portVal p 2 = 2) ∧ ((s.port p).partnerRate = .full)) ∧
    (∃ p : RingPort, ∃ s : State, (s.portVal p 2 = 1 ∨ (s.port p).partnerRate = .fallback)) ∧
    (∃ rq : Requester, ∃ p : RingPort, ∃ value : List Byte, ∃ s : State,
      (s.checkWrite rq (objKey (0x2000 + RingPort.num p) 2) value = .ok) ∧ (s.bench = false)) ∧
    (∃ p : RingPort, ∃ v : ℕ, ∃ s : State, (s.isUp p = true) ∧ (s.portVal p 2 ≠ v)) ∧
    (∃ p : RingPort, ∃ r : Retrain, ∃ l : List Retrain, ∃ s : State, (s.due (.deferredRetrain p) = true) ∧
      ((s.port p).deferred = r :: l) ∧ (s.isUp p = true) ∧ (s.otherHopDown p = false) ∧ (s.otherPortBusy p = false) ∧
      ((s.port p).agreed = none) ∧ ((s.port p).running = none) ∧ (r.reason = 0)) ∧
    (∃ p : RingPort, ∃ s : State, (s.otherHopDown p = false) ∧ (s.otherPortBusy p = false) ∧ ((s.port p).agreed = none) ∧
      ((s.port p).running = none) ∧ ((s.port p).requested = none)) ∧
    (∃ p : RingPort, ∃ q : Retrain, ∃ s : State, (s.otherHopDown p = false) ∧ (s.otherPortBusy p = false) ∧
      ((s.port p).agreed = none) ∧ ((s.port p).running = none) ∧ ((s.port p).requested = some q)) ∧
    (∃ p : RingPort, ∃ s : State, (s.otherHopDown p = true ∨ s.otherPortBusy p = true)) := by
  refine ⟨⟨.east, (upE.arm (.marginTick .east) 0), by decide +kernel⟩,
    ⟨.east, (frm 0xFFF3 ([4] ++ zeros 7)), upE, by decide +kernel⟩,
    ⟨.east, (upE.updPort .east fun e => { e with rate := .full }).arm (.fallbackHold .east) 0, by decide +kernel⟩,
    ⟨.east, (frm 0xFFF3 ([5] ++ zeros 7)), upE, by decide +kernel⟩,
    ⟨.east, (frm 0xFFF3 ([5, 0, 2, 0, 2] ++ zeros 3)),
      (upE.updPort .west fun e => { e with requested := some ⟨.full, false, 1⟩ }), by decide +kernel⟩,
    ⟨.east, (frm 0xFFF3 ([5] ++ zeros 7)), (⟨.full, false, 1⟩), (obj [(0x2000, 4, 4), (0x2000, 7,
      1)] { rst with ident := { rst.ident with serial := 1 } }).updPort .east fun e => { e with requested := some ⟨.full, false, 1⟩ },
      by decide +kernel⟩,
    ⟨.east, (frm 0xFFF3 ([5] ++ zeros 7)), (⟨.full, false, 1⟩), (obj [(0x2000, 4, 4), (0x2000, 7,
      0)] { rst with ident := { rst.ident with serial := 1 } }).updPort .east fun e => { e with requested := some ⟨.full, false, 1⟩ },
      by decide +kernel⟩,
    ⟨.east, (frm 0xFFF3 ([6] ++ zeros 15)), upE, by decide +kernel⟩,
    ⟨.east, (⟨.full, false, 2⟩),
      (upE.updPort .east fun e => { e with agreed := some ⟨.full, false, 2⟩ }).arm (.retrainStart .east) 0, by decide +kernel⟩,
    ⟨.east, (⟨.full, true, 2⟩),
      (upE.updPort .east fun e => { e with agreed := some ⟨.full, true, 2⟩ }).arm (.retrainStart .east) 0, by decide +kernel⟩,
    ⟨.east, (⟨40, 150⟩), (obj [(0x2000, 4, 5)] rst).updPort .east fun e => { e with running := some ⟨.fallback, false, 0⟩ },
      by decide +kernel⟩,
    ⟨.east, (⟨72, 260⟩), (⟨72, 260⟩), (obj [(0x2000, 4, 5), (0x2000, 0xD, 60), (0x2000, 0xE,
      200)] rst).updPort .east fun e => { e with running := some ⟨.full, false, 1⟩ }, by decide +kernel⟩,
    ⟨.east, (⟨.full, false, 2⟩), (obj [(0x2000, 4,
      5)] rst).updPort .east fun e => { e with running := some ⟨.full, false, 2⟩ }, by decide +kernel⟩,
    ⟨req, .east, rst, by decide +kernel⟩,
    ⟨req, .east, rst, by decide +kernel⟩,
    ⟨.east, upE, by decide +kernel⟩,
    ⟨.east, upE, by decide +kernel⟩,
    ⟨.east, rst, by decide +kernel⟩,
    ⟨.east, (obj [(0x2000, 2, 2)] rst), by decide +kernel⟩,
    ⟨.east, (obj [(0x2000, 2, 1)] rst), by decide +kernel⟩,
    ⟨req, .east, (bts [1]), rst, by decide +kernel⟩,
    ⟨.east, 1, upE, by decide +kernel⟩,
    ⟨.east, (⟨.fallback, false, 0⟩), [],
      (upE.updPort .east fun e => { e with deferred := [⟨.fallback, false, 0⟩] }).arm (.deferredRetrain .east) 0,
      by decide +kernel⟩,
    ⟨.east, rst, by decide +kernel⟩,
    ⟨.east, (⟨.full, false, 1⟩), (upE.updPort .east fun e => { e with requested := some ⟨.full, false, 1⟩ }),
      by decide +kernel⟩,
    ⟨.east, ({ rst with rs := { rst.rs with down := [⟨5, 6, none, 0⟩] } }), by decide +kernel⟩⟩

theorem witness_PortNeighbourAndDelay :
    (∃ p : RingPort, ∃ s : State, (s.due (.neighbour p) = true)) ∧
    (∃ p : RingPort, ∃ f : TakenFrame, ∃ s : State, (s.isUp p = true) ∧ (beAt f.payload 0 1 = 1) ∧ (f.payload.length = 24)) ∧
    (∃ p : RingPort, ∃ s : State, (s.due (.delayReq p) = true) ∧ ((s.port p).exchange = none)) ∧
    (∃ p : RingPort, ∃ x : ℕ × Option ℕ, ∃ s : State, (s.due (.delayReq p) = true) ∧ ((s.port p).exchange = some x) ∧
      (s.due (.delayResp p) = true)) ∧
    (∃ p : RingPort, ∃ f : TakenFrame, ∃ s : State, (s.isUp p = true) ∧ (beAt f.payload 0 1 = 2) ∧ (f.payload.length = 8)) ∧
    (∃ p : RingPort, ∃ f : TakenFrame, ∃ n t1 : ℕ, ∃ s : State, (s.isUp p = true) ∧ (beAt f.payload 0 1 = 3) ∧
      (f.payload.length = 16) ∧ ((s.port p).exchange = some (n, some t1)) ∧ (n = beAt f.payload 2 2) ∧
      ((s.port p).delays = [])) ∧
    (∃ p : RingPort, ∃ s : State, (s.due (.delayResp p) = true)) := by
  refine ⟨⟨.east, (rst.arm (.neighbour .east) 0), by decide +kernel⟩,
    ⟨.east, (frm 0xFFF3 ([1] ++ zeros 23)), upE, by decide +kernel⟩,
    ⟨.east, (rst.arm (.delayReq .east) 0), by decide +kernel⟩,
    ⟨.east, (9, some 100),
      ((upE.updPort .east fun e => { e with exchange := some (9, some 100) }).arm (.delayReq .east) 0).arm (.delayResp .east) 0,
      by decide +kernel⟩,
    ⟨.east, (frm 0xFFF3 ([2] ++ zeros 7)), upE, by decide +kernel⟩,
    ⟨.east, (frm 0xFFF3 ([3, 0, 0, 9] ++ zeros 12)), 9, 100,
      (upE.updPort .east fun e => { e with exchange := some (9, some 100) }), by decide +kernel⟩,
    ⟨.east, (rst.arm (.delayResp .east) 0), by decide +kernel⟩⟩

theorem witness_FramesReceived :
    (∃ p : RingPort, ∃ raw : BitVec 256, ∃ k : ℕ, ∃ s : State, (s.isUp p = true) ∧ ((s.port p).rx = none) ∧
      (headerFault p (decodeHeader raw) = some k)) ∧
    (∃ p : RingPort, ∃ raw : BitVec 256, ∃ s : State, (s.isUp p = true) ∧ ((s.port p).rx = none) ∧
      (headerFault p (decodeHeader raw) = none) ∧ ((decodeHeader raw).typ.toNat = typHopMgmt)) ∧
    (∃ p : RingPort, ∃ raw : BitVec 256, ∃ spill : ℕ, ∃ s : State, (s.isUp p = true) ∧ ((s.port p).rx = none) ∧
      (headerFault p (decodeHeader raw) = none) ∧ ((decodeHeader raw).typ.toNat ≠ typHopMgmt) ∧
      ((s.countRx p (decodeHeader raw)).takesLocal ((decodeHeader raw).hopped) = false) ∧
      ((s.countRx p (decodeHeader raw)).isSource ((decodeHeader raw).hopped) = false) ∧
      ((s.countRx p (decodeHeader raw)).endsHere ((decodeHeader raw).hopped) = false) ∧
      (((decodeHeader raw).hopped).hops ≠ 0) ∧
      ((s.countRx p (decodeHeader raw)).lineUp ((s.countRx p (decodeHeader raw)).transitOut p ((decodeHeader raw).hopped)) = true) ∧
      (((s.countRx p (decodeHeader raw)).admitTransit ((s.countRx p (decodeHeader raw)).transitOut p ((decodeHeader raw).hopped)) ((decodeHeader raw).hopped).cls.toNat (cellsOf ((decodeHeader raw).hopped).len.toNat)).2 = some spill) ∧
      (((s.countRx p (decodeHeader raw)).admitTransit ((s.countRx p (decodeHeader raw)).transitOut p ((decodeHeader raw).hopped)) ((decodeHeader raw).hopped).cls.toNat (cellsOf ((decodeHeader raw).hopped).len.toNat)).1.cutThrough (Output.ofPort p) ((s.countRx p (decodeHeader raw)).transitOut p ((decodeHeader raw).hopped)) ((decodeHeader raw).hopped) = false)) ∧
    (∃ p : RingPort, ∃ raw : BitVec 256, ∃ spill : ℕ, ∃ s : State, (s.isUp p = true) ∧ ((s.port p).rx = none) ∧
      (headerFault p (decodeHeader raw) = none) ∧ ((decodeHeader raw).typ.toNat ≠ typHopMgmt) ∧
      ((s.countRx p (decodeHeader raw)).takesLocal ((decodeHeader raw).hopped) = false) ∧
      ((s.countRx p (decodeHeader raw)).isSource ((decodeHeader raw).hopped) = false) ∧
      ((s.countRx p (decodeHeader raw)).endsHere ((decodeHeader raw).hopped) = false) ∧
      (((decodeHeader raw).hopped).hops ≠ 0) ∧
      ((s.countRx p (decodeHeader raw)).lineUp ((s.countRx p (decodeHeader raw)).transitOut p ((decodeHeader raw).hopped)) = true) ∧
      (((s.countRx p (decodeHeader raw)).admitTransit ((s.countRx p (decodeHeader raw)).transitOut p ((decodeHeader raw).hopped)) ((decodeHeader raw).hopped).cls.toNat (cellsOf ((decodeHeader raw).hopped).len.toNat)).2 = some spill) ∧
      (((s.countRx p (decodeHeader raw)).admitTransit ((s.countRx p (decodeHeader raw)).transitOut p ((decodeHeader raw).hopped)) ((decodeHeader raw).hopped).cls.toNat (cellsOf ((decodeHeader raw).hopped).len.toNat)).1.cutThrough (Output.ofPort p) ((s.countRx p (decodeHeader raw)).transitOut p ((decodeHeader raw).hopped)) ((decodeHeader raw).hopped) = true)) ∧
    (∃ p : RingPort, ∃ raw : BitVec 256, ∃ s : State, (s.isUp p = true) ∧ ((s.port p).rx = none) ∧
      (headerFault p (decodeHeader raw) = none) ∧ ((decodeHeader raw).typ.toNat ≠ typHopMgmt) ∧
      ((s.countRx p (decodeHeader raw)).takesLocal ((decodeHeader raw).hopped) = false) ∧
      ((s.countRx p (decodeHeader raw)).isSource ((decodeHeader raw).hopped) = false) ∧
      ((s.countRx p (decodeHeader raw)).endsHere ((decodeHeader raw).hopped) = false) ∧
      (((decodeHeader raw).hopped).hops = 0)) ∧
    (∃ p : RingPort, ∃ payload : List Byte, ∃ crc : BitVec 32, ∃ r : RxFrame, ∃ s : State, ((s.port p).rx = some r) ∧
      (r.dropped = false) ∧ (r.fixed = true) ∧ (r.cut = none) ∧ (r.transit = []) ∧ (r.local_ = none) ∧
      (r.hdr.typ.toNat = typHopMgmt) ∧ (payload.length = r.hdr.len.toNat) ∧ (frameCrc r.raw payload = BitVec.toNat crc) ∧
      (knownFixed r.hdr payload = true)) ∧
    (∃ p : RingPort, ∃ payload : List Byte, ∃ crc : BitVec 32, ∃ r : RxFrame, ∃ s : State, ((s.port p).rx = some r) ∧
      (r.dropped = false) ∧ (r.fixed = true) ∧ (r.cut = none) ∧ (r.transit = []) ∧ (r.local_ = none) ∧
      (r.hdr.typ.toNat = typHopMgmt) ∧ (payload.length = r.hdr.len.toNat) ∧ (frameCrc r.raw payload = BitVec.toNat crc) ∧
      (knownFixed r.hdr payload = false)) ∧
    (∃ p : RingPort, ∃ payload : List Byte, ∃ crc : BitVec 32, ∃ o : Output, ∃ r : RxFrame, ∃ s : State,
      ((s.port p).rx = some r) ∧ (r.dropped = false) ∧ (r.fixed = false) ∧ (r.cut = none) ∧ (r.transit = [o]) ∧
      (r.local_ = none) ∧ (s.node ≠ 0) ∧ (r.hdr.typ.toNat ≠ typHopMgmt) ∧ (payload.length = r.hdr.len.toNat) ∧
      (frameCrc r.raw payload = BitVec.toNat crc)) ∧
    (∃ o : Output, ∃ s : State, (s.lineUp o = true)) ∧
    (∃ s : State, (s.paired = false)) ∧
    (∃ p : RingPort, ∃ payload : List Byte, ∃ crc : BitVec 32, ∃ r : RxFrame, ∃ s : State, ((s.port p).rx = some r) ∧
      (r.dropped = false) ∧ (r.cut = none) ∧ (frameCrc r.raw payload ≠ BitVec.toNat crc)) ∧
    (∃ p : RingPort, ∃ r : RxFrame, ∃ s : State, ((s.port p).rx = some r) ∧ (r.dropped = false) ∧ (r.cut = none)) ∧
    (∃ link : Fin 3, ∃ raw : BitVec 256, ∃ s : State, (s.dx.links[link].up = true) ∧ (s.dx.mode = 3) ∧
      (headerFault (if (decodeHeader raw).path = 0 then .west else .east) (decodeHeader raw) = none) ∧
      (s.dx.links[link].ring ≠ s.ring) ∧ ((decodeHeader raw).typ.toNat ≠ typSwarm) ∧ (s.isTarget (decodeHeader raw) = true)) ∧
    (∃ link : Fin 3, ∃ raw : BitVec 256, ∃ s : State, (s.dx.links[link].up = true) ∧ (s.dx.mode = 3) ∧
      (headerFault (if (decodeHeader raw).path = 0 then .west else .east) (decodeHeader raw) = none) ∧
      (s.dx.links[link].ring ≠ s.ring) ∧ ((decodeHeader raw).typ.toNat ≠ typSwarm) ∧ (s.isTarget (decodeHeader raw) = false) ∧
      ((decodeHeader raw).dRing.toNat = s.ring)) ∧
    (∃ link : Fin 3, ∃ raw : BitVec 256, ∃ s : State, (s.dx.links[link].up = true) ∧ (s.dx.mode = 3) ∧
      (s.dx.links[link].ring = s.ring ∨ (decodeHeader raw).typ.toNat = typSwarm)) ∧
    (∃ link : Fin 3, ∃ s : State, (s.dx.links[link].up = true) ∧ (s.dx.mode = 2)) := by
  refine ⟨⟨.east, (encodeHeader { dataHdr with hcrc := dataHdr.sealed.hcrc + 1 }), 4, upE, by decide +kernel⟩,
    ⟨.east, (rawOf hopHdr), upE, by decide +kernel⟩,
    ⟨.east, (rawOf dataHdr), 0, hub1, by decide +kernel⟩,
    ⟨.east, (rawOf { dataHdr with cls := 1 }), 0, (obj [(0x2100, 8, 1)] hub1), by decide +kernel⟩,
    ⟨.east, (rawOf { dataHdr with hops := 1 }), hub1, by decide +kernel⟩,
    ⟨.east, (bts [7, 0, 0, 0]), (BitVec.ofNat 32 (frameCrc hopHdr (bts [7, 0, 0, 0]))),
      ({ rxOf hopHdr { hopHdr with len := 4 } with fixed := true }),
      (receiving { rxOf hopHdr { hopHdr with len := 4 } with fixed := true } upE), by decide +kernel⟩,
    ⟨.east, (bts [8, 0, 0, 0]), (BitVec.ofNat 32 (frameCrc hopHdr (bts [8, 0, 0, 0]))),
      ({ rxOf hopHdr { hopHdr with len := 4 } with fixed := true }),
      (receiving { rxOf hopHdr { hopHdr with len := 4 } with fixed := true } upE), by decide +kernel⟩,
    ⟨.east, [], (BitVec.ofNat 32 (frameCrc dataHdr [])), .west, ({ rxOf dataHdr dataHdr with transit := [.west] }),
      (receiving { rxOf dataHdr dataHdr with transit := [.west] } hub1), by decide +kernel⟩,
    ⟨.east, hub1, by decide +kernel⟩,
    ⟨rst, by decide +kernel⟩,
    ⟨.east, [], (BitVec.ofNat 32 (frameCrc dataHdr [] + 1)), (rxOf dataHdr dataHdr), (receiving (rxOf dataHdr dataHdr) hub1),
      by decide +kernel⟩,
    ⟨.east, (rxOf dataHdr dataHdr), (receiving (rxOf dataHdr dataHdr) hub1), by decide +kernel⟩,
    ⟨0, (rawOf { dataHdr with dNode := 1 }), gateway, by decide +kernel⟩,
    ⟨0, (rawOf dataHdr), gateway, by decide +kernel⟩,
    ⟨0, 0, (linked 3 hub1), by decide +kernel⟩,
    ⟨0, (linked 2 hub1), by decide +kernel⟩⟩

theorem witness_FramesSent :
    (∃ flow : Fin 65536, ∃ s : State, (s.lookup s.ring s.flowNode (Fin.val flow) = none)) ∧
    (∃ org : Originator, ∃ typ : Fin 16, ∃ flow : Fin 65536, ∃ payload : List Byte, ∃ first last : Bool, ∃ e : ℕ, ∃ s : State,
      (s.lookup s.ring s.flowNode (Fin.val flow) = some e) ∧ ((s.sw.waiting.any fun w => w.org == org) = false) ∧
      (org ≠ .collector) ∧ (s.coreIsolated = false) ∧ (s.combOff = false) ∧ ((s.flowEntry e).valid = true) ∧
      ((s.flowEntry e).action = actSend) ∧
      (s.gate { org := org, typ := typ, entry := e, payload := payload, first := first, last := last } = .go)) ∧
    (∃ o : Output, ∃ c : Fin 4, ∃ f : QFrame, ∃ g : Egress, ∃ s : State, (s.gated o = true) ∧ (s.lineUp o = true) ∧
      ((s.egress o).busy = false) ∧ ((s.egress o).freeAt ≤ s.uptime) ∧ ((s.noteHeads o).choose o = some (⟨c, false⟩, f, g))) ∧
    (∃ o : Output, ∃ c : Fin 4, ∃ f : QFrame, ∃ g : Egress, ∃ s : State, (s.gated o = true) ∧ (s.lineUp o = true) ∧
      ((s.egress o).busy = false) ∧ ((s.egress o).freeAt ≤ s.uptime) ∧ ((s.noteHeads o).choose o = some (⟨c, true⟩, f, g))) ∧
    (∃ o : Output, ∃ c : Choice, ∃ f : QFrame, ∃ g : Egress, ∃ s : State, (s.gated o = false) ∧ (o ≠ .east) ∧ (o ≠ .west) ∧
      (o ≠ .bl2) ∧ ((s.noteHeads o).choose o = some (c, f, g)) ∧ (f.entry = none)) ∧
    (∃ r : ReseqId, ∃ x : Reseq, ∃ s : State, (s.due (.holdDeadline r) = true) ∧ (s.reseq r = some x)) ∧
    (∃ r : ReseqId, ∃ s : State, (s.due (.resyncIdle r) = true) ∧ (s.deadline (.holdDeadline r) = none)) ∧
    (∃ o : Output, ∃ c : Fin 4, ∃ f : QFrame, ∃ l : List QFrame, ∃ s : State, (s.gated o = false) ∧ (o ≠ .east) ∧ (o ≠ .west) ∧
      ((s.egress o).local_[c] = f :: l) ∧ (f.entry = none) ∧
      (s.val 0x2100 5 < 65536 * ((arrivalOf s.ringTime + 65536 - f.arrival) % 65536))) := by
  refine ⟨⟨0, rst, by decide +kernel⟩,
    ⟨.mgmt, 0, 5, [], true, true, (entNo 1 5), (ent 1 5 0x2C01 0 0 hub1), by decide +kernel⟩,
    ⟨.east, 0, qf, _, (queued .east 0 false qf hub1), by decide +kernel, by decide +kernel, by decide +kernel,
      by decide +kernel, rfl⟩,
    ⟨.east, 0, qf, _, (queued .east 0 true qf hub1), by decide +kernel, by decide +kernel, by decide +kernel,
      by decide +kernel, rfl⟩,
    ⟨.mgmt, (⟨0, false⟩), qf, _, (queued .mgmt 0 false qf hub1), by decide +kernel, by decide +kernel, by decide +kernel,
      by decide +kernel, rfl, by decide +kernel⟩,
    ⟨(.request 0 5), ({ next := 0, record := 0 }),
      (rst.setReseq (.request 0 5) { next := 0, record := 0 }).arm (.holdDeadline (.request 0 5)) 0, by decide +kernel⟩,
    ⟨(.request 0 5), (rst.arm (.resyncIdle (.request 0 5)) 0), by decide +kernel⟩,
    ⟨.mgmt, 0, qf, [], ({ queued .mgmt 0 false qf hub1 with ringTime := nsec 65536 * 65535 }), by decide +kernel⟩⟩

theorem witness_FlowTableAndCredit :
    (∃ rq : Requester, ∃ e : Fin 16384, ∃ s : State, (s.notMine rq = false) ∧
      ((s.checkAccess rq .write (0x40000000 + 32 * Fin.val e) 16).2 = .ok)) ∧
    (∃ rq : Requester, ∃ e : Fin 16384, ∃ s : State, (s.notMine rq = false) ∧
      ((s.checkAccess rq .write (0x40000000 + 32 * Fin.val e) 16).2 = .accessDenied)) ∧
    (∃ e : ℕ, ∃ s : State, ((s.flowEntry e).retiring = true)) ∧
    (∃ e w0 w1 w2 w3 : ℕ, ∃ s : State, (s.flowCheck e { w0 := w0, w1 := w1, w2 := w2, w3 := w3 } = .ok)) ∧
    (∃ e : Fin 16384, ∃ s : State, ((s.flowEntry (Fin.val e)).retiring = true) ∧ (s.oldFrames e.val = 0)) ∧
    (∃ p : RingPort, ∃ f : TakenFrame, ∃ s : State, (s.hears p = true) ∧ (f.hdr.typ.toNat = typCredit) ∧
      (beAt f.payload 0 2 = 1) ∧ (f.payload.length = 20)) ∧
    (∃ g : List Byte, ∃ s : State, (s.lookup s.ring s.flowNode (beAt g 0 2) = none)) ∧
    (∃ e : Fin 16384, ∃ s : State, (s.due (.creditInterval (Fin.val e)) = true)) ∧
    (∃ e : Fin 16384, ∃ s : State, (s.due (.creditRefresh (Fin.val e)) = true)) ∧
    (∃ e : Fin 16384, ∃ s : State, (s.due (.creditStall (Fin.val e)) = true) ∧
      ((s.sw.waiting.any fun o => o.entry == e.val) = true) ∧ ((s.flowEntry e.val).lossless = true)) := by
  refine ⟨⟨req, 0, rst, by decide +kernel⟩,
    ⟨reqFar, 0, (obj [(0x7115, 0x81, 0)] rst), by decide +kernel⟩,
    ⟨0, (rst.setFlow 0 { retiring := true }), by decide +kernel⟩,
    ⟨0, 0, 0, 0, 0, rst, by decide +kernel⟩,
    ⟨0, (rst.setFlow 0 { retiring := true }), by decide +kernel⟩,
    ⟨.east, ({ frm 0xFFF1 ([0, 1] ++ zeros 18) with hdr := { Header.zero with typ := 0xD } }), upE, by decide +kernel⟩,
    ⟨(bts (zeros 18)), rst, by decide +kernel⟩,
    ⟨0, (rst.arm (.creditInterval 0) 0), by decide +kernel⟩,
    ⟨0, (rst.arm (.creditRefresh 0) 0), by decide +kernel⟩,
    ⟨(Fin.ofNat 16384 (entNo 0 1)),
      ({ ent 0 1 0x2200 0 0 rst with sw := { (ent 0 1 0x2200 0 0 rst).sw with waiting := [{ org := .mgmt, typ := 0, entry := entNo 0 1, payload := [] }] } } : State).arm (.creditStall (entNo 0 1)) 0,
      by decide +kernel⟩⟩

theorem witness_ReleasedOnce :
    (∃ r : Reseq, ∃ k, r.next < 65536 ∧ k < 255) :=
  ⟨{ next := 65535, record := 0 }, 254, by decide +kernel, by decide +kernel⟩

theorem witness_HopsAndElections :
    (∃ p : RingPort, ∃ s : State, (s.due (.hopReport p) = true) ∧ (s.portVal p 1 = 1) ∧ (s.isUp p = false)) ∧
    (∃ p : RingPort, ∃ f : TakenFrame, ∃ s : State, (s.hears p = true) ∧ (isMsg f 3 24 = true) ∧
      (senderOf f ≠ s.ident.serial)) ∧
    (∃ s : State, ((s.rs.down.any fun h => h.last + secs 3 ≤ s.uptime) = true)) ∧
    (∃ p : RingPort, ∃ f : TakenFrame, ∃ l : List Bid, ∃ s : State, (s.hears p = true) ∧ (isMsg f 1 16 = true) ∧
      (senderOf f ≠ s.ident.serial) ∧ (s.isKeeper = false) ∧ (s.rs.election = some l) ∧ (beAt f.payload 11 1 = 1) ∧
      ((s.learnRank (senderOf f) (beAt f.payload 10 1)).reachesHub (beAt f.payload 12 2) (senderOf f) = true)) ∧
    (∃ p : RingPort, ∃ f : TakenFrame, ∃ s : State, (s.hears p = true) ∧ (isMsg f 1 16 = true) ∧
      (senderOf f ≠ s.ident.serial) ∧ (s.isKeeper = true) ∧
      (outranks (beAt f.payload 10 1) (senderOf f) (s.learnRank (senderOf f) (beAt f.payload 10 1)).keptPriority s.ident.serial = true)) ∧
    (∃ s : State, (s.due .electRound2 = true) ∧ (s.eligibleKeeper = true) ∧ (s.rs.election.isSome = true)) ∧
    (∃ l : List Bid, ∃ s : State, (s.due .electDecision = true) ∧ (s.rs.election = some l) ∧
      (bestBid (l.filter fun b => b.serial = s.ident.serial || s.reachesHub b.node b.serial) = none)) ∧
    (∃ l : List Bid, ∃ b : Bid, ∃ s : State, (s.due .electDecision = true) ∧ (s.rs.election = some l) ∧
      (bestBid (l.filter fun b => b.serial = s.ident.serial || s.reachesHub b.node b.serial) = some b) ∧
      (b.serial = s.ident.serial)) ∧
    (∃ l : List Bid, ∃ b : Bid, ∃ s : State, (s.due .electDecision = true) ∧ (s.rs.election = some l) ∧
      (bestBid (l.filter fun b => b.serial = s.ident.serial || s.reachesHub b.node b.serial) = some b) ∧
      (b.serial ≠ s.ident.serial)) ∧
    (∃ s : State, (s.due .electRestart = true) ∧ (s.isKeeper = false) ∧ (s.hasKeeper = false)) ∧
    (∃ s : State, (s.due .announce = true) ∧ (s.isKeeper = true)) ∧
    (∃ p : RingPort, ∃ f : TakenFrame, ∃ s : State, (s.hears p = true) ∧ (isMsg f 2 32 = true) ∧
      (senderOf f = s.ident.serial) ∧ (s.isKeeper = true)) ∧
    (∃ p : RingPort, ∃ f : TakenFrame, ∃ s : State, (s.hears p = true) ∧ (isMsg f 2 32 = true) ∧
      (senderOf f ≠ s.ident.serial) ∧ (s.isKeeper = false) ∧ (s.rs.keeperSerial = 0)) ∧
    (∃ p : RingPort, ∃ f : TakenFrame, ∃ s : State, (s.hears p = true) ∧ (isMsg f 2 32 = true) ∧
      (senderOf f ≠ s.ident.serial) ∧ (s.isKeeper = true) ∧ (s.term < beAt f.payload 24 4)) ∧
    (∃ s : State, (s.due .lossGuard = true) ∧ (s.mayKeep = true) ∧ (s.rs.markAwaited = true)) ∧
    (∃ s : State, (s.isBackup = true) ∧ (s.val 0x2401 8 ≠ 0)) ∧
    (∃ rq : Requester, ∃ value : List Byte, ∃ s : State, (s.checkWrite rq (objKey 0x1001 5) value = .ok) ∧ (s.bench = false)) ∧
    (∃ s : State, (s.isKeeper = false)) := by
  refine ⟨⟨.east, (rst.arm (.hopReport .east) 0), by decide +kernel⟩,
    ⟨.east, (rmsg 3 24 []), upE, by decide +kernel⟩,
    ⟨({ rst with uptime := secs 3, rs := { rst.rs with down := [⟨5, 6, none, 0⟩] } }), by decide +kernel⟩,
    ⟨.east, (rmsg 1 16 (zeros 9 ++ [1])), [], (bids [] upE), by decide +kernel⟩,
    ⟨.east, (rmsg 1 16 (zeros 8 ++ [255])), keeper, by decide +kernel⟩,
    ⟨(bids [] rst).arm .electRound2 0, by decide +kernel⟩,
    ⟨[], (bids [] rst).arm .electDecision 0, by decide +kernel⟩,
    ⟨([⟨1, 100, 0⟩]), (⟨1, 100, 0⟩), (bids [⟨1, 100, 0⟩] rst).arm .electDecision 0, by decide +kernel⟩,
    ⟨([⟨1, 100, 0⟩, ⟨2, 99, 7⟩]), (⟨2, 99, 7⟩), (bids [⟨1, 100, 0⟩, ⟨2, 99, 7⟩] rst).arm .electDecision 0, by decide +kernel⟩,
    ⟨(rst.arm .electRestart 0), by decide +kernel⟩,
    ⟨(keeper.arm .announce 0), by decide +kernel⟩,
    ⟨.east, (rmsg 2 32 (zeros 7 ++ [100])), keeper, by decide +kernel⟩,
    ⟨.east, (rmsg 2 32 []), upE, by decide +kernel⟩,
    ⟨.east, (rmsg 2 32 (zeros 25 ++ [1])), keeper, by decide +kernel⟩,
    ⟨(obj [(0x1001, 4, 2)] { rst with rs := { rst.rs with markAwaited := true } }).arm .lossGuard 0, by decide +kernel⟩,
    ⟨(obj [(0x1001, 4, 2), (0x2401, 8, 1)] rst), by decide +kernel⟩,
    ⟨req, (bts [1]), rst, by decide +kernel⟩,
    ⟨rst, by decide +kernel⟩⟩

theorem witness_BestRankWins :
    (∃ sa sb : ℕ, (sa ≠ sb)) ∧
    (∃ pa sa pb sb pc sc : ℕ, (outranks pa sa pb sb = true) ∧ (outranks pb sb pc sc = true)) ∧
    (∃ l : List Bid, ∃ b : Bid, (bestBid l = some b)) ∧
    (∃ l : List Bid, (bestBid l = none)) := by
  refine ⟨⟨1, 2, by decide +kernel⟩,
    ⟨3, 0, 2, 0, 1, 0, by decide +kernel⟩,
    ⟨([⟨1, 100, 0⟩]), (⟨1, 100, 0⟩), by decide +kernel⟩,
    ⟨[], by decide +kernel⟩⟩

theorem witness_DiscoveryAndJoining :
    (∃ s : State, (s.due .discovery = true) ∧ (s.rs.keeperSerial = 0) ∧ (s.rs.election = none)) ∧
    (∃ s : State, (s.due .keeperQuery = true) ∧ (s.isKeeper = false) ∧ (s.rs.keeperSerial = 0)) ∧
    (∃ p : RingPort, ∃ f : TakenFrame, ∃ s : State, (s.hears p = true) ∧ (isMsg f 0x10 16 = true) ∧
      (senderOf f ≠ s.ident.serial) ∧ (s.isKeeper = true)) ∧
    (∃ p : RingPort, ∃ f : TakenFrame, ∃ s : State, (s.hears p = true) ∧ (isMsg f 0x11 48 = true) ∧ (s.isKeeper = false)) ∧
    (∃ f : TakenFrame, ∃ s : State, (s.hears .east = true) ∧ (isMsg f 0x11 48 = true) ∧ (s.isKeeper = true) ∧
      (s.mgmt.restarting = false) ∧ (senderOf f ≠ s.ident.serial)) ∧
    (∃ s : State, (s.due .joinRetry = true) ∧ (s.val 0x2420 5 = 1)) ∧
    (∃ p : RingPort, ∃ f : TakenFrame, ∃ s : State, (s.hears p = true) ∧ (isMsg f 0x12 32 = true) ∧
      (beAt f.payload 10 8 = s.ident.serial) ∧ (s.val 0x2420 5 = 1) ∧ (beAt f.payload 21 1 = 0) ∧
      ((beAt f.payload 22 1).testBit 0 = true)) ∧
    (∃ p : RingPort, ∃ f : TakenFrame, ∃ s : State, (s.hears p = true) ∧ (isMsg f 0x12 32 = true) ∧
      (beAt f.payload 10 8 = s.ident.serial) ∧ (s.val 0x2420 5 = 1) ∧ (beAt f.payload 21 1 = 0) ∧
      ((beAt f.payload 22 1).testBit 0 = false)) ∧
    (∃ p : RingPort, ∃ f : TakenFrame, ∃ s : State, (s.hears p = true) ∧ (isMsg f 0x12 32 = true) ∧
      (beAt f.payload 10 8 = s.ident.serial) ∧ (s.val 0x2420 5 = 1) ∧ (beAt f.payload 21 1 = 1)) ∧
    (∃ s : State, (s.val 0x2420 5 = 2)) := by
  refine ⟨⟨(rst.arm .discovery 0), by decide +kernel⟩,
    ⟨(rst.arm .keeperQuery 0), by decide +kernel⟩,
    ⟨.east, (rmsg 0x10 16 []), keeper, by decide +kernel⟩,
    ⟨.east, (rmsg 0x11 48 []), upE, by decide +kernel⟩,
    ⟨(rmsg 0x11 48 []), keeper, by decide +kernel⟩,
    ⟨(obj [(0x2420, 5, 1)] rst).arm .joinRetry 0, by decide +kernel⟩,
    ⟨.east, (rmsg 0x12 32 (zeros 15 ++ [100, 0, 0, 0, 0, 1])), (obj [(0x2420, 5, 1)] upE), by decide +kernel⟩,
    ⟨.east, (rmsg 0x12 32 (zeros 15 ++ [100])), (obj [(0x2420, 5, 1)] upE), by decide +kernel⟩,
    ⟨.east, (rmsg 0x12 32 (zeros 15 ++ [100, 0, 0, 0, 1])), (obj [(0x2420, 5, 1)] upE), by decide +kernel⟩,
    ⟨(obj [(0x2420, 5, 2)] rst), by decide +kernel⟩⟩

theorem witness_RingMapCommands :
    (∃ rq : Requester, ∃ value : List Byte, ∃ s : State, (s.checkWrite rq (objKey 0x2410 5) value = .ok) ∧ (s.bench = false)) ∧
    (∃ rq : Requester, ∃ value : List Byte, ∃ s : State, (s.checkObject rq (objKey 0x2410 6) .write = .ok) ∧
      (s.isKeeper = true) ∧ (s.mapCheck value = .ok)) ∧
    (∃ rq : Requester, ∃ s : State, (s.checkObject rq (objKey 0x2410 6) .write = .ok) ∧ (s.isKeeper = false)) ∧
    (∃ p : RingPort, ∃ f : TakenFrame, ∃ s : State, (s.hears p = true) ∧ (isMsg f 0x13 24 = true) ∧
      (senderOf f ≠ s.ident.serial) ∧ (s.rs.map.version < beAt f.payload 10 4) ∧ (beAt f.payload 16 4 ≠ 0)) ∧
    (∃ p : RingPort, ∃ f : TakenFrame, ∃ s : State, (s.hears p = true) ∧ (isMsg f 0x13 24 = true) ∧
      (senderOf f ≠ s.ident.serial) ∧ (s.rs.map.version < beAt f.payload 10 4) ∧ (beAt f.payload 16 4 = 0)) ∧
    (∃ s : State, (s.due .mapRead = true) ∧ (s.rs.renumber = none)) ∧
    (∃ s : State, (s.due .mapUpdate = true) ∧ (s.isKeeper = true) ∧ (s.rs.map.version ≠ 0)) ∧
    (∃ w e : ℕ, ∃ s : State, (s.mgmt.restarting = false) ∧ (s.due .positionDrop = true) ∧ (s.rs.dropping = some (w, e)) ∧
      (s.isKeeper = true)) := by
  refine ⟨⟨req, (leBytes 4 0x6E756D62), keeper, by decide +kernel⟩,
    ⟨req, (bts ([0, 0, 0, 0, 1] ++ zeros 11 ++ [1, 0, 0, 0])),
      ({ keeper with rs := { keeper.rs with map := { version := 1, positions := [{ node := 1 }] } } }), by decide +kernel⟩,
    ⟨req, rst, by decide +kernel⟩,
    ⟨.east, (rmsg 0x13 24 (zeros 11 ++ [1, 0, 0, 0, 0, 0, 1])), upE, by decide +kernel⟩,
    ⟨.east, (rmsg 0x13 24 (zeros 11 ++ [1])), upE, by decide +kernel⟩,
    ⟨(rst.arm .mapRead 0), by decide +kernel⟩,
    ⟨({ keeper with rs := { keeper.rs with map := { version := 1, positions := [{ node := 1 }] } } } : State).arm .mapUpdate 0,
      by decide +kernel⟩,
    ⟨4, 5, ({ keeper with rs := { keeper.rs with dropping := some (4, 5) } } : State).arm .positionDrop 0, by decide +kernel⟩⟩

theorem witness_PairFormsAndFails :
    (∃ k : Fin 3, ∃ peer : BoardLink, ∃ s : State, (s.dx.mode = 3) ∧ (peer.slot ≠ (s.ident.clusterId ^^^ (Fin.val k + 1))) ∧
      ((k = 2 → s.pcieMode = false)) ∧ (s.isolated (2 + k.val) = false) ∧ (s.combOff = false)) ∧
    (∃ peer : BoardLink, ∃ s : State, (s.dx.mode = 2) ∧ (peer.slot ≠ (s.ident.clusterId ^^^ 1)) ∧ (s.isolated 2 = false) ∧
      (s.combOff = false)) ∧
    (∃ peer : BoardLink, ∃ s : State, (s.dx.mode = 2) ∧ (peer.slot = (s.ident.clusterId ^^^ 1)) ∧ (peer.mode = 2) ∧
      (s.isolated 2 = false) ∧ (s.combOff = false) ∧ (s.ident.clusterId < 2) ∧ (peer.variant = s.ident.variant) ∧
      (peer.mirrorVersion = s.ident.mirrorVersion)) ∧
    (∃ k : Fin 3, ∃ s : State, (s.dx.links[Fin.val k].up = false)) ∧
    (∃ s : State, (s.due .partnerAbsent = true) ∧ (s.dx.links[0].up = false) ∧ (s.paired = false)) ∧
    (∃ s : State, (s.due .heartbeatSend = true)) ∧
    (∃ s : State, (s.dx.links[0].up = true)) ∧
    (∃ s : State, (s.dx.links[0].up = false)) ∧
    (∃ payload : List Byte, ∃ s : State, (s.dx.links[0].up = true) ∧ (s.dx.mode = 2) ∧ (s.val 0x8110 1 ≠ 3) ∧
      (beAt payload 0 1 = 0x10) ∧ (payload.length = 16)) ∧
    (∃ s : State, (s.due .heartbeatMiss = true) ∧ (s.dx.links[0].up = true) ∧ (s.standby = true) ∧ (s.pairState = 1) ∧
      (s.dx.resync = false) ∧ (s.dx.missRun = 3)) ∧
    (∃ payload : List Byte, ∃ s : State, (s.dx.links[0].up = true) ∧ (s.dx.mode = 2) ∧ (beAt payload 0 1 = 0x11) ∧
      (payload.length = 8) ∧ (s.standby = true) ∧ (s.pairState = 1) ∧ (s.dx.resync = false)) ∧
    (∃ payload : List Byte, ∃ s : State, (s.dx.links[0].up = true) ∧ (s.dx.mode = 2) ∧ (s.val 0x8110 1 ≠ 3) ∧
      (beAt payload 0 1 = 0x11) ∧ (payload.length = 8) ∧ (s.standby = false)) ∧
    (∃ p : RingPort, ∃ f : TakenFrame, ∃ s : State, (s.hears p = true) ∧ (isMsg f 4 16 = true) ∧ (f.hdr.dNode.toNat = s.node)) ∧
    (∃ p : RingPort, ∃ f : TakenFrame, ∃ s : State, (s.hears p = true) ∧ (isMsg f 5 16 = true) ∧ (f.hdr.dNode.toNat = s.node) ∧
      (s.dx.probe = some (beAt f.payload 10 4))) ∧
    (∃ s : State, (s.due .probe = true) ∧ (s.dx.probe.isSome = true) ∧ (s.mayTakeOver = true)) ∧
    (∃ payload : List Byte, ∃ s : State, (s.dx.links[0].up = true) ∧ (s.dx.mode = 2) ∧ (s.val 0x8110 1 ≠ 3) ∧
      (beAt payload 0 1 = 0x16) ∧ (payload.length = 4)) ∧
    (∃ payload : List Byte, ∃ s : State, (s.dx.links[0].up = true) ∧ (s.dx.mode = 2) ∧ (beAt payload 0 1 = 0x16) ∧
      (payload.length ≠ 4)) := by
  refine ⟨⟨0, ({ up := true, slot := 2 }), ({ rst with dx := { rst.dx with mode := 3 } }), by decide +kernel⟩,
    ⟨({ up := true, slot := 2 }), ({ rst with dx := { rst.dx with mode := 2 } }), by decide +kernel⟩,
    ⟨({ up := true, slot := 1, mode := 2, variant := 1 }), ({ rst with dx := { rst.dx with mode := 2 } }), by decide +kernel⟩,
    ⟨0, rst, by decide +kernel⟩,
    ⟨(rst.arm .partnerAbsent 0), by decide +kernel⟩,
    ⟨(linked 2 rst).arm .heartbeatSend 0, by decide +kernel⟩,
    ⟨(linked 2 rst), by decide +kernel⟩,
    ⟨rst, by decide +kernel⟩,
    ⟨(bmsg 0x10 16 []), (linked 2 rst), by decide +kernel⟩,
    ⟨({ standby with dx := { standby.dx with missRun := 3 } } : State).arm .heartbeatMiss 0, by decide +kernel⟩,
    ⟨(bmsg 0x11 8 []), standby, by decide +kernel⟩,
    ⟨(bmsg 0x11 8 []), (linked 2 rst), by decide +kernel⟩,
    ⟨.east, ({ rmsg 4 16 [] with hdr := { Header.zero with flow := 0xFFF4, dNode := 1 } }), hub1, by decide +kernel⟩,
    ⟨.east, ({ rmsg 5 16 (zeros 11 ++ [9]) with hdr := { Header.zero with flow := 0xFFF4, dNode := 1 } }),
      ({ hub1 with dx := { hub1.dx with probe := some 9 } }), by decide +kernel⟩,
    ⟨({ standby with dx := { standby.dx with probe := some 9 } } : State).arm .probe 0, by decide +kernel⟩,
    ⟨(bmsg 0x16 4 []), (linked 2 rst), by decide +kernel⟩,
    ⟨(bmsg 0x16 5 []), (linked 2 rst), by decide +kernel⟩⟩

theorem witness_PairMirrorsAndSwaps :
    (∃ payload : List Byte, ∃ c : MirrorChange, ∃ s : State, (s.dx.links[0].up = true) ∧ (s.dx.mode = 2) ∧
      (beAt payload 0 1 = 0x12) ∧ (8 ≤ payload.length) ∧ (payload.length ≤ 2048) ∧ (s.standby = true) ∧
      (mirrorOf payload = some c)) ∧
    (∃ payload : List Byte, ∃ w : MirrorWait, ∃ s : State, (s.dx.links[0].up = true) ∧ (s.dx.mode = 2) ∧ (s.val 0x8110 1 ≠ 3) ∧
      (beAt payload 0 1 = 0x13) ∧ (payload.length = 8) ∧ (s.mirrorOut (beAt payload 2 2) = some w)) ∧
    (∃ w : MirrorWait, (0x10000000 ≤ MirrorWait.offset w)) ∧
    (∃ n : Fin 65536, ∃ w : MirrorWait, ∃ s : State, (s.due (.mirrorAck (Fin.val n)) = true) ∧
      ((s.disarm (.mirrorAck n.val)).mirrorOut n.val = some w)) ∧
    (∃ payload : List Byte, ∃ s : State, (s.dx.links[0].up = true) ∧ (s.dx.mode = 2) ∧ (beAt payload 0 1 = 0x14) ∧
      (payload.length = 80) ∧ (s.standby = true) ∧ (s.dx.digest.1 = beAt payload 2 4) ∧ (s.dx.digest.2.1 = beAt payload 6 4) ∧
      (s.dx.resync = false) ∧ (s.pairState ≠ 4) ∧ (s.badShares s.dx.digest.2.2 (digestCurrents payload) = [])) ∧
    (∃ payload : List Byte, ∃ s : State, (s.dx.links[0].up = true) ∧ (s.dx.mode = 2) ∧ (beAt payload 0 1 = 0x14) ∧
      (payload.length = 80) ∧ (s.standby = true) ∧ (s.dx.digest.1 = beAt payload 2 4) ∧ (s.dx.digest.2.1 ≠ beAt payload 6 4) ∧
      (s.dx.resync = false) ∧ (s.pairState ≠ 4) ∧ (s.badShares s.dx.digest.2.2 (digestCurrents payload) = [])) ∧
    (∃ s : State, (s.dx.resync = true) ∧ (s.val 0x8110 1 = 1) ∧ (s.pairState ≠ 4) ∧ (s.dx.links[0].up = true)) ∧
    (∃ s : State, (s.dx.resync = true) ∧ (s.val 0x8110 1 = 2) ∧ (s.pairState ≠ 4) ∧ (s.dx.links[0].up = true)) ∧
    (∃ s : State, (s.dx.blocksDue = true) ∧ (s.dx.resync = true) ∧ (s.standby = true) ∧ (s.dx.blocks ≠ [])) ∧
    (∃ rq : Requester, ∃ value : List Byte, ∃ s : State, (s.checkWrite rq (objKey 0x8110 0x10) value = .ok) ∧
      (s.bench = false)) ∧
    (∃ s : State, (s.pairState ≠ 4)) ∧
    (∃ rq : Requester, ∃ value : List Byte, ∃ s : State, (s.checkWrite rq (objKey 0x8110 4) value = .ok) ∧ (s.bench = false)) ∧
    (∃ s : State, (s.due .autoSwap = true)) ∧
    (∃ payload : List Byte, ∃ s : State, (s.dx.links[0].up = true) ∧ (s.dx.mode = 2) ∧ (beAt payload 0 1 = 0x15) ∧
      (payload.length = 16) ∧ (beAt payload 2 1 = 0) ∧ (s.standby = true) ∧ (s.pairState = 1) ∧ (s.dx.resync = false)) ∧
    (∃ payload : List Byte, ∃ s : State, (s.dx.links[0].up = true) ∧ (s.dx.mode = 2) ∧ (beAt payload 0 1 = 0x15) ∧
      (payload.length = 16) ∧ (beAt payload 2 1 = 1) ∧ (s.val 0x8110 1 = 1) ∧
      (s.dx.swapAt = some (s.nearTime (beAt payload 8 4) (beAt payload 12 4)))) ∧
    (∃ s : State, (s.due .swapTime = true) ∧ (s.dx.swapAccepted = false)) ∧
    (∃ s : State, (s.due .swapTime = true) ∧ (s.dx.swapAccepted = true) ∧ (s.paired = true) ∧ (s.standby = false)) ∧
    (∃ s : State, (s.dx.verifying = true) ∧ (s.due .swapVerify = true) ∧ (s.standby = false)) ∧
    (∃ s : State, (s.dx.verifying = true) ∧ (s.due .swapVerify = true) ∧ (s.standby = true)) ∧
    (∃ s : State, (s.dx.verifying = true) ∧ (s.standby = true)) ∧
    (∃ n : ℕ, ∃ s : State, (s.due .testOff = true) ∧ (s.standby = true) ∧ (s.nextOn 0 = some n)) ∧
    (∃ s : State, (s.due .testOffEnd = true) ∧ (s.standby = false)) ∧
    (∃ n : Fin 32, ∃ s : State, (s.dx.mode = 2) ∧ ((s.dio.latch &&& s.dioOutputs).testBit (Fin.val n) = false) ∧
      (s.dx.guardOpen.testBit n.val = false)) := by
  refine ⟨⟨(bmsg 0x12 8 []), _, standby, by decide +kernel, by decide +kernel, by decide +kernel, by decide +kernel,
      by decide +kernel, by decide +kernel, rfl⟩,
    ⟨(bmsg 0x13 8 [0, 0, 9]), mwait, ({ linked 2 rst with dx := { (linked 2 rst).dx with mirrorWait := [mwait] } }),
      by decide +kernel⟩,
    ⟨mwait, by decide +kernel⟩,
    ⟨9, mwait, ({ linked 2 rst with dx := { (linked 2 rst).dx with mirrorWait := [mwait] } } : State).arm (.mirrorAck 9) 0,
      by decide +kernel⟩,
    ⟨(bmsg 0x14 80 []), standby, by decide +kernel⟩,
    ⟨(bmsg 0x14 80 []), ({ standby with dx := { standby.dx with digest := (0, 1, []) } }), by decide +kernel⟩,
    ⟨(obj [(0x8110, 1, 1), (0x8110, 2, 2)] { linked 2 rst with dx := { (linked 2 rst).dx with resync := true } }),
      by decide +kernel⟩,
    ⟨({ standby with dx := { standby.dx with resync := true } }), by decide +kernel⟩,
    ⟨({ standby with dx := { standby.dx with resync := true, blocksDue := true, blocks := [(0, [])] } }), by decide +kernel⟩,
    ⟨req, (bts [1]), standby, by decide +kernel⟩,
    ⟨rst, by decide +kernel⟩,
    ⟨req, (bts [1]), standby, by decide +kernel⟩,
    ⟨(rst.arm .autoSwap 0), by decide +kernel⟩,
    ⟨(bmsg 0x15 16 []), standby, by decide +kernel⟩,
    ⟨(bmsg 0x15 16 [0, 1]), (obj [(0x8110, 1, 1)] { linked 2 rst with dx := { (linked 2 rst).dx with swapAt := some 0 } }),
      by decide +kernel⟩,
    ⟨(rst.arm .swapTime 0), by decide +kernel⟩,
    ⟨(obj [(0x8110, 1, 1)] { rst with dx := { rst.dx with swapAccepted := true } }).arm .swapTime 0, by decide +kernel⟩,
    ⟨({ rst with dx := { rst.dx with verifying := true } } : State).arm .swapVerify 0, by decide +kernel⟩,
    ⟨({ standby with dx := { standby.dx with verifying := true } } : State).arm .swapVerify 0, by decide +kernel⟩,
    ⟨({ standby with dx := { standby.dx with verifying := true } }), by decide +kernel⟩,
    ⟨0, (obj [(0x4300, 1, 1)] { standby with dio := { standby.dio with latch := 1 } }).arm .testOff 0, by decide +kernel⟩,
    ⟨(rst.arm .testOffEnd 0), by decide +kernel⟩,
    ⟨0, (linked 2 rst), by decide +kernel⟩⟩

theorem witness_EgressOrder :
    (∃ o : Output, ∃ c : Choice, ∃ f : QFrame, ∃ g : Egress, ∃ s : State, (s.choose o = some (c, f, g))) :=
  ⟨.mgmt, (⟨0, false⟩), qf, _, (queued .mgmt 0 false qf rst), rfl⟩

theorem witness_CycleAndPlan :
    (∃ s : State, (s.due .boundary = true)) ∧
    (∃ s : State, (s.cyc.realign = none) ∧ (s.cyc.change = none)) ∧
    (∃ s : State, (s.due .openWindow = true)) ∧
    (∃ s : State, (s.due .openWindow = false)) ∧
    (∃ p : RingPort, ∃ f : TakenFrame, ∃ s : State, (s.hears p = true) ∧ (f.hdr.typ.toNat = typCycleMark) ∧
      (f.payload.length = 32) ∧ (s.isKeeper = false) ∧ (s.isSource f.hdr = false) ∧
      (s.cyc.lastMark ≠ some (beAt f.payload 0 4)) ∧ ((beAt f.payload 17 1).testBit 0 = false)) ∧
    (∃ p : RingPort, ∃ f : TakenFrame, ∃ s : State, (s.hears p = true) ∧ (f.hdr.typ.toNat = typCycleMark) ∧
      (f.payload.length = 32) ∧ (s.cyc.lastMark = some (beAt f.payload 0 4))) ∧
    (∃ o : Output, ∃ f : QFrame, ∃ l : List QFrame, ∃ s : State, ((s.egress o).transit[3] = f :: l) ∧
      (nsec (s.val 0x2210 3) ≤ s.uptime - f.since)) ∧
    (∃ o : Output, ∃ f : QFrame, ∃ l : List QFrame, ∃ s : State, ((s.egress o).local_[3] = f :: l) ∧
      (nsec (s.val 0x2210 3) + s.heldByShaper o 3 f.since ≤ s.uptime - f.since)) ∧
    (∃ o : Output, ∃ f : QFrame, ∃ l : List QFrame, ∃ s : State, ((s.egress o).transit[3] = f :: l) ∧
      (s.uptime - f.since < nsec (s.val 0x2210 3))) ∧
    (∃ i : Fin 256, ∃ s : State, (s.due (.wheel (Fin.val i)) = true) ∧
      ((State.pump { ((s.disarm (.wheel i.val)).creditAge i.val) with sw := { ((s.disarm (.wheel i.val)).creditAge i.val).sw with onWheel := ((s.disarm (.wheel i.val)).creditAge i.val).sw.onWheel.filter fun k => k != i.val } }).val (0x2300 + i.val) 1 ≠ 2)) ∧
    (∃ s : State, (s.isKeeper = false)) ∧
    (∃ s : State, (s.isKeeper = true) ∧ (s.cyc.planning = true) ∧ (s.mgmt.restarting = false) ∧ (s.val 0x2200 8 = 0)) ∧
    (∃ s : State, (s.mgmt.restarting = true)) ∧
    (∃ s : State, (s.due .replan = true) ∧ (s.isKeeper = true) ∧ (s.mgmt.restarting = false)) := by
  refine ⟨⟨(rst.arm .boundary 0), by decide +kernel⟩,
    ⟨rst, by decide +kernel⟩,
    ⟨(rst.arm .openWindow 0), by decide +kernel⟩,
    ⟨rst, by decide +kernel⟩,
    ⟨.east, (tfrm 0xB 32), upE, by decide +kernel⟩,
    ⟨.east, (tfrm 0xB 32), ({ upE with cyc := { upE.cyc with lastMark := some 0 } }), by decide +kernel⟩,
    ⟨.mgmt, qf, [], ({ queued .mgmt 3 true qf rst with uptime := secs 1 }), by decide +kernel⟩,
    ⟨.mgmt, qf, [], ({ queued .mgmt 3 false qf rst with uptime := secs 1 }), by decide +kernel⟩,
    ⟨.mgmt, qf, [], (queued .mgmt 3 true qf rst), by decide +kernel⟩,
    ⟨0, (rst.arm (.wheel 0) 0), by decide +kernel⟩,
    ⟨rst, by decide +kernel⟩,
    ⟨({ keeper with cyc := { keeper.cyc with planning := true } }), by decide +kernel⟩,
    ⟨({ rst with mgmt := { rst.mgmt with restarting := true } }), by decide +kernel⟩,
    ⟨(keeper.arm .replan 0), by decide +kernel⟩⟩

theorem witness_RingTimeCommands :
    (∃ p : RingPort, ∃ f : TakenFrame, ∃ k : ℕ, ∃ s : State, (s.hears p = true) ∧ (f.hdr.typ.toNat = typSync) ∧
      (f.payload.length = 48) ∧ (s.isKeeper = false) ∧ (s.syncFault p f = some k)) ∧
    (∃ p : RingPort, ∃ f : TakenFrame, ∃ s : State, (s.hears p = true) ∧ (f.hdr.typ.toNat = typSync) ∧
      (f.payload.length = 48) ∧ (s.isKeeper = false) ∧ (s.syncFault p f = none) ∧ (s.timeState = 0) ∧
      (((s.firstTime (s.syncOffset p f)).takeSyncFields f).timeState = 1) ∧
      (((s.firstTime (s.syncOffset p f)).takeSyncFields f).val 0x3000 4 ≠ 2)) ∧
    (∃ p : RingPort, ∃ f : TakenFrame, ∃ s : State, (s.hears p = true) ∧ (f.hdr.typ.toNat = typSync) ∧
      (f.payload.length = 48) ∧ (s.isKeeper = true) ∧ (s.isSource f.hdr = true)) ∧
    (∃ s : State, (s.due .holdover = true) ∧ (s.timeState = 2)) ∧
    (∃ rq : Requester, ∃ value : List Byte, ∃ s : State, (s.checkWrite rq (objKey 0x3010 4) value = .ok) ∧ (s.bench = false)) ∧
    (∃ rq : Requester, ∃ value : List Byte, ∃ s : State, (s.checkWrite rq (objKey 0x3010 5) value = .ok) ∧ (s.bench = false)) ∧
    (∃ rq : Requester, ∃ value : List Byte, ∃ s : State, (s.checkWrite rq (objKey 0x3020 2) value = .ok) ∧ (s.bench = false)) ∧
    (∃ ns : ℕ, ∃ s : State, (s.val 0x3020 1 = 0) ∧ (((s.bump 0x3020 5).setVal 0x3020 4 (time80 (nsec ns))).isKeeper = false)) ∧
    (∃ s : State, (s.val 0x3020 1 = 0)) ∧
    (∃ s : State, (s.due .extLoss = true) ∧ (s.isKeeper = true) ∧ (s.val 0x3010 1 ≠ 0)) ∧
    (∃ s : State, (s.tu.pps = false) ∧ (s.ppsOn = true) ∧ (s.ppsPhase < 2 * tickUnits)) ∧
    (∃ s : State, (s.tu.pps = true) ∧ (nsec (s.val 0x3030 4) ≤ s.ppsPhase)) ∧
    (∃ pin : Fin 64, ∃ rising : Bool, ∃ s : State, (32 ≤ Fin.val pin) ∧
      ((s.val 0x3040 (if rising then 1 else 2)).testBit (Fin.val pin) = true)) ∧
    (∃ pin : Fin 64, ∃ s : State, (Fin.val pin < 32) ∧ (s.combOff = false)) ∧
    (∃ pin : Fin 64, ∃ rising : Bool, ∃ s : State, (32 ≤ Fin.val pin) ∧
      ((s.val 0x3040 (if rising then 1 else 2)).testBit (Fin.val pin) = false)) ∧
    (∃ s : State, (s.tu.second ≠ s.ringTime / secs 1)) ∧
    (∃ s : State, (s.tu.second = s.ringTime / secs 1)) := by
  refine ⟨⟨.east, ({ tfrm 0xA 48 with hdr := { Header.zero with typ := 0xA } }), 3, upE, by decide +kernel⟩,
    ⟨.east, syncHigh, (obj [(0x2020, 8, 1), (0x3000, 4, 0)] upE), by decide +kernel⟩,
    ⟨.east, ({ tfrm 0xA 48 with hdr := { Header.zero with typ := 0xA, sNode := 1 } }), keeper, by decide +kernel⟩,
    ⟨(obj [(0x3000, 2, 2)] rst).arm .holdover 0, by decide +kernel⟩,
    ⟨req, (bts (zeros 8)), (obj [(0x3010, 1, 1)] keeper), by decide +kernel⟩,
    ⟨req, (bts (zeros 10)), keeper, by decide +kernel⟩,
    ⟨req, (bts (zeros 8)), rst, by decide +kernel⟩,
    ⟨0, rst, by decide +kernel⟩,
    ⟨rst, by decide +kernel⟩,
    ⟨(obj [(0x3010, 1, 1)] keeper).arm .extLoss 0, by decide +kernel⟩,
    ⟨(obj [(0x3030, 1, 1), (0x3000, 2, 2)] rst), by decide +kernel⟩,
    ⟨({ rst with ringTime := msec 999, tu := { rst.tu with pps := true } }), by decide +kernel⟩,
    ⟨32, false, (obj [(0x3040, 2, 2 ^ 32)] rst), by decide +kernel⟩,
    ⟨0, rst, by decide +kernel⟩,
    ⟨32, false, rst, by decide +kernel⟩,
    ⟨({ rst with ringTime := secs 1 }), by decide +kernel⟩,
    ⟨({ rst with ringTime := secs 1 - 1 }), by decide +kernel⟩⟩

theorem witness_Waggles :
    (∃ rq : Requester, ∃ e : Fin 4096, ∃ s : State, (s.notMine rq = false) ∧
      ((s.checkAccess rq .write (0x50000000 + 64 * Fin.val e) 48).2 = .ok)) ∧
    (∃ rq : Requester, ∃ e : Fin 4096, ∃ s : State, (s.notMine rq = false) ∧
      ((s.checkAccess rq .write (0x50000000 + 64 * Fin.val e) 4).2 = .ok)) ∧
    (∃ offset : ℕ, ∃ bytes : List Byte, ∃ e : ℕ, ∃ l : List ℕ, ∃ s : State, (s.wagDecode offset bytes = (.ok, e, l)) ∧
      (s.mirroring = false)) ∧
    (∃ offset : ℕ, ∃ bytes : List Byte, ∃ e : ℕ, ∃ l : List ℕ, ∃ s : State, (s.wagDecode offset bytes = (.range, e, l))) ∧
    (∃ e : Fin 4096, ∃ d : ℕ, ∃ s : State, ((s.wagEntry (Fin.val e)).due = some d) ∧ ((s.wagEntry e.val).st = 2) ∧
      (d ≤ s.nowNs + 1000) ∧ (s.wagHeld (s.wagEntry e.val) = false)) ∧
    (∃ e : Fin 4096, ∃ d : ℕ, ∃ s : State, (((s.wagRefresh).wagEntry (Fin.val e)).due = some d) ∧
      ((s.wagRefresh).wagDue ((s.wagRefresh).wagEntry (Fin.val e)) = true) ∧
      ((if (s.wagRefresh).wag.tick = (s.wagRefresh).nowTick then (s.wagRefresh).wag.inTick else 0) < 16)) ∧
    (∃ e : Fin 4096, ∃ s : State, ((s.wagRefresh.wagEntry (Fin.val e)).action ≠ 1)) ∧
    (∃ x : WagEntry, ∃ cause : ℕ, ∃ s : State, (s.wagSuppress x.action = some cause)) ∧
    (∃ x : WagEntry, ∃ d : ℕ, ∃ s : State, (s.wagSuppress x.action = none) ∧ (s.ringTime ≤ nsec d)) ∧
    (∃ x : WagEntry, (x.action = 4)) ∧
    (∃ x : WagEntry, (x.action = 6)) ∧
    (∃ d : ℕ, ∃ s : State, (s.nowNs + 1000 ≤ d)) ∧
    (∃ d : ℕ, ∃ s : State, (s.nowNs ≤ d) ∧ (d < s.nowNs + 1000)) ∧
    (∃ x : WagEntry, ∃ d l : ℕ, ∃ s : State, (d < s.nowNs) ∧ (s.lateLimit x = some l) ∧ (l ≤ s.nowNs - d)) ∧
    (∃ x : WagEntry, ∃ d l : ℕ, ∃ s : State, (d < s.nowNs) ∧ (s.lateLimit x = some l) ∧ (s.nowNs - d < l)) ∧
    (∃ rq : Requester, ∃ value : List Byte, ∃ s : State, (s.checkWrite rq (objKey 0x3110 3) value = .ok) ∧
      (s.bench = false)) := by
  refine ⟨⟨req, 0, rst, by decide +kernel⟩,
    ⟨req, 0, rst, by decide +kernel⟩,
    ⟨0x50000000, (bts (zeros 48)), _, _, rst, rfl, by decide +kernel⟩,
    ⟨0x50000000, (bts [0, 0, 0, 16]), _, _, rst, rfl⟩,
    ⟨0, 0, (waggled 2 0), by decide +kernel⟩,
    ⟨0, 0, (waggled 4 0), by decide +kernel⟩,
    ⟨0, (waggled 4 2), by decide +kernel⟩,
    ⟨({ words := [16777216] }), 1, (obj [(0x6000, 1, 1)] rst), by decide +kernel⟩,
    ⟨{}, 0, rst, by decide +kernel⟩,
    ⟨({ words := [16777216 * 4] }), by decide +kernel⟩,
    ⟨({ words := [16777216 * 6] }), by decide +kernel⟩,
    ⟨1000, rst, by decide +kernel⟩,
    ⟨999, rst, by decide +kernel⟩,
    ⟨({ words := [1] }), 0, 1000, ({ rst with ringTime := nsec 1000 }), by decide +kernel⟩,
    ⟨({ words := [1] }), 0, 1000, ({ rst with ringTime := nsec 999 }), by decide +kernel⟩,
    ⟨req, (bts [0]), rst, by decide +kernel⟩⟩

theorem witness_Axes :
    (∃ p : RingPort, ∃ f : TakenFrame, ∃ i : Fin 16, ∃ s : State, (s.hears p = true) ∧ (f.hdr.typ.toNat = typAxis) ∧
      (s.isSource f.hdr = false) ∧ (f.payload.length = 40) ∧ (s.followOf (beAt f.payload 0 1 % 64) = some i) ∧
      (s.val (0x3210 + i.val) 2 = f.hdr.sNode.toNat)) ∧
    (∃ p : RingPort, ∃ f : TakenFrame, ∃ i : Fin 16, ∃ s : State, (s.hears p = true) ∧ (f.hdr.typ.toNat = typAxis) ∧
      (s.isSource f.hdr = false) ∧ (f.payload.length = 40) ∧ (s.followOf (beAt f.payload 0 1 % 64) = some i) ∧
      (s.val (0x3210 + i.val) 2 ≠ f.hdr.sNode.toNat)) ∧
    (∃ p : RingPort, ∃ f : TakenFrame, ∃ s : State, (s.hears p = true) ∧ (f.hdr.typ.toNat = typAxis) ∧
      (s.isSource f.hdr = false) ∧ (f.payload.length ≠ 40)) ∧
    (∃ i : Fin 16, ∃ s : State, (s.due (.axisStale i) = true)) ∧
    (∃ i : Fin 16, ∃ s : State, (s.val (0x3210 + Fin.val i) 4 ≠ 2)) ∧
    (∃ rq : Requester, ∃ i : Fin 4, ∃ value : List Byte, ∃ s : State,
      (s.checkWrite rq (objKey (0x3200 + Fin.val i) 5) value = .ok) ∧ (s.bench = false)) := by
  refine ⟨⟨.east, (tfrm 0xE 40), 0, (obj [(0x3210, 1, 0), (0x3210, 2, 5)] upE), by decide +kernel⟩,
    ⟨.east, (tfrm 0xE 40), 0, (obj [(0x3210, 1, 0), (0x3210, 2, 6)] upE), by decide +kernel⟩,
    ⟨.east, (tfrm 0xE 39), upE, by decide +kernel⟩,
    ⟨0, (rst.arm (.axisStale 0) 0), by decide +kernel⟩,
    ⟨0, rst, by decide +kernel⟩,
    ⟨req, 0, (bts (zeros 8)), rst, by decide +kernel⟩⟩

theorem witness_RequestsServed :
    (∃ f : TakenFrame, ∃ s : State, (beAt f.payload 4 1 % 4 = s.val 0x1001 3) ∧ (s.paired = false) ∧
      ((beAt f.payload 0 4 ≠ 0 ∨ beAt f.payload 6 2 = 0))) ∧
    (∃ f : TakenFrame, ∃ s : State, (beAt f.payload 4 1 % 4 = s.val 0x1001 3) ∧ (s.paired = false) ∧ (beAt f.payload 0 4 = 0) ∧
      (beAt f.payload 6 2 ≠ 0)) ∧
    (∃ f : TakenFrame, ∃ s : State, (beAt f.payload 4 1 % 4 ≠ s.val 0x1001 3) ∧ (s.dx.mode = 0)) ∧
    (∃ f : TakenFrame, ∃ d : List Byte, ∃ s : State, (beAt f.payload 4 1 % 4 = s.val 0x1001 3) ∧ (s.paired = false) ∧
      (writeData f = some d)) ∧
    (∃ f : TakenFrame, ∃ s : State, (beAt f.payload 4 1 % 4 = s.val 0x1001 3) ∧ (s.paired = false) ∧ (writeData f = none)) ∧
    (∃ f : TakenFrame, ∃ d : List Byte, ∃ s : State, (beAt f.payload 4 1 % 4 = s.val 0x1001 3) ∧ (s.paired = false) ∧
      (writeData f = some d)) ∧
    (∃ f : TakenFrame, ∃ s : State, (beAt f.payload 4 1 % 4 = s.val 0x1001 3) ∧ (s.paired = false)) ∧
    (∃ f : TakenFrame, ∃ s : State, (beAt f.payload 4 1 % 4 = s.val 0x1001 3) ∧ (s.paired = false)) ∧
    (∃ f : TakenFrame, ∃ s : State, (beAt f.payload 4 1 % 4 = s.val 0x1001 3) ∧ (s.paired = false)) ∧
    (∃ m : MasterId, ∃ f : FenceState, ∃ s : State,
      ((s.bridge.fences.filter s.fenceLive).find? (fun x => x.master == m) = some f)) ∧
    (∃ rq : Requester, ∃ s : State, (s.dx.mirrorWait = []) ∧ ((s.touchFence rq.master).2.1 = true)) := by
  refine ⟨⟨(frm 0 (zeros 8)), rst, by decide +kernel⟩,
    ⟨(frm 0 [0, 0, 0, 0, 0, 0, 0, 4]), rst, by decide +kernel⟩,
    ⟨(frm 0 [0, 0, 0, 0, 1, 0, 0, 0]), rst, by decide +kernel⟩,
    ⟨(frm 0 [0, 0, 0, 0, 0, 0, 0, 1, 9]), (bts [9]), rst, by decide +kernel⟩,
    ⟨(frm 0 (zeros 8)), rst, by decide +kernel⟩,
    ⟨(frm 0 [0, 0, 0, 0, 0, 0, 0, 1, 9]), (bts [9]), rst, by decide +kernel⟩,
    ⟨(frm 0 (zeros 8)), rst, by decide +kernel⟩,
    ⟨(frm 0 (zeros 8)), rst, by decide +kernel⟩,
    ⟨(frm 0 (zeros 8)), rst, by decide +kernel⟩,
    ⟨(⟨0, 5, 1⟩), ({ master := ⟨0, 5, 1⟩ }), ({ rst with bridge := { rst.bridge with fences := [{ master := ⟨0, 5, 1⟩ }] } }),
      by decide +kernel⟩,
    ⟨req, rst, by decide +kernel⟩⟩

theorem witness_RequestsMade :
    (∃ addr : BitVec 64, (bitField (BitVec.toNat addr) 46 34 ≠ 0)) ∧
    (∃ addr : BitVec 64, ∃ s : State, (bitField (BitVec.toNat addr) 46 34 = 0) ∧ (bitField addr.toNat 59 47 = 0) ∧
      (bitField addr.toNat 33 32 = 0) ∧ (s.standby = false)) ∧
    (∃ addr : BitVec 64, ∃ s : State, (bitField (BitVec.toNat addr) 46 34 = 0) ∧ (bitField addr.toNat 59 47 ≠ 0) ∧
      (bitField addr.toNat 59 47 ≠ 8191) ∧ (bitField addr.toNat 59 47 ≠ s.node) ∧ (bitField addr.toNat 63 60 = s.ring) ∧
      (s.bench = false) ∧ (s.reachesNode (bitField addr.toNat 59 47) = true)) ∧
    (∃ f : TakenFrame, ∃ p : Pending, ∃ res : Result, ∃ s : State,
      (s.pendingOf f.hdr.dMaster.toNat f.hdr.tag.toNat f.hdr.sRing.toNat f.hdr.sNode.toNat = some p) ∧ (p.typ ≠ typReadReq) ∧
      (Result.ofCode (beAt f.payload 0 1) = some res)) ∧
    (∃ f : TakenFrame, ∃ s : State,
      (s.pendingOf f.hdr.dMaster.toNat f.hdr.tag.toNat f.hdr.sRing.toNat f.hdr.sNode.toNat = none)) ∧
    (∃ p : Pending, (p.typ ≠ typLock) ∧ (p.silent = false)) ∧
    (∃ num : Fin 16, ∃ tag : Fin 65536, ∃ p : Pending, ∃ s : State, (s.due (.reqTimeout num tag) = true) ∧
      (s.bridge.waiting = []) ∧ (s.bridge.outstanding = [p]) ∧ (p.num = num) ∧ (p.tag = tag)) ∧
    (∃ rq : Requester, ∃ value : List Byte, ∃ s : State, (s.checkWrite rq (objKey 0x8310 3) value = .ok) ∧ (s.bench = false)) ∧
    (∃ n : Fin 32, ∃ s : State, (s.val (0x8200 + Fin.val n) 1 = 0)) ∧
    (∃ n : Fin 32, ∃ f : TakenFrame, ∃ x : CanFrame, ∃ s : State, (s.val (0x8200 + Fin.val n) 1 = 1) ∧
      (s.val (0x8200 + n.val) 4 ≠ 0) ∧ (beAt f.payload 0 1 = 1) ∧
      (s.permits { master := s.localMaster 9, tag := 0, via := .posted, cls := Fin.ofNat 4 f.hdr.cls.toNat } ((targetOf (s.tunnelPort n)).getD 0) .write (s.tunnelPort n) (s.tunnelPort n) = true) ∧
      (tunnelFrame f.payload = some x)) ∧
    (∃ n : Fin 32, ∃ x : Replay, ∃ l : List Replay, ∃ s : State, (s.bridge.endpoints[Fin.val n].replay = x :: l) ∧
      (x.at_ ≤ s.nowNs) ∧ (s.val (0x8200 + n.val) 1 = 1)) ∧
    (∃ n : Fin 32, ∃ x : Replay, ∃ l : List Replay, ∃ s : State, (s.bridge.endpoints[Fin.val n].replay = x :: l) ∧
      (s.nowNs < x.at_)) := by
  refine ⟨⟨0x400000000#64, by decide +kernel⟩,
    ⟨0x1FFFFFFF#64, rst, by decide +kernel⟩,
    ⟨(BitVec.ofNat 64 (9 * 2 ^ 47)), hub1, by decide +kernel⟩,
    ⟨(frm 0 [0]), (pend 3), .ok, ({ rst with bridge := { rst.bridge with outstanding := [pend 3] } }), by decide +kernel⟩,
    ⟨(frm 0 [0]), rst, by decide +kernel⟩,
    ⟨(pend 3), by decide +kernel⟩,
    ⟨0, 0, (pend 2), ({ rst with bridge := { rst.bridge with outstanding := [pend 2] } } : State).arm (.reqTimeout 0 0) 0,
      by decide +kernel⟩,
    ⟨req, (bts [0]), rst, by decide +kernel⟩,
    ⟨0, rst, by decide +kernel⟩,
    ⟨0, (frm 0 ([1] ++ zeros 23)), _, (obj [(0x8200, 1, 1), (0x8200, 4, 1)] rst), by decide +kernel, by decide +kernel,
      by decide +kernel, by decide +kernel, rfl⟩,
    ⟨0, (⟨0, 5, [], []⟩), [], (obj [(0x8200, 1, 1)] (replaying 0 rst)), by decide +kernel⟩,
    ⟨0, (⟨1, 5, [], []⟩), [], (replaying 1 rst), by decide +kernel⟩⟩

theorem witness_Locks :
    (∃ rq : Requester, ∃ b : Fin 16, ∃ lease wait : BitVec 32, ∃ s : State, (s.notMine rq = false) ∧
      (s.permits rq (Fin.val b + 1) .atomicLock (busOffset b) (busOffset b) = true) ∧ (s.bridge.buses[b.val].holder = none) ∧
      (BitVec.toNat lease = 0) ∧ (BitVec.toNat wait ≤ 1000000)) ∧
    (∃ rq : Requester, ∃ b : Fin 16, ∃ issue : ℕ, ∃ lease wait : BitVec 32, ∃ h : Ticket, ∃ g : ℕ, ∃ s : State,
      (s.notMine rq = false) ∧ (s.permits rq (Fin.val b + 1) .atomicLock (busOffset b) (busOffset b) = true) ∧
      (s.bridge.buses[b.val].holder = some (h, g)) ∧ (h ≠ ⟨issue, rq.master⟩) ∧ (Ticket.older ⟨issue, rq.master⟩ h = false) ∧
      (BitVec.toNat lease = 0) ∧ (BitVec.toNat wait ≤ 1000000)) ∧
    (∃ rq : Requester, ∃ b : Fin 16, ∃ issue : ℕ, ∃ lease wait : BitVec 32, ∃ h : Ticket, ∃ g : ℕ, ∃ s : State,
      (s.notMine rq = false) ∧ (s.permits rq (Fin.val b + 1) .atomicLock (busOffset b) (busOffset b) = true) ∧
      (s.bridge.buses[b.val].holder = some (h, g)) ∧ (h ≠ ⟨issue, rq.master⟩) ∧ (Ticket.older ⟨issue, rq.master⟩ h = true) ∧
      (s.bridge.buses[b.val].waiters.length < 8) ∧ (BitVec.toNat lease = 0) ∧ (BitVec.toNat wait ≤ 1000000)) ∧
    (∃ rq : Requester, ∃ b : Fin 16, ∃ h : Ticket, ∃ g : ℕ, ∃ s : State, (s.notMine rq = false) ∧
      (s.permits rq (Fin.val b + 1) .atomicLock (busOffset b) (busOffset b) = true) ∧ (s.bridge.buses[b.val].holder = some (h,
      g)) ∧ (h.master = rq.master)) ∧
    (∃ rq : Requester, ∃ b : Fin 16, ∃ s : State, (s.notMine rq = false) ∧
      (s.permits rq (Fin.val b + 1) .atomicLock (busOffset b) (busOffset b) = true) ∧ (s.bridge.buses[b.val].holder = none)) ∧
    (∃ rq : Requester, ∃ b : Fin 16, ∃ h : Ticket, ∃ g : ℕ, ∃ s : State, (s.notMine rq = false) ∧
      (s.permits rq (Fin.val b + 1) .atomicLock (busOffset b) (busOffset b) = true) ∧ (s.bridge.buses[b.val].holder = some (h,
      g)) ∧ (h.master = rq.master) ∧ (s.isLocal rq.master = false)) ∧
    (∃ rq : Requester, ∃ b : Fin 16, ∃ s : State, (s.notMine rq = false) ∧
      (s.permits rq (Fin.val b + 1) .atomicLock (busOffset b) (busOffset b) = false)) ∧
    (∃ b : Fin 16, ∃ m : MasterId, ∃ t : Ticket, ∃ lease : ℕ, ∃ rq : Requester, ∃ s : State,
      (s.due (.lockWait (Fin.val b) m) = true) ∧ (s.bridge.buses[b.val].waiters.find? (fun w => w.1.master == m) = some (t,
      lease, rq))) ∧
    (∃ b : Fin 16, ∃ h : Ticket, ∃ g : ℕ, ∃ s : State, (s.due (.lease (Fin.val b)) = true) ∧
      (s.bridge.buses[b.val].holder = some (h, g)) ∧ (s.isLocal h.master = false)) ∧
    (∃ b : Fin 16, ∃ t : Ticket, ∃ lease : ℕ, ∃ rq : Requester, ∃ l : List (Ticket × ℕ × Requester), ∃ s : State,
      (s.bridge.buses[Fin.val b].waiters = (t, lease, rq) :: l)) ∧
    (∃ n : Fin 16, ∃ s : State, (s.due (.backoff n) = true) ∧ (s.bridge.waiting = [])) := by
  refine ⟨⟨req, 0, 0, 1000000#32, rst, by decide +kernel⟩,
    ⟨req, 0, 1, 0, 1000000#32, (⟨0, ⟨0, 3, 0⟩⟩), 0, (locked ⟨0, ⟨0, 3, 0⟩⟩ [] rst), by decide +kernel⟩,
    ⟨req, 0, 0, 0, 0, (⟨5, ⟨0, 3, 0⟩⟩), 0, (locked ⟨5, ⟨0, 3, 0⟩⟩ [] rst), by decide +kernel⟩,
    ⟨req, 0, (⟨0, ⟨0, 0, 0⟩⟩), 0, (locked ⟨0, ⟨0, 0, 0⟩⟩ [] rst), by decide +kernel⟩,
    ⟨req, 0, rst, by decide +kernel⟩,
    ⟨reqFar, 0, (⟨0, ⟨0, 5, 1⟩⟩), 0, (locked ⟨0, ⟨0, 5, 1⟩⟩ [] rst), by decide +kernel⟩,
    ⟨reqFar, 0, (obj [(0x7101, 0x81, 0)] rst), by decide +kernel⟩,
    ⟨0, (⟨0, 5, 1⟩), (⟨9, ⟨0, 5, 1⟩⟩), 10, reqFar, (locked ⟨0, ⟨0, 3, 0⟩⟩ [(⟨9, ⟨0, 5, 1⟩⟩, 10,
      reqFar)] rst).arm (.lockWait 0 ⟨0, 5, 1⟩) 0, by decide +kernel⟩,
    ⟨0, (⟨0, ⟨0, 5, 1⟩⟩), 0, (locked ⟨0, ⟨0, 5, 1⟩⟩ [] rst).arm (.lease 0) 0, by decide +kernel⟩,
    ⟨0, (⟨9, ⟨0, 5, 1⟩⟩), 10, reqFar, [], (locked ⟨0, ⟨0, 3, 0⟩⟩ [(⟨9, ⟨0, 5, 1⟩⟩, 10, reqFar)] rst), by decide +kernel⟩,
    ⟨0, (rst.arm (.backoff 0) 0), by decide +kernel⟩⟩

theorem witness_LocksAreExclusive :
    (∃ x y : Ticket, (x ≠ y)) ∧
    (∃ x y z : Ticket, (x.older y = true) ∧ (y.older z = true)) ∧
    (∃ l : List (Ticket × ℕ × Requester), (l.Pairwise (fun a b => b.1.older a.1 = false))) := by
  refine ⟨⟨(⟨0, ⟨0, 5, 1⟩⟩), (⟨0, ⟨0, 5, 2⟩⟩), by decide +kernel⟩,
    ⟨(⟨0, ⟨0, 5, 1⟩⟩), (⟨0, ⟨0, 5, 2⟩⟩), (⟨1, ⟨0, 0, 0⟩⟩), by decide +kernel⟩,
    ⟨([(⟨0, ⟨0, 5, 1⟩⟩, 0, req), (⟨0, ⟨0, 5, 2⟩⟩, 0, req)]), by decide +kernel⟩⟩

theorem witness_HostLink :
    (∃ s : State, (s.hostLive = true)) ∧
    (∃ s : State, (s.hostLive = false)) ∧
    (∃ offset : Fin 16777216, ∃ s : State, (s.hostLive = true) ∧ (s.flag (0x8510 + (s.aperture offset).1.val) 4 = true)) ∧
    (∃ offset : Fin 16777216, ∃ s : State, (s.hostLive = true) ∧ (s.flag (0x8510 + (s.aperture offset).1.val) 4 = false)) ∧
    (∃ offset : Fin 16777216, ∃ s : State, (s.hostLive = true) ∧ (s.flag (0x8510 + (s.aperture offset).1.val) 4 = true) ∧
      (s.val (0x8510 + (s.aperture offset).1.val) 3 = 0)) ∧
    (∃ offset : Fin 16777216, ∃ s : State, (s.hostLive = true) ∧ (s.flag (0x8510 + (s.aperture offset).1.val) 4 = true) ∧
      (s.val (0x8510 + (s.aperture offset).1.val) 3 ≠ 0)) ∧
    (∃ s : State, (s.hostLive = true)) ∧
    (∃ s : State, (s.hostLive = true)) ∧
    (∃ bytes : List Byte, ∃ s : State, (s.hostLive = true) ∧ (bytes.length = 4)) ∧
    (∃ len : Fin 4097, ∃ s : State, (s.hostLive = true) ∧ (len.val = 4)) ∧
    (∃ c : Fin 4, ∃ flow : Fin 65536, ∃ s : State, (s.txReady c = true) ∧ ((∀ k, k < c → s.txReady k = false)) ∧
      (s.lookup s.ring s.flowNode (Fin.val flow) = none)) ∧
    (∃ c : Fin 4, ∃ f : QFrame, ∃ d : Desc, ∃ l : List QFrame, ∃ s : State, (s.rxReady c = true) ∧ ((∀ k, k < c →
      s.rxReady k = false)) ∧ ((s.egress .bl2).local_[Fin.val c] = f :: l) ∧ (f.entry = some d)) ∧
    (∃ r : Fin 8, ∃ s : State, (s.due (.coalesce (Fin.val r)) = true)) ∧
    (∃ r : Fin 8, ∃ s : State, (s.ringLive r = true)) ∧
    (∃ s : State, (s.pcieMode = true)) ∧
    (∃ s : State, (s.pcieMode = true) ∧ (s.host.perst = false)) ∧
    (∃ s : State, (s.pcieMode = true) ∧ (s.host.perst = false) ∧ (s.val 0x8500 2 = 2) ∧ (s.isolated 5 = false)) ∧
    (∃ s : State, (s.pcieMode = true) ∧ (3 ≤ s.val 0x8500 2)) := by
  refine ⟨⟨(hosted 0), by decide +kernel⟩,
    ⟨rst, by decide +kernel⟩,
    ⟨0, (obj [(0x8510, 4, 1)] (hosted 0)), by decide +kernel⟩,
    ⟨0, (hosted 0), by decide +kernel⟩,
    ⟨0, (obj [(0x8510, 4, 1)] (hosted 0)), by decide +kernel⟩,
    ⟨0, (obj [(0x8510, 4, 1), (0x8510, 3, 1)] (hosted 0)), by decide +kernel⟩,
    ⟨(hosted 0), by decide +kernel⟩,
    ⟨(hosted 0), by decide +kernel⟩,
    ⟨(bts (zeros 4)), (hosted 0), by decide +kernel⟩,
    ⟨4, (hosted 0), by decide +kernel⟩,
    ⟨0, 0, (hosted 0), by decide +kernel⟩,
    ⟨0, ({ qf with entry := some dsc }), dsc, [], (queued .bl2 0 false { qf with entry := some dsc } (hosted 4)),
      by decide +kernel⟩,
    ⟨0, (rst.arm (.coalesce 0) 0), by decide +kernel⟩,
    ⟨0, (hosted 0), by decide +kernel⟩,
    ⟨(hosted 0), by decide +kernel⟩,
    ⟨(hosted 0), by decide +kernel⟩,
    ⟨(obj [(0x8500, 2, 2)] (hosted 0)), by decide +kernel⟩,
    ⟨(hosted 0), by decide +kernel⟩⟩

theorem witness_WindowAccess :
    (∃ rq : Requester, ∃ offset : ℕ, ∃ bytes : List Byte, ∃ s : State, (s.notMine rq = false) ∧
      ((s.checkAccess rq .write offset (List.length bytes)).2 = .ok)) ∧
    (∃ rq : Requester, ∃ offset : ℕ, ∃ bytes : List Byte, ∃ e : Result, ∃ s : State, (s.notMine rq = false) ∧
      ((s.checkAccess rq .write offset (List.length bytes)).2 = e) ∧ (e ≠ .ok)) ∧
    (∃ rq : Requester, ∃ offset : ℕ, ∃ s : State, (s.notMine rq = true) ∧ (offset / 0x10000000 ≠ 3)) ∧
    (∃ rq : Requester, ∃ offset len : ℕ, ∃ s : State, (s.notMine rq = false) ∧ (s.mirroring = false) ∧
      ((s.checkAccess rq .read offset len).2 = .ok)) ∧
    (∃ rq : Requester, ∃ right : Right, ∃ offset len t : ℕ, ∃ s : State, (targetOf offset = some t) ∧
      (s.permits rq t right offset (offset + len - 1) = false)) ∧
    (∃ rq : Requester, ∃ right : Right, ∃ offset len t : ℕ, ∃ b : Fin 16, ∃ h : Ticket, ∃ lease : ℕ, ∃ s : State,
      (targetOf offset = some t) ∧ (s.permits rq t right offset (offset + len - 1) = true) ∧ (busOf t = some b) ∧
      (s.bridge.buses[Fin.val b].holder = some (h, lease)) ∧ (h.master ≠ rq.master) ∧ (rq.locked = false)) ∧
    (∃ rq : Requester, ∃ right : Right, ∃ offset len t : ℕ, ∃ b : Fin 16, ∃ h : Ticket, ∃ lease : ℕ, ∃ s : State,
      (targetOf offset = some t) ∧ (s.permits rq t right offset (offset + len - 1) = true) ∧ (busOf t = some b) ∧
      (s.bridge.buses[Fin.val b].holder = some (h, lease)) ∧ (h.master = rq.master) ∧ (rq.locked = true)) ∧
    (∃ offset : ℕ, (targetOf offset = none)) := by
  refine ⟨⟨req, 0x10000000, (bts [1]), rst, by decide +kernel⟩,
    ⟨req, 0x60000000, (bts [1]), .noTarget, rst, by decide +kernel⟩,
    ⟨reqFar, 0x10000000, standby, by decide +kernel⟩,
    ⟨req, 0x10000000, 4, rst, by decide +kernel⟩,
    ⟨reqFar, .write, 0x10000000, 4, 1, (obj [(0x7101, 0x81, 0)] rst), by decide +kernel⟩,
    ⟨req, .write, 0x10000000, 4, 1, 0, (⟨0, ⟨0, 5, 1⟩⟩), 0, (locked ⟨0, ⟨0, 5, 1⟩⟩ [] rst), by decide +kernel⟩,
    ⟨({ req with locked := true }), .write, 0x10000000, 4, 1, 0, (⟨0, ⟨0, 0, 0⟩⟩), 0, (locked ⟨0, ⟨0, 0, 0⟩⟩ [] rst),
      by decide +kernel⟩,
    ⟨0x60000000, by decide +kernel⟩⟩

theorem witness_CanBuffers :
    (∃ n : Fin 8, ∃ b : Fin 32, ∃ s : State, ((s.canPort n).bufs[b].status = 0) ∧
      (s.canValid n (imgFrame (s.canPort n).bufs[b].img) = true) ∧ (imgReservedOk (s.canPort n).bufs[b].img = true)) ∧
    (∃ n : Fin 8, ∃ b : Fin 32, ∃ s : State, ((s.canPort n).bufs[b].status = 0) ∧
      (s.canValid n (imgFrame (s.canPort n).bufs[b].img) = false)) ∧
    (∃ n : Fin 8, ∃ b : Fin 32, ∃ s : State, ((s.canPort n).bufs[b].status = 1)) ∧
    (∃ n : Fin 8, ∃ b : Fin 32, ∃ payload : List Byte, ∃ f : CanFrame, ∃ s : State, (bodyFrame payload 16 = some f) ∧
      (s.canValid n f = true) ∧ ((s.canPort n).bufs[b].status = 0)) ∧
    (∃ payload : List Byte, (bodyFrame payload 16 = none)) ∧
    (∃ n : Fin 8, ∃ b : Fin 32, ∃ f : CanFrame, ∃ s : State, ((s.canPort n).chosen = some (.buf b)) ∧ (s.canLive n = true) ∧
      ((s.canPort n).active = none) ∧ (s.canFrameOf n (.buf b) = some f) ∧ (f.flags.testBit 3 = false)) ∧
    (∃ n : Fin 8, ∃ b : Fin 32, ∃ sof : ℕ, ∃ s : State, ((s.canPort n).active = some (.buf b, sof, false)) ∧
      ((s.canPort n).bufs[b].status = 1) ∧ ((s.canPort n).bufs[b].cancel = false)) ∧
    (∃ n : Fin 8, ∃ sof : ℕ, ∃ nb : Bool, ∃ s : State, ((s.canPort n).active = some (.sdo, sof, nb)) ∧ (s.canState n = 3) ∧
      ((s.canPort n).then_ = .stay) ∧ ((s.canPort n).reply = none)) ∧
    (∃ n : Fin 8, ∃ s : State, ((s.canPort n).active = none)) := by
  refine ⟨⟨0, 0, rst, by decide +kernel⟩,
    ⟨0, 0, (canp (canBuf { img := 0x800 }) rst), by decide +kernel⟩,
    ⟨0, 0, (canp (canBuf { status := 1 }) rst), by decide +kernel⟩,
    ⟨0, 0, (bts (zeros 24)), _, rst, rfl, by decide +kernel⟩,
    ⟨[], by decide +kernel⟩,
    ⟨0, 0, _, (obj [(0x4030, 1, 3)] (canp { canBuf { status := 1 } with chosen := some (.buf 0) } rst)), by decide +kernel,
      by decide +kernel, by decide +kernel, rfl, by decide +kernel⟩,
    ⟨0, 0, 0, (canp { canBuf { status := 1 } with active := some (.buf 0, 0, false) } rst), by decide +kernel⟩,
    ⟨0, 0, false, (obj [(0x4030, 1, 3)] (canp { active := some (.sdo, 0, false) } rst)), by decide +kernel⟩,
    ⟨0, rst, by decide +kernel⟩⟩

theorem witness_CanPorts :
    (∃ n : Fin 8, ∃ s : State, (s.canState n = 2)) ∧
    (∃ n : Fin 8, ∃ s : State, (s.canState n ≠ 2)) ∧
    (∃ n : Fin 8, ∃ s : State, ((s.canPort n).active = none) ∧ ((s.canPort n).then_ = .stay) ∧ (s.canLive n = true) ∧
      (s.contenders n = [])) ∧
    (∃ n : Fin 8, ∃ c : CanTx, ∃ r o : ℕ, ∃ s : State, ((s.canPort n).active = none) ∧ ((s.canPort n).then_ = .stay) ∧
      (s.canLive n = true) ∧ (s.contenders n = [(c, r, o)])) ∧
    (∃ n : Fin 8, ∃ s : State, (s.canHears n = false)) ∧
    (∃ n : Fin 8, ∃ s : State, (s.canHears n = true) ∧ (s.canState n = 6)) ∧
    (∃ n : Fin 8, ∃ f : CanFrame, ∃ s : State, (s.canCfg n 3 = 0) ∧ (filterMatches (s.val (0x4028 + Fin.val n) 1) f = false) ∧
      (filterMatches (s.val (0x4028 + n.val) 4) f = false) ∧ ((∀ k < 128,
      filterMatches (s.val (0x4020 + n.val) (k + 1)) f = false))) ∧
    (∃ n : Fin 8, ∃ f : CanFrame, ∃ k : ℕ, ∃ s : State, (s.canCfg n 3 = 0) ∧
      (filterMatches (s.val (0x4028 + Fin.val n) 1) f = false) ∧ (filterMatches (s.val (0x4028 + n.val) 4) f = false) ∧
      (k < 128) ∧ ((∀ m < k, filterMatches (s.val (0x4020 + n.val) (m + 1)) f = false)) ∧
      (filterMatches (s.val (0x4020 + n.val) (k + 1)) f = true) ∧ (bitField (s.val (0x4020 + n.val) (k + 1)) 31 29 = 1)) ∧
    (∃ n : Fin 8, ∃ s : State, ((s.canPort n).rx.length < 64)) ∧
    (∃ n : Fin 8, ∃ s : State, (s.canLive n = false)) ∧
    (∃ n : Fin 8, ∃ s : State, (s.canState n = 5)) ∧
    (∃ n : Fin 8, ∃ s : State, (s.canState n ≠ 5)) ∧
    (∃ n : Fin 8, ∃ s : State, (s.canTiming n 0xD = 1) ∧ (s.canState n = 6)) ∧
    (∃ n : Fin 8, ∃ s : State, (s.canTiming n 0xD ≠ 1)) ∧
    (∃ n : Fin 8, ∃ s : State, (s.canLive n = true)) ∧
    (∃ n : Fin 8, ∃ s : State, (s.canLive n = false)) ∧
    (∃ rq : Requester, ∃ n : Fin 8, ∃ value : List Byte, ∃ s : State,
      (s.checkWrite rq (objKey (0x4000 + Fin.val n) 7) value = .ok) ∧ (s.bench = false)) ∧
    (∃ rq : Requester, ∃ n : Fin 8, ∃ value : List Byte, ∃ s : State,
      (s.checkWrite rq (objKey (0x4000 + Fin.val n) 1) value = .ok) ∧ (s.bench = false)) ∧
    (∃ n : Fin 8, ∃ s : State, (s.canState n = 0)) ∧
    (∃ n : Fin 8, ∃ s : State, (s.isolated (8 + Fin.val n) = true)) := by
  refine ⟨⟨0, (obj [(0x4030, 1, 2)] rst), by decide +kernel⟩,
    ⟨0, rst, by decide +kernel⟩,
    ⟨0, (obj [(0x4030, 1, 3)] rst), by decide +kernel⟩,
    ⟨0, _, _, _, (obj [(0x4030, 1, 3)] (canp (canBuf { status := 1 }) rst)), by decide +kernel, by decide +kernel,
      by decide +kernel, rfl⟩,
    ⟨0, rst, by decide +kernel⟩,
    ⟨0, (obj [(0x4030, 1, 6)] rst), by decide +kernel⟩,
    ⟨0, (⟨0, 0, 0, []⟩), rst, by decide +kernel⟩,
    ⟨0, (⟨0, 0, 0, []⟩), 127, (obj [(0x4020, 128, 2 ^ 62 + 2 ^ 29)] rst), by decide +kernel⟩,
    ⟨0, rst, by decide +kernel⟩,
    ⟨0, rst, by decide +kernel⟩,
    ⟨0, (obj [(0x4030, 1, 5)] rst), by decide +kernel⟩,
    ⟨0, rst, by decide +kernel⟩,
    ⟨0, (obj [(0x4030, 1, 6), (0x4008, 0xD, 1)] rst), by decide +kernel⟩,
    ⟨0, (obj [(0x4008, 0xD, 0)] rst), by decide +kernel⟩,
    ⟨0, (obj [(0x4030, 1, 3)] rst), by decide +kernel⟩,
    ⟨0, rst, by decide +kernel⟩,
    ⟨req, 0, (bts [1]), rst, by decide +kernel⟩,
    ⟨req, 0, (bts [1]), rst, by decide +kernel⟩,
    ⟨0, rst, by decide +kernel⟩,
    ⟨0, (obj [(0x6001, 1, 256)] rst), by decide +kernel⟩⟩

theorem witness_SdoServer :
    (∃ b : List Byte, ((leAt b 0 1).testBit 1 = true) ∧ ((leAt b 0 1).testBit 0 = true)) ∧
    (∃ b : List Byte, ((leAt b 0 1).testBit 1 = false) ∧ ((leAt b 0 1).testBit 0 = true)) ∧
    (∃ n : Fin 8, ∃ b : List Byte, ∃ x : Session, ∃ s : State, (s.sdoSession n = some x) ∧ (x.write = true) ∧
      (x.toggle = (leAt b 0 1).testBit 4)) ∧
    (∃ n : Fin 8, ∃ b : List Byte, ∃ x : Session, ∃ s : State, (s.sdoSession n = some x) ∧ (x.write = true) ∧
      (x.toggle ≠ (leAt b 0 1).testBit 4)) ∧
    (∃ n : Fin 8, ∃ s : State, (s.sdoSession n = none) ∧ (s.mgmt.restarting = false)) ∧
    (∃ n : Fin 8, ∃ b : List Byte, ∃ s : State, keyIsDom (sdoKey b) = false ∧
      ((s.sdoClose n).readObject ((s.sdoClose n).sdoRequester n) (sdoKey b) 0).2.1 = .ok ∧
      ((s.sdoClose n).readObject ((s.sdoClose n).sdoRequester n) (sdoKey b) 0).2.2.length ≤ 4) ∧
    (∃ n : Fin 8, ∃ b : List Byte, ∃ x : Session, ∃ s : State, (s.sdoSession n = some x) ∧ (x.write = false) ∧
      (x.toggle = (leAt b 0 1).testBit 4) ∧ (x.data.length ≤ x.accepted + 7) ∧ (x.accepted ≤ x.data.length)) ∧
    (∃ n : Fin 8, ∃ x : Session, ∃ s : State, (s.sdoSession n = some x) ∧ (s.due (.session x.number) = true)) ∧
    (∃ n : Fin 8, ∃ s : State, (s.sdoSession n = none)) := by
  refine ⟨⟨(bts [0x23]), by decide +kernel⟩,
    ⟨(bts [0x21]), by decide +kernel⟩,
    ⟨0, [], _, (sdoOpen true false []), rfl, by decide +kernel⟩,
    ⟨0, [], _, (sdoOpen true true []), rfl, by decide +kernel⟩,
    ⟨0, rst, by decide +kernel⟩,
    ⟨0, bts [0x40, 1, 0x10, 2], rst, by decide +kernel, by decide +kernel, by decide +kernel⟩,
    ⟨0, [], _, (sdoOpen false false (bts (zeros 7))), rfl, by decide +kernel⟩,
    ⟨0, _, (sdoOpen true false []).arm (.session 1) 0, rfl, by decide +kernel⟩,
    ⟨0, rst, by decide +kernel⟩⟩

theorem witness_SerialSlots :
    (∃ n : Fin 8, ∃ b : Fin 4, ∃ s : State, ((s.serPort n).slots[b].status ≠ 1) ∧ ((s.serPort n).slots[b].status ≠ 2) ∧
      (0 < (s.serPort n).slots[b].len) ∧ ((s.serPort n).slots[b].len ≤ 2048) ∧ ((s.nineBit n = true →
      (s.serPort n).slots[b].len % 2 = 0))) ∧
    (∃ n : Fin 8, ∃ b : Fin 4, ∃ s : State, ((s.serPort n).slots[b].status ≠ 1) ∧ ((s.serPort n).slots[b].status ≠ 2) ∧
      (((s.serPort n).slots[b].len = 0 ∨ 2048 < (s.serPort n).slots[b].len ∨ s.nineBit n = true ∧
      (s.serPort n).slots[b].len % 2 = 1))) ∧
    (∃ n : Fin 8, ∃ b : Fin 4, ∃ s : State, ((s.serPort n).slots[b].status = 1)) ∧
    (∃ n : Fin 8, ∃ b : Fin 4, ∃ s : State, ((s.serPort n).slots[b].status = 2)) ∧
    (∃ n : Fin 8, ∃ b : Fin 4, ∃ s : State, ((s.serPort n).slots[b].status ≠ 1) ∧ ((s.serPort n).slots[b].status ≠ 2)) ∧
    (∃ p : List Byte, (p.length < 17 ∨ 2064 < p.length)) ∧
    (∃ n : Fin 8, ∃ b : Fin 4, ∃ p : List Byte, ∃ s : State, (17 ≤ p.length) ∧ (p.length ≤ 2064) ∧ (s.nineBit n = false) ∧
      ((s.serPort n).slots[b].status ≠ 1) ∧ ((s.serPort n).slots[b].status ≠ 2)) ∧
    (∃ n : Fin 8, ∃ b : Fin 4, ∃ p : List Byte, ∃ s : State, (17 ≤ p.length) ∧ (p.length ≤ 2064) ∧ (s.nineBit n = false) ∧
      ((s.serPort n).slots[b].status = 2) ∧ ((s.serPort n).slots[b].shadow = none)) ∧
    (∃ n : Fin 8, ∃ b : Fin 4, ∃ s : State, (s.lineState n = 1) ∧ (s.serCfg n 4 = 0) ∧ (s.serNext n = some (.slot b)) ∧
      (s.halfDuplex n = false)) ∧
    (∃ n : Fin 8, ∃ b : Fin 4, ∃ t s : State, (s.halfDuplex n = true) ∧
      (t = (s.updSer n fun p => { p with receiving := false }).serSettle n) ∧ (State.halfDuplex t n = true) ∧
      (t.serMaySend n = true) ∧ (t.serNext n = some (.slot b))) ∧
    (∃ n : Fin 8, ∃ s : State, (s.halfDuplex n = false) ∧ ((s.lineState n ≠ 1 ∧
      s.lineState n ≠ 2) ∨ s.serCfg n 4 = 1 ∨ s.serNext n = none)) ∧
    (∃ n : Fin 8, ∃ b : Fin 4, ∃ s : State, ((s.serPort n).active = some (.slot b)) ∧ ((s.serPort n).slots[b].cancel = false)) ∧
    (∃ n : Fin 8, ∃ b : Fin 4, ∃ s : State, ((s.serPort n).active = some (.slot b)) ∧ (s.halfDuplex n = true) ∧
      (s.nineBit n = false)) ∧
    (∃ n : Fin 8, ∃ s : State, ((s.serPort n).trailing = true)) := by
  refine ⟨⟨0, 0, (serp (serSlot { len := 2048 }) rst), by decide +kernel⟩,
    ⟨0, 0, (serp (serSlot { len := 2049 }) rst), by decide +kernel⟩,
    ⟨0, 0, (serp (serSlot { status := 1 }) rst), by decide +kernel⟩,
    ⟨0, 0, (serp (serSlot { status := 2 }) rst), by decide +kernel⟩,
    ⟨0, 0, rst, by decide +kernel⟩,
    ⟨(bts (zeros 16)), by decide +kernel⟩,
    ⟨0, 0, (bts (zeros 17)), rst, by decide +kernel⟩,
    ⟨0, 0, (bts (zeros 2064)), (serp (serSlot { status := 2 }) rst), by decide +kernel⟩,
    ⟨0, 0, (obj [(0x4100, 1, 1), (0x4108, 1, 1), (0x4100, 4, 0)] (serp (serSlot { status := 1, len := 1 }) rst)),
      by decide +kernel⟩,
    ⟨0, 0, _, (obj [(0x4100, 1, 1), (0x4108, 1, 0), (0x4100, 4, 0)] (serp (serSlot { status := 1, len := 1 }) rst)),
      by decide +kernel, rfl, by decide +kernel⟩,
    ⟨0, (obj [(0x4108, 1, 1)] rst), by decide +kernel⟩,
    ⟨0, 0, (serp { serSlot { status := 2 } with active := some (.slot 0) } rst), by decide +kernel⟩,
    ⟨0, 0, (obj [(0x4108, 1, 0)] (serp { serSlot { status := 2 } with active := some (.slot 0) } rst)), by decide +kernel⟩,
    ⟨0, (serp { trailing := true } rst), by decide +kernel⟩⟩

theorem witness_SerialReception :
    (∃ n : Fin 8, ∃ s : State, (s.serCfg n 1 = 0)) ∧
    (∃ n : Fin 8, ∃ l : List (BitVec 9), ∃ ns : ℕ, ∃ s : State, (s.serCfg n 1 ≠ 0) ∧ (s.isolated (16 + n.val) = false) ∧
      (s.lineState n = 1) ∧ (s.nineBit n = false) ∧ (s.serFrm n 6 = 0) ∧ (s.serCfg n 5 = 1) ∧ (List.length l ≤ 8192) ∧
      ((s.serPort n).rx.length < 32) ∧ ((s.serPort n).cutAt ≤ ns) ∧
      (((s.serPort n).rx.map fun r => r.data.length).sum + l.length ≤ 8192)) ∧
    (∃ n : Fin 8, ∃ l : List (BitVec 9), ∃ s : State, (s.serCfg n 1 ≠ 0) ∧ (s.isolated (16 + n.val) = false) ∧
      (s.lineState n = 1) ∧ (s.nineBit n = false) ∧ (s.serFrm n 6 = 0) ∧ (s.serCfg n 5 = 1) ∧ (List.length l ≤ 8192) ∧
      ((s.serPort n).rx.length = 32)) ∧
    (∃ n : Fin 8, ∃ c : BitVec 9, ∃ l : List (BitVec 9), ∃ s : State, (s.serCfg n 1 ≠ 0) ∧ (s.isolated (16 + n.val) = false) ∧
      (s.lineState n = 1) ∧ (s.nineBit n = true) ∧ (s.serFrm n 6 = 1) ∧ (s.serCfg n 7 ≠ 0xFFFF) ∧
      ((BitVec.toNat (w := 9) c).testBit 8 = false) ∧ (List.length l < 4096)) := by
  refine ⟨⟨0, rst, by decide +kernel⟩,
    ⟨0, [0], 0, (obj [(0x4100, 1, 1), (0x4100, 5, 1)] rst), by decide +kernel⟩,
    ⟨0, [0], (obj [(0x4100, 1, 1), (0x4100, 5, 1)] (serp { rx := List.replicate 32 ⟨[], 0, 0⟩ } rst)), by decide +kernel⟩,
    ⟨0, 0, [], (obj [(0x4100, 1, 1), (0x4108, 3, 9), (0x4108, 6, 1), (0x4100, 7, 1)] rst), by decide +kernel⟩⟩

theorem witness_SdciPorts :
    (∃ n : Fin 8, ∃ s : State, (s.sdciState n = 6) ∧ (s.drives = true)) ∧
    (∃ n : Fin 8, ∃ s : State, (s.sdciState n = 7)) ∧
    (∃ n : Fin 8, ∃ s : State, (s.sdciState n = 6) ∧ ((s.sdciPort n).restart = false) ∧ (s.sdciSet n 3 = 0)) ∧
    (∃ n : Fin 8, ∃ s : State, (s.sdciState n = 6) ∧ ((s.sdciPort n).restart = false) ∧ (s.endpointOf 3 n.val = none) ∧
      ((s.sdciPort n).log.length < 16)) ∧
    (∃ n : Fin 8, ∃ p : List Byte, ∃ s : State, (s.safe = false) ∧ (16 ≤ p.length) ∧ (beAt p 12 1 = s.sdciStat n 7) ∧
      (p.length = 16 + s.sdciStat n 7)) ∧
    (∃ n : Fin 8, ∃ p : List Byte, ∃ s : State, (s.safe = true ∨ beAt p 12 1 ≠ s.sdciStat n 7)) ∧
    (∃ n : Fin 8, ∃ s : State, ((s.sdciPort n).isdu = 1)) ∧
    (∃ n : Fin 8, ∃ v : ℕ, ∃ s : State, ((s.sdciPort n).isdu ≠ 1) ∧ (s.sdciState n = 6) ∧ (v.testBit 7 = false)) ∧
    (∃ n : Fin 8, ∃ s : State, ((s.sdciPort n).isdu = 1)) ∧
    (∃ n : Fin 8, ∃ s : State, ((s.sdciPort n).isdu = 1)) ∧
    (∃ n : Fin 8, ∃ s : State, (s.due (.isdu n) = true) ∧ ((s.sdciPort n).isdu = 1)) ∧
    (∃ n : Fin 8, ∃ s : State, (s.sdciState n = 6) ∧ ((s.sdciPort n).isdu ≠ 1)) ∧
    (∃ n : Fin 8, ∃ s : State, (s.due (.sdciRetry n) = true) ∧ (s.sdciState n = 7)) ∧
    (∃ n : Fin 8, ∃ t s : State, ((s.sdciPort n).driven = true) ∧
      (t = (((((s.updSdci n fun p => { p with trip := true }).sdciStart n).sdciCount n 0xE).raise (0x50 + n.val) 3 contained (packArg [i16 n.val])).masterEvent n 0xFF12))) ∧
    (∃ n : Fin 8, ∃ s : State, (s.due (.lRetry n) = true) ∧ (s.sdciSet n 1 = 1)) ∧
    (∃ n : Fin 8, ∃ s : State, (s.due (.dsUpload n) = true) ∧ (s.sdciStat n 0xA = 3)) ∧
    (∃ n : Fin 8, ∃ s : State, (s.sdciState n = 2) ∧ (s.sdciSet n 3 = 0)) := by
  refine ⟨⟨0, (obj [(0x4218, 1, 6)] rst), by decide +kernel⟩,
    ⟨0, (obj [(0x4218, 1, 7)] rst), by decide +kernel⟩,
    ⟨0, (obj [(0x4218, 1, 6)] rst), by decide +kernel⟩,
    ⟨0, (obj [(0x4218, 1, 6)] rst), by decide +kernel⟩,
    ⟨0, (bts (zeros 16)), rst, by decide +kernel⟩,
    ⟨0, (bts (zeros 12 ++ [1])), rst, by decide +kernel⟩,
    ⟨0, (sdp { isdu := 1 } rst), by decide +kernel⟩,
    ⟨0, 0, (obj [(0x4218, 1, 6)] rst), by decide +kernel⟩,
    ⟨0, (sdp { isdu := 1 } rst), by decide +kernel⟩,
    ⟨0, (sdp { isdu := 1 } rst), by decide +kernel⟩,
    ⟨0, (sdp { isdu := 1 } rst).arm (.isdu 0) 0, by decide +kernel⟩,
    ⟨0, (obj [(0x4218, 1, 6)] rst), by decide +kernel⟩,
    ⟨0, (obj [(0x4218, 1, 7)] rst).arm (.sdciRetry 0) 0, by decide +kernel⟩,
    ⟨0, _, (sdp { driven := true } rst), by decide +kernel, rfl⟩,
    ⟨0, (obj [(0x4210, 1, 1)] rst).arm (.lRetry 0) 0, by decide +kernel⟩,
    ⟨0, (obj [(0x4218, 0xA, 3)] rst).arm (.dsUpload 0) 0, by decide +kernel⟩,
    ⟨0, (obj [(0x4218, 1, 2)] rst), by decide +kernel⟩⟩

theorem witness_DiscreteOutputs :
    (∃ s : State, (s.isolated 32 = false) ∧ (s.turnsNow = [])) ∧
    (∃ i place : ℕ, ∃ s : State, ((i, place) ∈ s.turnsNow) ∧ (0 < place)) ∧
    (∃ s : State, (s.isolated 32 = false)) ∧
    (∃ new i : ℕ, ∃ s : State, (s.isolated 32 = false) ∧ (s.dio.latch.testBit i = true) ∧ (Nat.testBit new i = false)) ∧
    (∃ p : List Byte, ∃ s : State, (p.length = 8) ∧ (s.safe = false)) ∧
    (∃ p : List Byte, ∃ s : State, (p.length = 8) ∧ (s.safe = true)) ∧
    (∃ p : List Byte, (p.length ≠ 8)) ∧
    (∃ n : Fin 32, ∃ at' : ℕ, ∃ s : State, (aget s.dio.pulseEnd n.val = some at') ∧ (at' ≤ s.nowNs) ∧
      ((s.turnsNow.any fun p => p.1 == n.val) = false)) ∧
    (∃ n : Fin 32, ∃ s : State, (aget s.dio.pulseEnd n.val = none)) ∧
    (∃ s : State, (s.combOff = false)) := by
  refine ⟨⟨rst, by decide +kernel⟩,
    ⟨0, 1, (dios { turns := [(0, 1)] } rst), by decide +kernel⟩,
    ⟨rst, by decide +kernel⟩,
    ⟨0, 0, (dios { latch := 1 } rst), by decide +kernel⟩,
    ⟨(bts (zeros 8)), rst, by decide +kernel⟩,
    ⟨(bts (zeros 8)), (obj [(0x6000, 1, 1)] rst), by decide +kernel⟩,
    ⟨(bts (zeros 9)), by decide +kernel⟩,
    ⟨0, 0, (dios { pulseEnd := [(0, 0)] } rst), by decide +kernel⟩,
    ⟨0, rst, by decide +kernel⟩,
    ⟨rst, by decide +kernel⟩⟩

theorem witness_OutputProtection :
    (∃ n : Fin 32, ∃ s : State, (s.dio.driven.testBit n.val = true) ∧ (s.val 0x4308 3 ≠ 0)) ∧
    (∃ n : Fin 32, ∃ s : State, (s.dio.driven.testBit n.val = true) ∧ (s.val 0x4308 3 = 0)) ∧
    (∃ n : Fin 32, ∃ s : State, (s.due (.outRetry n) = true)) ∧
    (∃ n : Fin 32, ∃ bit : ℕ, ∃ s : State, (Nat.testBit (s.dio.diag[n]) bit = true)) ∧
    (∃ n : Fin 32, ∃ bit : ℕ, ∃ t s : State, (Nat.testBit (s.dio.diag[n]) bit = false) ∧
      (t = ({ s with dio := { s.dio with diag := s.dio.diag.set n.val (s.dio.diag[n] + 2 ^ bit) } } : State))) ∧
    (∃ n : Fin 32, ∃ s : State, (s.combOff = false) ∧ ((s.dioMask 7).testBit n.val = true) ∧
      (s.dio.driven.testBit n.val = true)) ∧
    (∃ n : Fin 32, ∃ s : State, (s.combOff = false) ∧ (s.paired = false) ∧ (s.dio.latch.testBit n.val = false) ∧
      (s.dioOutputs.testBit n.val = true)) ∧
    (∃ n : Fin 32, ∃ s : State, ((aget s.dio.tested n.val).getD 0 + secs (s.val 0x4308 1) ≤ s.uptime) ∧
      (s.dio.testing.testBit n.val = false) ∧ (s.pulseOk n.val = true)) ∧
    (∃ n : Fin 32, ∃ s : State,
      (s.dio.reduced = true ∨ s.safe = true ∨ s.paired = true ∨ (aget s.dio.pulseEnd n.val).isSome = true ∨ s.wagNear n.val = true)) ∧
    (∃ n : Fin 32, ∃ s : State, (s.due (.testEnd n) = true)) ∧
    (∃ n : Fin 32, ∃ s : State, (s.due (.testEnd n) = true)) ∧
    (∃ s : State, (s.ident.variant ≠ 1)) ∧
    (∃ s : State, (s.ident.variant = 1)) ∧
    (∃ k : Fin 8, ∃ sum : Fin 65536, ∃ s : State, (Fin.val sum ≤ s.budgetLimit k)) ∧
    (∃ k : Fin 8, ∃ sum : Fin 65536, ∃ m : ℕ, ∃ t s : State, (s.combOff = false) ∧ (s.budgetLimit k < Fin.val sum) ∧
      (s.budgetMember k = some (m, t))) ∧
    (∃ k : Fin 8, ∃ i : ℕ, ∃ s : State, (k.val < 4) ∧ (topBit 32 (s.dio.driven &&& (0xFF * 2 ^ (8 * k.val))) = some i)) ∧
    (∃ i : Fin 4, ∃ s : State, (s.dio.supplyDriven.testBit i.val = true) ∧ (s.val 0x4400 0xE ≠ 0)) ∧
    (∃ i : Fin 4, ∃ s : State, (s.due (.supplyRetry i) = true)) ∧
    (∃ s : State, (s.dio.reduced = false) ∧ ((∀ n : Fin 8, s.sdciCfg n 1 ≠ 1))) ∧
    (∃ s : State, (s.dio.reduced = true)) ∧
    (∃ s : State, (s.dio.reduced = true)) := by
  refine ⟨⟨0, (obj [(0x4308, 3, 1000000)] (dios { driven := 1 } rst)), by decide +kernel⟩,
    ⟨0, (obj [(0x4308, 3, 0)] (dios { driven := 1 } rst)), by decide +kernel⟩,
    ⟨0, (rst.arm (.outRetry 0) 0), by decide +kernel⟩,
    ⟨0, 0, (dios { diag := (Vector.replicate 32 0).set 0 1 } rst), by decide +kernel⟩,
    ⟨0, 0, _, rst, by decide +kernel, rfl⟩,
    ⟨0, (obj [(0x4300, 7, 1)] (dios { driven := 1 } rst)), by decide +kernel⟩,
    ⟨0, (obj [(0x4300, 1, 1)] rst), by decide +kernel⟩,
    ⟨0, ({ obj [(0x4300, 6, 1), (0x4300, 1, 1)] (dios { latch := 1 } rst) with uptime := secs 100000 }), by decide +kernel⟩,
    ⟨0, (dios { reduced := true } rst), by decide +kernel⟩,
    ⟨0, (rst.arm (.testEnd 0) 0), by decide +kernel⟩,
    ⟨0, (rst.arm (.testEnd 0) 0), by decide +kernel⟩,
    ⟨({ rst with ident := { rst.ident with variant := 0 } }), by decide +kernel⟩,
    ⟨rst, by decide +kernel⟩,
    ⟨4, 4500, rst, by decide +kernel⟩,
    ⟨4, 4501, _, _, (dios { driven := 1 } rst), by decide +kernel, by decide +kernel, rfl⟩,
    ⟨0, 0, (dios { driven := 1 } rst), by decide +kernel⟩,
    ⟨0, (obj [(0x4400, 0xE, 1)] (dios { supplyDriven := 1 } rst)), by decide +kernel⟩,
    ⟨0, (rst.arm (.supplyRetry 0) 0), by decide +kernel⟩,
    ⟨rst, by decide +kernel⟩,
    ⟨(dios { reduced := true } rst), by decide +kernel⟩,
    ⟨(dios { reduced := true } rst), by decide +kernel⟩⟩

theorem witness_WorkerInstructions :
    (∃ n : Fin 32, ∃ s : State, (s.ready n 0 = true)) ∧
    (∃ n : Fin 32, ∃ w : Worker, ∃ i k : ℕ, ∃ s : State, (s.ready n 1 = true) ∧ (w = s.worker n) ∧ (i = s.instrAt n) ∧
      (k = shiftBits i) ∧ (i.testBit 11 = false ∨ k ≤ Worker.count w) ∧ (iField i 13 12 = 0)) ∧
    (∃ n : Fin 32, ∃ w : Worker, ∃ i k x : ℕ, ∃ l : List ℕ, ∃ s : State, (s.ready n 1 = true) ∧ (w = s.worker n) ∧
      (i = s.instrAt n) ∧ (k = shiftBits i) ∧ (i.testBit 11 = true) ∧ (Worker.count w < k) ∧
      (Worker.txWords w s.nowTick = x :: l) ∧ (iField i 13 12 = 3)) ∧
    (∃ n : Fin 32, ∃ w : Worker, ∃ i : ℕ, ∃ s : State, (s.ready n 1 = true) ∧ (w = s.worker n) ∧ (i = s.instrAt n) ∧
      (i.testBit 11 = true) ∧ (Worker.count w < shiftBits i) ∧ (Worker.txWords w s.nowTick = [])) ∧
    (∃ n : Fin 32, ∃ w : Worker, ∃ i k : ℕ, ∃ s : State, (s.ready n 2 = true) ∧ (w = s.worker n) ∧ (i = s.instrAt n) ∧
      (k = shiftBits i) ∧ (i.testBit 11 = false) ∧ (iField i 13 12 = 0)) ∧
    (∃ n : Fin 32, ∃ w : Worker, ∃ i k : ℕ, ∃ s : State, (s.ready n 2 = true) ∧ (w = s.worker n) ∧ (i = s.instrAt n) ∧
      (k = shiftBits i) ∧ (i.testBit 11 = true) ∧ (iField i 13 12 = 2) ∧ (s.wcfg n 0xA ≤ min 32 (Worker.count w + k)) ∧
      (s.rxRoom n = 0)) ∧
    (∃ n : Fin 32, ∃ x : ℕ, ∃ l : List ℕ, ∃ s : State, (s.ready n 3 = true) ∧ ((s.worker n).txWords s.nowTick = x :: l) ∧
      ((s.instrAt n).testBit 1 = false)) ∧
    (∃ n : Fin 32, ∃ s : State, (s.ready n 3 = true) ∧ ((s.worker n).txWords s.nowTick = []) ∧
      ((s.instrAt n).testBit 0 = true)) ∧
    (∃ n : Fin 32, ∃ s : State, (s.ready n 3 = true) ∧ ((s.worker n).txWords s.nowTick = []) ∧
      ((s.instrAt n).testBit 0 = false)) ∧
    (∃ n : Fin 32, ∃ s : State, (s.ready n 4 = true) ∧ (s.rxRoom n ≠ 0)) ∧
    (∃ n : Fin 32, ∃ s : State, (s.ready n 4 = true) ∧ (s.rxRoom n = 0) ∧ ((s.instrAt n).testBit 0 = false)) ∧
    (∃ n : Fin 32, ∃ s : State, (s.ready n 5 = true)) ∧
    (∃ n : Fin 32, ∃ i : ℕ, ∃ s : State, (s.ready n 6 = true) ∧ (i = s.instrAt n) ∧ (iField i 13 11 = 0)) ∧
    (∃ n : Fin 32, ∃ s : State, (s.ready n 6 = true) ∧ (iField (s.instrAt n) 13 11 = 1 ∨ iField (s.instrAt n) 13 11 = 6)) ∧
    (∃ n : Fin 32, ∃ i : ℕ, ∃ s : State, (s.ready n 7 = true) ∧ (i = s.instrAt n) ∧ (iField i 13 11 = 0) ∧
      (i.testBit 10 = false)) ∧
    (∃ n : Fin 32, ∃ i : ℕ, ∃ s : State, (s.ready n 7 = true) ∧ (i = s.instrAt n) ∧ (iField i 13 11 = 4) ∧
      (i.testBit 10 = false)) ∧
    (∃ n : Fin 32, ∃ i : ℕ, ∃ s : State, (s.ready n 8 = true) ∧ (i = s.instrAt n) ∧ (iField i 13 11 = 0)) ∧
    (∃ n : Fin 32, ∃ i : ℕ, ∃ s : State, (s.ready n 8 = true) ∧ (i = s.instrAt n) ∧ (iField i 13 11 = 1)) ∧
    (∃ n : Fin 32, ∃ i : ℕ, ∃ s : State, (s.ready n 9 = true) ∧ (i = s.instrAt n) ∧ (iField i 13 12 = 0) ∧
      (i.testBit 11 = false)) ∧
    (∃ n : Fin 32, ∃ i : ℕ, ∃ s : State, (s.ready n 9 = true) ∧ (i = s.instrAt n) ∧ (iField i 13 12 = 1) ∧
      (i.testBit 11 = true)) ∧
    (∃ n : Fin 32, ∃ i : ℕ, ∃ s : State, (s.ready n 10 = true) ∧ (i = s.instrAt n) ∧ (i.testBit 0 = false) ∧
      (i.testBit 1 = false) ∧ (s.rxRoom n ≠ 0)) ∧
    (∃ n : Fin 32, ∃ x : ℕ, ∃ l : List ℕ, ∃ s : State, ((s.worker n).st = 2) ∧ (iField (s.instrAt n) 23 20 = 3) ∧
      ((s.worker n).txWords s.nowTick = x :: l) ∧ ((s.instrAt n).testBit 1 = false)) ∧
    (∃ n : Fin 32, ∃ r : Bool, ∃ s : State, ((s.worker n).st = 2) ∧ (iField (s.instrAt n) 23 20 = 6) ∧
      (iField (s.instrAt n) 13 11 = 1) ∧ (r ≠ (s.wcfg n 0xC).testBit (s.instrAt n % 32))) ∧
    (∃ n : Fin 32, ∃ s : State, ((s.worker n).st ≠ 2)) ∧
    (∃ n : Fin 32, ∃ s : State, ((s.worker n).st ≠ 1 ∨ s.nowTick < (s.worker n).edgeTick (s.worker n).edge)) ∧
    (∃ n : Fin 32, ∃ s : State, (s.val (0x5040 + Fin.val n) 2 = 0xFFFF) ∧ ((s.worker n).pc ≠ s.wcfg n 4)) ∧
    (∃ n : Fin 32, ∃ s : State, (s.val (0x5040 + Fin.val n) 2 = 0xFFFF) ∧ ((s.worker n).pc = s.wcfg n 4) ∧
      (s.flipPending n = false)) := by
  refine ⟨⟨0, (wrk 0 { st := 1 } rst), by decide +kernel⟩,
    ⟨0, _, _, _, (wrk 0x100001 { st := 1 } rst), by decide +kernel, rfl, rfl, rfl, by decide +kernel⟩,
    ⟨0, _, _, _, 5, [], (wrk 0x103801 { st := 1, tx := [5] } rst), by decide +kernel, rfl, rfl, rfl, by decide +kernel⟩,
    ⟨0, _, _, (wrk 0x100801 { st := 1 } rst), by decide +kernel, rfl, rfl, by decide +kernel⟩,
    ⟨0, _, _, _, (wrk 0x200001 { st := 1 } rst), by decide +kernel, rfl, rfl, rfl, by decide +kernel⟩,
    ⟨0, _, _, _, (obj [(0x5000, 0xA, 1), (0x5000, 0xD, 16)] (wrk 0x202801 { st := 1 } rst)), by decide +kernel, rfl, rfl, rfl,
      by decide +kernel⟩,
    ⟨0, 5, [], (wrk 0x300000 { st := 1, tx := [5] } rst), by decide +kernel⟩,
    ⟨0, (wrk 0x300001 { st := 1 } rst), by decide +kernel⟩,
    ⟨0, (wrk 0x300000 { st := 1 } rst), by decide +kernel⟩,
    ⟨0, (wrk 0x400000 { st := 1 } rst), by decide +kernel⟩,
    ⟨0, (obj [(0x5000, 0xD, 16)] (wrk 0x400000 { st := 1 } rst)), by decide +kernel⟩,
    ⟨0, (wrk 0x500000 { st := 1 } rst), by decide +kernel⟩,
    ⟨0, _, (wrk 0x600000 { st := 1 } rst), by decide +kernel, rfl, by decide +kernel⟩,
    ⟨0, (wrk 0x600800 { st := 1 } rst), by decide +kernel⟩,
    ⟨0, _, (wrk 0x700000 { st := 1 } rst), by decide +kernel, rfl, by decide +kernel⟩,
    ⟨0, _, (wrk 0x702000 { st := 1 } rst), by decide +kernel, rfl, by decide +kernel⟩,
    ⟨0, _, (wrk 0x800000 { st := 1 } rst), by decide +kernel, rfl, by decide +kernel⟩,
    ⟨0, _, (wrk 0x800800 { st := 1 } rst), by decide +kernel, rfl, by decide +kernel⟩,
    ⟨0, _, (wrk 0x900000 { st := 1 } rst), by decide +kernel, rfl, by decide +kernel⟩,
    ⟨0, _, (wrk 0x901800 { st := 1 } rst), by decide +kernel, rfl, by decide +kernel⟩,
    ⟨0, _, (wrk 0xA00000 { st := 1 } rst), by decide +kernel, rfl, by decide +kernel⟩,
    ⟨0, 5, [], (wrk 0x300000 { st := 2, tx := [5] } rst), by decide +kernel⟩,
    ⟨0, true, (wrk 0x600800 { st := 2 } rst), by decide +kernel⟩,
    ⟨0, rst, by decide +kernel⟩,
    ⟨0, rst, by decide +kernel⟩,
    ⟨0, rst, by decide +kernel⟩,
    ⟨0, (wrk 0 { pc := 31 } rst), by decide +kernel⟩⟩

theorem witness_WorkerControl :
    (∃ n : Fin 32, ∃ s : State, (s.isolated (34 + (clusterOf n).val) = false) ∧ (s.startedNow n = false) ∧
      (s.flipPending n = false)) ∧
    (∃ n : Fin 32, ∃ s : State, (s.isolated (34 + (clusterOf n).val) = true ∨ s.startedNow n = true)) ∧
    (∃ n m : Fin 32, ∃ s : State, (n ≠ m) ∧ (s.flipPending n = false)) ∧
    (∃ n : Fin 32, ∃ s : State, ((s.worker n).st = 0)) ∧
    (∃ n : Fin 32, ∃ s : State, (s.flipPending n = false) ∧ (s.startedNow n = false) ∧ ((s.worker n).st = 2)) ∧
    (∃ n : Fin 32, ∃ s : State, (s.due (.workerStall n) = true) ∧ ((s.worker n).st = 2)) ∧
    (∃ n : Fin 32, ∃ s : State, (s.due (.workerStall n) = false)) ∧
    (∃ n : Fin 32, ∃ s : State, (s.val (0x5040 + Fin.val n) 4 ≠ 0)) ∧
    (∃ c : Fin 4, ∃ s : State, (s.ringTickNow c = true)) ∧
    (∃ n : Fin 32, ∃ s : State, ((s.worker n).st = 2) ∧ (iField (s.instrAt n) 23 20 = 6) ∧
      (iField (s.instrAt n) 13 11 = 6)) := by
  refine ⟨⟨0, rst, by decide +kernel⟩,
    ⟨0, (wrk 0 { startTick := some 0 } rst), by decide +kernel⟩,
    ⟨0, 1, rst, by decide +kernel⟩,
    ⟨0, rst, by decide +kernel⟩,
    ⟨0, (wrk 0 { st := 2 } rst), by decide +kernel⟩,
    ⟨0, (wrk 0 { st := 2 } rst).arm (.workerStall 0) 0, by decide +kernel⟩,
    ⟨0, rst, by decide +kernel⟩,
    ⟨0, (obj [(0x5040, 4, 1)] rst), by decide +kernel⟩,
    ⟨0, (obj [(0x3000, 2, 2), (0x5110, 1, 1)] { rst with cyc := { rst.cyc with have_ := true } }), by decide +kernel⟩,
    ⟨0, (wrk 0x603000 { st := 2 } rst), by decide +kernel⟩⟩

theorem witness_WorkerPorts :
    (∃ addr : Fin 32, ∃ words : List (BitVec 32), (0 < List.length words) ∧ (addr.val + words.length ≤ 32)) ∧
    (∃ n : Fin 32, ∃ bank : ℕ, ∃ s : State, (s.wcfg n 1 = bank)) ∧
    (∃ n : Fin 32, ∃ bank : ℕ, ∃ l : List ℕ, ∃ s : State, (s.wcfg n 1 ≠ bank) ∧
      ((s.group (0x5020 + Fin.val n)).pending = none) ∧ (l.all instrOk = false)) ∧
    (∃ n : Fin 32, ∃ bank addr w : ℕ, ∃ s : State, (s.wcfg n 1 ≠ bank) ∧ ((s.group (0x5020 + Fin.val n)).pending = none) ∧
      (instrOk w = true) ∧ (bank < 2) ∧ (addr < 32)) ∧
    (∃ words : List (BitVec 32), (0 < List.length words) ∧ (List.length words ≤ 16)) ∧
    (∃ n : Fin 32, ∃ s : State, (s.val (0x5040 + Fin.val n) 2 ≠ 0xFFFF)) ∧
    (∃ n : Fin 32, ∃ k : ℕ, ∃ s : State, (s.val (0x5040 + Fin.val n) 2 = 0xFFFF) ∧ (0 < k) ∧ (k ≤ 16)) ∧
    (∃ n : Fin 32, ∃ p : List Byte, ∃ s : State, (p.length % 4 = 0) ∧ (p ≠ []) ∧ (p.length ≤ 64) ∧
      (p.length / 4 ≤ s.txRoom n)) ∧
    (∃ n : Fin 32, ∃ p : List Byte, ∃ s : State, (p.length % 4 ≠ 0 ∨ p = [] ∨ 64 < p.length ∨ s.txRoom n < p.length / 4)) ∧
    (∃ h : Fin 16, ∃ s : State, (s.flag (0x5120 + Fin.val h) 1 = true) ∧ (s.val (0x5120 + h.val) 2 = 0) ∧
      (s.flag (0x5120 + h.val) 3 = false) ∧ ((s.helper h).lastA = none)) ∧
    (∃ h : Fin 16, ∃ s : State, (s.flag (0x5120 + Fin.val h) 1 = true)) ∧
    (∃ h : Fin 16, ∃ s : State, (s.flag (0x5120 + Fin.val h) 1 = false)) ∧
    (∃ h : Fin 16, ∃ s : State, (s.flag (0x5120 + Fin.val h) 1 = true) ∧ (s.flag (0x5120 + h.val) 5 = true)) ∧
    (∃ h : Fin 16, ∃ s : State, (s.flag (0x5120 + Fin.val h) 5 = false)) := by
  refine ⟨⟨0, (List.replicate 32 0), by decide +kernel⟩,
    ⟨0, 0, rst, by decide +kernel⟩,
    ⟨0, 1, [16777216], rst, by decide +kernel⟩,
    ⟨0, 1, 31, 0, rst, by decide +kernel⟩,
    ⟨(List.replicate 16 0), by decide +kernel⟩,
    ⟨0, (obj [(0x5040, 2, 5)] rst), by decide +kernel⟩,
    ⟨0, 16, rst, by decide +kernel⟩,
    ⟨0, (bts (zeros 64)), (obj [(0x5000, 0xD, 16)] rst), by decide +kernel⟩,
    ⟨0, [], rst, by decide +kernel⟩,
    ⟨0, (obj [(0x5120, 1, 1), (0x5120, 2, 0), (0x5120, 3, 0)] rst), by decide +kernel⟩,
    ⟨0, (obj [(0x5120, 1, 1)] rst), by decide +kernel⟩,
    ⟨0, rst, by decide +kernel⟩,
    ⟨0, (obj [(0x5120, 1, 1), (0x5120, 5, 1)] rst), by decide +kernel⟩,
    ⟨0, rst, by decide +kernel⟩⟩

theorem witness_SafeState :
    (∃ s : State, (s.safe = true)) ∧
    (∃ cause : ℕ, ∃ t s : State, (s.safe = false) ∧ (s.paired = false) ∧
      (t = (((((State.dioSafe ((s.setVal 0x6000 2 (s.val 0x6000 2 ||| 2 ^ cause)).wakeTo 0)).setFlag 0x6000 1 true).cansSafe).sersSafe).sdcisSafe).workersSafe.driveFaultN) ∧
      (State.paired t = false)) ∧
    (∃ t s : State, (t = (s.ownEvent 11 contained 0).2)) ∧
    (∃ s : State, (s.safe = false)) ∧
    (∃ s : State, (s.safe = true) ∧ (s.paired = false)) ∧
    (∃ s : State, (s.safe = false)) ∧
    (∃ t s : State, (s.safe = true) ∧
      (t = ((((s.setVal 0x6000 2 0).setFlag 0x6000 1 false).driveFaultN.cansUnsafe).sersRole).sdcisSafe)) := by
  refine ⟨⟨(obj [(0x6000, 1, 1)] rst), by decide +kernel⟩,
    ⟨0, _, rst, by decide +kernel, by decide +kernel, rfl, by decide +kernel⟩,
    ⟨_, rst, rfl⟩,
    ⟨rst, by decide +kernel⟩,
    ⟨(obj [(0x6000, 1, 1)] rst), by decide +kernel⟩,
    ⟨rst, by decide +kernel⟩,
    ⟨_, (obj [(0x6000, 1, 1)] rst), by decide +kernel, rfl⟩⟩

theorem witness_MessagesTaken :
    (∃ s : State, (s.rcd.starting = false) ∧ (s.coll.queue = [])) ∧
    (∃ s : State, (s.rcd.starting = true)) ∧
    (∃ m : Msg, ∃ l : List Msg, ∃ t s : State, (s.rcd.starting = false) ∧ (s.coll.queue = m :: l) ∧ (s.coll.overrunRun = 0) ∧
      (t = State.takeMessage { s with coll := { s.coll with queue := l, overrunRun := 0 } } m)) ∧
    (∃ m : Msg, ∃ l : List Msg, ∃ t s : State, (s.rcd.starting = false) ∧ (s.coll.queue = m :: l) ∧ (s.coll.overrunRun ≠ 0) ∧
      (t = State.takeMessage { s with coll := { s.coll with queue := l, overrunRun := 0 } } m)) ∧
    (∃ m : Msg, ∃ x : Shadow, ∃ s : State, ((s.noteTaken m).shadowOf (eventCode m.source m.kind) = some x)) ∧
    (∃ m : Msg, ∃ u : State, ∃ mask : ℕ, ∃ s : State, (u = s.noteTaken m) ∧ (mask = State.maskOf u m) ∧
      (u.shadowOf (eventCode m.source m.kind) = none) ∧ (blockOf m.source = none) ∧ (mask.testBit 6 = false)) ∧
    (∃ m : Msg, ∃ b : ℕ, ∃ u : State, ∃ mask : ℕ, ∃ w : ℕ × State, ∃ s : State, (u = s.noteTaken m) ∧
      (mask = State.maskOf u m) ∧ (u.shadowOf (eventCode m.source m.kind) = none) ∧ (blockOf m.source = some b) ∧
      (mask.testBit 8 = false) ∧ (mask.testBit 6 = false) ∧ (mask.testBit 5 = true) ∧
      (w = ((u.latchFaultN mask).recordMsg m mask (if u.escalates m mask then 8 else 0) 0))) ∧
    (∃ m : Msg, ∃ mask : ℕ, ∃ w s : State, (s.admitRecord (eventCode m.source m.kind) m.cls = (true, w)) ∧
      (mask.testBit 0 = true)) ∧
    (∃ m : Msg, ∃ w s : State, (s.admitRecord (eventCode m.source m.kind) m.cls = (false, w))) ∧
    (∃ b : ℕ, ∃ s : State, (s.isolated b = true)) ∧
    (∃ b code seq : ℕ, ∃ w : ℕ × State, ∃ s : State, (s.isolated b = false) ∧ (w = s.ownFull 7 contained (packArg [i16 b,
      i16 code, i32 seq]))) ∧
    (∃ b code seq : ℕ, ∃ u : State, ∃ w : ℕ × State, ∃ s : State, ((s.recentResets b).length < 2) ∧
      (u = ({ s with coll := { s.coll with resets := (s.coll.resets.filter fun (r : Nat × Nat) => s.uptime ≤ r.2 + secs 10) ++ [(b, s.uptime)] } } : State)) ∧
      (w = State.ownFull u 6 corrected (packArg [i16 b, i16 code, i32 seq]))) ∧
    (∃ b : ℕ, ∃ u s : State, (2 ≤ (s.recentResets b).length) ∧ (b ≠ 7) ∧
      (u = ({ s with coll := { s.coll with resets := (s.coll.resets.filter fun (r : Nat × Nat) => s.uptime ≤ r.2 + secs 10) ++ [(b, s.uptime)] } } : State))) ∧
    (∃ id : ℕ, ∃ s : State, (s.due (.shadow id) = true)) ∧
    (∃ id : ℕ, ∃ s : State, (s.settledShadow id = true)) ∧
    (∃ id : ℕ, ∃ settled : Bool, ∃ s : State, (s.due (.shadow id) = false) ∧ (settled = false ∨ s.settledShadow id = false)) ∧
    (∃ x : Shadow, ∃ l : List Shadow, ∃ s : State, (s.coll.shadows = l ++ [x]) ∧ ((∀ y ∈ l, y.id ≠ Shadow.id x ∧
      y.codes.any x.codes.contains = false))) ∧
    (∃ b : ℕ, ∃ w : ℕ × State, ∃ s : State,
      (w = State.ownFull { s with coll := { s.coll with resets := s.coll.resets.filter fun r => r.1 != b } } 8 corrected (packArg [i16 b]))) := by
  refine ⟨⟨rst, by decide +kernel⟩,
    ⟨({ rst with rcd := { rst.rcd with starting := true } }), by decide +kernel⟩,
    ⟨(msg 3 1 0), [], _, (taking (msg 3 1 0) rst), by decide +kernel, by decide +kernel, by decide +kernel, rfl⟩,
    ⟨(msg 3 1 0), [], _, ({ taking (msg 3 1 0) rst with coll := { (taking (msg 3 1 0) rst).coll with overrunRun := 1 } }),
      by decide +kernel, by decide +kernel, by decide +kernel, rfl⟩,
    ⟨(msg 1 1 0), (⟨1, [65], 0, 0⟩), ({ rst with coll := { rst.coll with shadows := [⟨1, [65], 0, 0⟩] } }), by decide +kernel⟩,
    ⟨(msg 3 1 0), _, _, rst, rfl, rfl, by decide +kernel⟩,
    ⟨(msg 0x41 1 0), 9, _, _, _, (obj [(0x6100, 0x42, 32)] rst), rfl, rfl, by decide +kernel, by decide +kernel,
      by decide +kernel, by decide +kernel, by decide +kernel, rfl⟩,
    ⟨(msg 1 1 0), 1, _, rst, rfl, by decide +kernel⟩,
    ⟨(msg 1 1 0), _, ({ rst with rcd := { rst.rcd with buckets := [(65, ⟨0, 0⟩)] } }), rfl⟩,
    ⟨9, (obj [(0x6001, 1, 512)] rst), by decide +kernel⟩,
    ⟨9, 0, 0, _, rst, by decide +kernel, rfl⟩,
    ⟨9, 0, 0, _, _, (resets [(9, 0)] rst), by decide +kernel, rfl, rfl⟩,
    ⟨9, _, (resets [(9, 0), (9, 0)] rst), by decide +kernel, by decide +kernel, rfl⟩,
    ⟨0, (rst.arm (.shadow 0) 0), by decide +kernel⟩,
    ⟨0, ({ obj [(0x4218, 1, 6)] rst with coll := { rst.coll with shadows := [⟨0, [eventCode 0x50 1], 0, 0⟩] } }),
      by decide +kernel⟩,
    ⟨0, true, rst, by decide +kernel⟩,
    ⟨(⟨1, [65], 0, 0⟩), ([⟨0, [66], 0, 0⟩]),
      ({ rst with coll := { rst.coll with shadows := [⟨0, [66], 0, 0⟩, ⟨1, [65], 0, 0⟩] } }), by decide +kernel⟩,
    ⟨9, _, rst, rfl⟩⟩

theorem witness_Recorder :
    (∃ s : State, (s.rcd.clearing = none) ∧ (s.rcd.crystal.length < 255)) ∧
    (∃ s : State, (s.rcd.clearing = none) ∧ (s.rcd.crystal.length = 255)) ∧
    (∃ s : State, (s.rcd.crystal.length = 256)) ∧
    (∃ m : MasterId, ∃ s : State, (s.rcd.clearing = none) ∧ (s.isLocal m = true)) ∧
    (∃ sn num : ℕ, ∃ s : State, (s.rcd.clearing = some (sn, num))) ∧
    (∃ s : State, (s.rcd.clearing = none)) ∧
    (∃ s : State, (s.due .brine = true)) := by
  refine ⟨⟨(crystals 254 rst), by decide +kernel⟩,
    ⟨(crystals 255 rst), by decide +kernel⟩,
    ⟨(crystals 256 rst), by decide +kernel⟩,
    ⟨(⟨0, 0, 0⟩), rst, by decide +kernel⟩,
    ⟨1, 2, ({ rst with rcd := { rst.rcd with clearing := some (1, 2) } }), by decide +kernel⟩,
    ⟨rst, by decide +kernel⟩,
    ⟨(rst.arm .brine 0), by decide +kernel⟩⟩

theorem witness_Restarts :
    (∃ rq : Requester, ∃ v : List Byte, ∃ r : State × Result, ∃ s : State,
      (r = s.writeCore rq (objKey 0x7000 6) v (fun _ t => t)) ∧ (r.2 = .ok)) ∧
    (∃ rq : Requester, ∃ v : List Byte, ∃ r : State × Result, ∃ s : State,
      (r = s.writeCore rq (objKey 0x7000 6) v (fun _ t => t)) ∧ (r.2 ≠ .ok)) ∧
    (∃ s : State, (s.mgmt.restarting = false)) ∧
    (∃ s : State, ((s.val 0x2420 4).testBit 4 = true)) ∧
    (∃ t u s : State, (s.mgmt.restarting = true) ∧ ((s.val 0x2420 4).testBit 4 = false) ∧
      (plannedRestart s.mgmt.cause = false) ∧
      (t = State.clearSelfFault { s with mgmt := { s.mgmt with restarting := false } }) ∧
      (u = State.deliverEvents ((State.startImages (State.fallBack t)).raise 2 2 corrected (packArg [i16 s.mgmt.cause]))) ∧
      ((State.settings u).held = false)) ∧
    (∃ t u s : State, (s.mgmt.restarting = true) ∧ ((s.val 0x2420 4).testBit 4 = false) ∧
      (plannedRestart s.mgmt.cause = true) ∧
      (t = State.clearSelfFault { s with mgmt := { s.mgmt with restarting := false } }) ∧ (State.armed t .confirm = false) ∧
      (u = State.deliverEvents ((State.startImages t).raise 2 2 corrected (packArg [i16 s.mgmt.cause]))) ∧
      ((State.settings u).held = false)) := by
  refine ⟨⟨req, (leBytes 4 0x72657374), _, rst, rfl, by decide +kernel⟩,
    ⟨req, (leBytes 4 0), _, rst, rfl, by decide +kernel⟩,
    ⟨rst, by decide +kernel⟩,
    ⟨(obj [(0x2420, 4, 16)] rst), by decide +kernel⟩,
    ⟨_, _, ({ rst with mgmt := { rst.mgmt with restarting := true, cause := 1 } }), by decide +kernel, by decide +kernel,
      by decide +kernel, rfl, rfl, by decide +kernel⟩,
    ⟨_, _, ({ rst with mgmt := { rst.mgmt with restarting := true, cause := 5 } }), by decide +kernel, by decide +kernel,
      by decide +kernel, rfl, by decide +kernel, rfl, by decide +kernel⟩⟩

theorem witness_DictionaryWrites :
    (∃ i : Fin 65536, ∃ sub : ℕ, ∃ js : List ℕ, (clearSubs (Fin.val i) = some (sub, js))) ∧
    (∃ rq : Requester, ∃ key : ℕ, ∃ v : List Byte, ∃ e : Result, ∃ s : State,
      ((commitObjects.contains (key / 256) && key % 256 == 1) = false) ∧ (s.checkWrite rq key v = e) ∧ (e ≠ .ok)) ∧
    (∃ rq : Requester, ∃ key : ℕ, ∃ v : List Byte, ∃ r : ObjRow, ∃ s : State,
      ((commitObjects.contains (key / 256) && key % 256 == 1) = false) ∧ ((key = objKey 0x7010 4 → leNat v / 16 ≠ 2)) ∧
      (s.checkWrite rq key v = .ok) ∧ (s.bench = false) ∧ (objRow? (key / 256) (key % 256) = some r) ∧ (r.acc ≠ .rws)) ∧
    (∃ rq : Requester, ∃ key : ℕ, ∃ v : List Byte, ∃ r : ObjRow, ∃ s : State,
      ((commitObjects.contains (key / 256) && key % 256 == 1) = false) ∧ ((key = objKey 0x7010 4 → leNat v / 16 ≠ 2)) ∧
      (s.checkWrite rq key v = .ok) ∧ (s.bench = true) ∧ (key ≠ objKey 0x1001 8) ∧ (objRow? (key / 256) (key % 256) = some r) ∧
      (r.acc ≠ .rws)) ∧
    (∃ rq : Requester, ∃ key : ℕ, ∃ right : Right, ∃ s : State,
      (s.permits rq (objTarget key) right (objOffset key) (objOffset key + 15) = true)) ∧
    (∃ rq : Requester, ∃ key : ℕ, ∃ right : Right, ∃ s : State,
      (s.permits rq (objTarget key) right (objOffset key) (objOffset key + 15) = false)) ∧
    (∃ rq : Requester, ∃ key : ℕ, ∃ right : Right, ∃ s : State,
      (s.permits rq (objTarget key) right (objOffset key) (objOffset key + 15) = true) ∧ (s.mgmt.restarting = true)) ∧
    (∃ rq : Requester, ∃ key : ℕ, ∃ right : Right, ∃ s : State,
      (s.permits rq (objTarget key) right (objOffset key) (objOffset key + 15) = true) ∧ (s.mgmt.restarting = false) ∧
      (objBlock? (key / 256) = none)) ∧
    (∃ rq : Requester, ∃ key : ℕ, ∃ right : Right, ∃ s : State,
      (s.permits rq (objTarget key) right (objOffset key) (objOffset key + 15) = true) ∧ (s.mgmt.restarting = false) ∧
      ((objBlock? (key / 256)).isSome = true) ∧ (objRow? (key / 256) (key % 256) = none)) ∧
    (∃ rq : Requester, ∃ key : ℕ, ∃ r : ObjRow, ∃ s : State, (s.checkObject rq key (writeRight key) = .ok) ∧
      (objRow? (key / 256) (key % 256) = some r) ∧ (r.acc = .ro ∨ r.acc = .const)) ∧
    (∃ rq : Requester, ∃ key : ℕ, ∃ v : List Byte, ∃ r : ObjRow, ∃ s : State, (s.checkObject rq key (writeRight key) = .ok) ∧
      (objRow? (key / 256) (key % 256) = some r) ∧ (r.acc = .rw) ∧ (s.roleCheck rq key = .ok) ∧
      (lengthOk r.ty (List.length v) = false)) ∧
    (∃ rq : Requester, ∃ key : ℕ, ∃ v : List Byte, ∃ r : ObjRow, ∃ s : State, (s.checkObject rq key (writeRight key) = .ok) ∧
      (objRow? (key / 256) (key % 256) = some r) ∧ (r.acc = .rw) ∧ (s.roleCheck rq key = .ok) ∧
      (lengthOk r.ty (List.length v) = true) ∧ (r.range.holds (valueOf r.ty v) = false)) ∧
    (∃ key v : ℕ, ∃ s : State, (portFx (key / 256) (key % 256) v s = none) ∧
      (((clearSubs (key / 256)).any fun c => c.1 == key % 256) = false) ∧ (key = objKey 0x1001 7)) := by
  refine ⟨⟨0x2120, _, _, rfl⟩,
    ⟨req, (objKey 0x1000 1), (bts [0]), _, rst, by decide +kernel, rfl, by decide +kernel⟩,
    ⟨req, (objKey 0x1001 5), (bts [1]), _, rst, by decide +kernel, by decide +kernel, by decide +kernel, by decide +kernel,
      rfl, by decide +kernel⟩,
    ⟨req, (objKey 0x1001 5), (bts [1]), _, (obj [(0x2420, 5, 7)] rst), by decide +kernel, by decide +kernel, by decide +kernel,
      by decide +kernel, by decide +kernel, rfl, by decide +kernel⟩,
    ⟨req, (objKey 0x1001 5), .write, rst, by decide +kernel⟩,
    ⟨reqFar, (objKey 0x1001 5), .write, (obj [(0x7100, 0x81, 0)] rst), by decide +kernel⟩,
    ⟨req, (objKey 0x1001 5), .write, ({ rst with mgmt := { rst.mgmt with restarting := true } }), by decide +kernel⟩,
    ⟨req, (objKey 1 0), .write, rst, by decide +kernel, by decide +kernel, rfl⟩,
    ⟨req, (objKey 0x1001 0xFF), .write, rst, by decide +kernel, by decide +kernel, by decide +kernel, rfl⟩,
    ⟨req, (objKey 0x1000 1), (objRow? 0x1000 1).get (by decide +kernel), rst, by decide +kernel⟩,
    ⟨req, (objKey 0x7000 1), [], _, rst, by decide +kernel, rfl, by decide +kernel⟩,
    ⟨req, (objKey 0x7000 1), (leBytes 4 1000001), _, rst, by decide +kernel, rfl, by decide +kernel⟩,
    ⟨(objKey 0x1001 7), 0, rst, rfl, by decide +kernel⟩⟩

theorem witness_CommitGroups :
    (∃ rq : Requester, ∃ i : Fin 65536, ∃ j : Fin 256, ∃ v : List Byte, ∃ key : ℕ, ∃ r : ObjRow, ∃ g : ℕ, ∃ s : State,
      (key = objKey (Fin.val i) (Fin.val j)) ∧ ((commitObjects.contains (key / 256) && key % 256 == 1) = false) ∧
      (s.checkWrite rq key v = .ok) ∧ (objRow? (key / 256) (key % 256) = some r) ∧ (r.acc = .rws) ∧
      (groupOf (key / 256) = some g)) ∧
    (∃ rq : Requester, ∃ g : ℕ, ∃ s : State, ((s.group g).pending = none) ∧ ((s.group g).owner = some rq.master)) ∧
    (∃ rq : Requester, ∃ m : MasterId, ∃ g : ℕ, ∃ s : State, ((s.group g).owner = some m) ∧ (m ≠ Requester.master rq)) ∧
    (∃ g : ℕ, ∃ x : List (ℕ × ℕ), ∃ s : State, ((s.group g).owner = none) ∧ ((s.group g).pending = some x)) ∧
    (∃ g : Fin 65536, ∃ s : State, (s.due (.claim (Fin.val g)) = true)) ∧
    (∃ rq : Requester, ∃ g : ℕ, ∃ v : List Byte, ∃ t s : State, (commitObjects.contains g = true) ∧
      (s.checkWrite rq (objKey g 1) v = .ok) ∧ (s.commitResult rq.master g (leNat v) = .ok) ∧
      (t = (if g = 0x2201 && leNat v != 0 && s.isKeeper && (s.group g).code != 0 then (s.commit g (leNat v)).arm .replan 0 else s.commit g (leNat v)))) ∧
    (∃ rq : Requester, ∃ g : ℕ, ∃ v : List Byte, ∃ e : Result, ∃ s : State, (commitObjects.contains g = true) ∧
      (s.checkWrite rq (objKey g 1) v = .ok) ∧ (s.commitResult rq.master g (leNat v) = e) ∧ (e ≠ .ok)) ∧
    (∃ g : ℕ, ∃ s : State, ((s.group g).pending = none) ∧ ((s.group g).owner = none)) ∧
    (∃ m o : MasterId, ∃ g : ℕ, ∃ s : State, ((s.group g).pending = none) ∧ ((s.group g).owner = some o) ∧ (o ≠ m)) ∧
    (∃ m : MasterId, ∃ g v : ℕ, ∃ s : State, ((s.group g).pending = none) ∧ ((s.group g).owner = some m) ∧ (v ≠ 0) ∧
      (s.setOk m g (s.group g).staged = false)) ∧
    (∃ g v : ℕ, ∃ x : List (ℕ × ℕ), ∃ s : State, ((s.group g).pending = some x) ∧ (v ≠ 2)) ∧
    (∃ g v : ℕ, ∃ x : List (ℕ × ℕ), ∃ s : State, ((s.group g).pending = some x) ∧ (v = 2)) ∧
    (∃ g : ℕ, ∃ o : MasterId, ∃ s : State, ((s.group g).pending = none) ∧ ((s.group g).owner = some o)) ∧
    (∃ g : ℕ, ∃ o : MasterId, ∃ v : ℕ, ∃ s : State, ((s.group g).pending = none) ∧ ((s.group g).owner = some o) ∧
      (v = 1 ∨ v = 2)) ∧
    (∃ g : ℕ, ∃ set : List (ℕ × ℕ), ∃ s : State, ((s.group g).pending = some set) ∧
      ((set.any fun kv => keyPersistent kv.1) = false)) := by
  refine ⟨⟨req, 0x4008, 1, (bts [1]), _, (objRow? 0x4008 1).get (by decide +kernel), 0x4010, rst, rfl, by decide +kernel⟩,
    ⟨req, 0x4010, (rst.setGroup 0x4010 { owner := some ⟨0, 0, 0⟩ }), by decide +kernel⟩,
    ⟨req, (⟨0, 5, 1⟩), 0x4010, (rst.setGroup 0x4010 { owner := some ⟨0, 5, 1⟩ }), by decide +kernel⟩,
    ⟨0x4010, [], (rst.setGroup 0x4010 { pending := some [] }), by decide +kernel⟩,
    ⟨0x4010, (rst.arm (.claim 0x4010) 0), by decide +kernel⟩,
    ⟨req, 0x4010, (bts [0]), _, rst, by decide +kernel, by decide +kernel, by decide +kernel, rfl⟩,
    ⟨req, 0x4010, (bts [1]), .inUse, (rst.setGroup 0x4010 { owner := some ⟨0, 5, 1⟩ }), by decide +kernel⟩,
    ⟨0, rst, by decide +kernel⟩,
    ⟨(⟨0, 0, 0⟩), (⟨0, 5, 1⟩), 0x4010, (rst.setGroup 0x4010 { owner := some ⟨0, 5, 1⟩ }), by decide +kernel⟩,
    ⟨(⟨0, 0, 0⟩), 0x4010, 1, (rst.setGroup 0x4010 { owner := some ⟨0, 0, 0⟩, staged := [(0x400803, 0)] }), by decide +kernel⟩,
    ⟨0x4010, 1, [], (rst.setGroup 0x4010 { pending := some [] }), by decide +kernel⟩,
    ⟨0x4010, 2, [], (rst.setGroup 0x4010 { pending := some [] }), by decide +kernel⟩,
    ⟨0x4010, (⟨0, 0, 0⟩), (rst.setGroup 0x4010 { owner := some ⟨0, 0, 0⟩ }), by decide +kernel⟩,
    ⟨0x4010, (⟨0, 0, 0⟩), 2, (rst.setGroup 0x4010 { owner := some ⟨0, 0, 0⟩ }), by decide +kernel⟩,
    ⟨0x4010, [], (rst.setGroup 0x4010 { pending := some [] }), by decide +kernel⟩⟩

theorem witness_Transfers :
    (∃ rq : Requester, (rq.via ≠ .usb)) ∧
    (∃ rq : Requester, ∃ t : TransferReq, (rq.via = .usb) ∧ (TransferReq.raw t = none)) ∧
    (∃ rq : Requester, ∃ t : TransferReq, ∃ b : List Byte, (rq.via = .usb) ∧ (TransferReq.raw t = some b)) ∧
    (∃ op : ℕ, ∃ t : TransferReq, (framedOk op t = false)) ∧
    (∃ rq : Requester, ∃ t : TransferReq, ∃ r : State × Result × List Byte, ∃ s : State, (framedOk 1 t = true) ∧
      (r = s.readObject rq (transferKey t) (TransferReq.flags t).toNat)) ∧
    (∃ t : TransferReq, (framedOk 2 t = true)) ∧
    (∃ rq : Requester, ∃ t : TransferReq, ∃ r : State × Result, ∃ s : State, (framedOk 6 t = true) ∧
      (r = s.segWrite rq (transferKey t) (TransferReq.session t).toNat (TransferReq.pos t).toNat t.value (t.flags.toNat.testBit 0))) ∧
    (∃ rq : Requester, ∃ key : ℕ, ∃ s : State, (s.readCheck rq key = .ok) ∧ (keyIsDom key = true)) ∧
    (∃ rq : Requester, ∃ key : ℕ, ∃ s : State, (s.readCheck rq key = .ok) ∧ (keyIsDom key = false) ∧
      ((objRow? (key / 256) (key % 256)).any (fun r => r.acc == .const) = false)) ∧
    (∃ rq : Requester, ∃ key v : ℕ, ∃ s : State, (s.readCheck rq key = .ok) ∧ (keyIsDom key = false) ∧
      (s.stagedView key = some v)) ∧
    (∃ rq : Requester, ∃ key : ℕ, ∃ s : State, (s.readCheck rq key = .ok) ∧ (keyIsDom key = false)) ∧
    (∃ rq : Requester, ∃ key : ℕ, ∃ s : State, (s.readCheck rq key = .ok) ∧ (keyIsDom key = true) ∧ (8 ≤ s.sessions.length)) ∧
    (∃ rq : Requester, ∃ key n pos len : ℕ, ∃ x : Session, ∃ s : State, (s.readCheck rq key = .ok) ∧
      (s.findSession rq n key false = some x) ∧ (x.place pos len = .next)) ∧
    (∃ rq : Requester, ∃ key n pos len : ℕ, ∃ x : Session, ∃ s : State, (s.readCheck rq key = .ok) ∧
      (s.findSession rq n key false = some x) ∧ (x.place pos len = .wrong)) ∧
    (∃ rq : Requester, ∃ key n : ℕ, ∃ s : State, (s.readCheck rq key = .ok) ∧ (s.findSession rq n key false = none)) ∧
    (∃ rq : Requester, ∃ key n pos : ℕ, ∃ v : List Byte, ∃ x : Session, ∃ s : State, (s.segWriteCheck rq key = .ok) ∧
      (s.findSession rq n key true = some x) ∧ (x.place pos (List.length v) = .again)) ∧
    (∃ rq : Requester, ∃ key n pos : ℕ, ∃ v : List Byte, ∃ x : Session, ∃ s : State, (s.segWriteCheck rq key = .ok) ∧
      (s.findSession rq n key true = some x) ∧ (x.place pos (List.length v) = .next) ∧ (pos + v.length ≠ x.total)) ∧
    (∃ rq : Requester, ∃ key n : ℕ, ∃ s : State, (s.session n = none) ∧ (s.checkObject rq key .read = .ok)) ∧
    (∃ rq : Requester, ∃ key n : ℕ, ∃ x : Session, ∃ s : State, (s.session n = some x) ∧
      (s.checkObject rq key (if Session.write x then writeRight key else .read) = .ok) ∧ (x.master ≠ Requester.master rq)) ∧
    (∃ rq : Requester, ∃ key n : ℕ, ∃ x : Session, ∃ s : State, (s.session n = some x) ∧
      (s.checkObject rq key (if Session.write x then writeRight key else .read) = .ok) ∧ (x.master = Requester.master rq) ∧
      (x.sdo = none)) ∧
    (∃ n : Fin 256, ∃ x : Session, ∃ s : State, (s.session (Fin.val n) = some x) ∧ (x.sdo = none) ∧
      (s.due (.session n.val) = true)) := by
  refine ⟨⟨req, by decide +kernel⟩,
    ⟨reqUsb, tr0, by decide +kernel⟩,
    ⟨reqUsb, ({ tr0 with raw := some [] }), [], by decide +kernel⟩,
    ⟨1, ({ tr0 with len := 1 }), by decide +kernel⟩,
    ⟨req, tr0, _, rst, by decide +kernel, rfl⟩,
    ⟨tr0, by decide +kernel⟩,
    ⟨req, ({ tr0 with len := 1, value := bts [0] }), _, rst, by decide +kernel, rfl⟩,
    ⟨req, (objKey 0x2410 6), rst, by decide +kernel⟩,
    ⟨req, (objKey 0x1001 5), rst, by decide +kernel⟩,
    ⟨req, (objKey 0x4008 1), 1, (rst.setGroup 0x4010 { staged := [(0x400801, 1)] }), by decide +kernel⟩,
    ⟨req, (objKey 0x1001 5), rst, by decide +kernel⟩,
    ⟨req, (objKey 0x2410 6), ({ rst with sessions := List.replicate 8 (ses false 0 none) }), by decide +kernel⟩,
    ⟨req, (objKey 0x2410 6), 1, 0, 0, (ses false 0 none), (opened (ses false 0 none) rst), by decide +kernel⟩,
    ⟨req, (objKey 0x2410 6), 1, 1, 0, (ses false 0 none), (opened (ses false 0 none) rst), by decide +kernel⟩,
    ⟨req, (objKey 0x2410 6), 0, rst, by decide +kernel⟩,
    ⟨req, (objKey 0x2410 6), 1, 0, (bts (zeros 4)), (ses true 4 (some (0, 4))), (opened (ses true 4 (some (0, 4))) keeper),
      by decide +kernel⟩,
    ⟨req, (objKey 0x2410 6), 1, 0, (bts (zeros 4)), (ses true 0 none), (opened (ses true 0 none) keeper), by decide +kernel⟩,
    ⟨req, (objKey 0x2410 6), 0, rst, by decide +kernel⟩,
    ⟨reqFar, (objKey 0x2410 6), 1, (ses true 0 none), (opened (ses true 0 none) rst), by decide +kernel⟩,
    ⟨req, (objKey 0x2410 6), 1, (ses true 0 none), (opened (ses true 0 none) rst), by decide +kernel⟩,
    ⟨1, (ses true 0 none), (opened (ses true 0 none) rst).arm (.session 1) 0, by decide +kernel⟩⟩

theorem witness_Saves :
    (∃ s : State, (s.due .save = true) ∧ (s.settings.writing = none)) ∧
    (∃ s : State, (s.due .save = false)) ∧
    (∃ s : State, (s.mgmt.restarting = false)) ∧
    (∃ s : State, (s.mgmt.restarting = true)) ∧
    (∃ key : ℕ, ∃ s : State, (keyPersistent key = true) ∧ (s.val 0x1010 1 ≠ 2) ∧ (s.armed .save = false)) ∧
    (∃ key : ℕ, (keyPersistent key = false)) ∧
    (∃ s : State, (s.settings.writing = none)) ∧
    (∃ set : SavedSet, ∃ s : State, (s.settings.writing = some set)) ∧
    (∃ s : State, (s.settings.writing = none)) ∧
    (∃ set : SavedSet, ∃ s : State, (s.settings.writing = some set) ∧ (s.settings.again = false) ∧
      (s.settings.restart = none)) ∧
    (∃ set : SavedSet, ∃ s : State, (s.settings.writing = some set) ∧ (s.settings.again = false) ∧
      (s.settings.restart = none)) ∧
    (∃ set : SavedSet, ∃ cause : ℕ, ∃ s : State, (s.settings.writing = some set) ∧ (s.settings.again = false) ∧
      (s.settings.restart = some (cause, false))) ∧
    (∃ set : SavedSet, ∃ cause : ℕ, ∃ s : State, (s.settings.writing = some set) ∧ (s.settings.again = true) ∧
      (s.settings.restart = some (cause, true))) := by
  refine ⟨⟨(rst.arm .save 0), by decide +kernel⟩,
    ⟨rst, by decide +kernel⟩,
    ⟨rst, by decide +kernel⟩,
    ⟨({ rst with mgmt := { rst.mgmt with restarting := true } }), by decide +kernel⟩,
    ⟨(objKey 0x1001 5), rst, by decide +kernel⟩,
    ⟨(objKey 0x1000 1), by decide +kernel⟩,
    ⟨rst, by decide +kernel⟩,
    ⟨set0, (saving none rst), by decide +kernel⟩,
    ⟨rst, by decide +kernel⟩,
    ⟨set0, (saving none rst), by decide +kernel⟩,
    ⟨set0, (saving none rst), by decide +kernel⟩,
    ⟨set0, 4, (saving (some (4, false)) rst), by decide +kernel⟩,
    ⟨set0, 4, ({ saving (some (4, true)) rst with settings := { (saving (some (4, true)) rst).settings with again := true } }),
      by decide +kernel⟩⟩

theorem witness_PowerStates :
    (∃ m : Monitors, ∃ t s : State, (t = (State.takeMonitors s m).countPower) ∧ (State.val t 0x7000 3 ≠ 4)) ∧
    (∃ m : Monitors, ∃ t s : State, (t = (State.takeMonitors s m).countPower) ∧ (State.val t 0x7000 3 = 4)) ∧
    (∃ s : State, (s.val 0x7000 3 = 4)) ∧
    (∃ s : State, (s.val 0x7000 3 = 1) ∧ (s.allowedState = 1) ∧ (s.holdsTo 1 = true)) ∧
    (∃ s : State, (s.val 0x7000 3 = 3) ∧ (s.allowedState = 0)) ∧
    (∃ s : State, (s.val 0x7000 3 = 0) ∧ (s.pw.wakeAt = none) ∧ (s.allowedState = 1) ∧ (s.ripe 0 = true)) ∧
    (∃ s : State, (s.val 0x7000 3 = 2) ∧ (s.pw.wakeAt = none) ∧ (s.allowedState = 3) ∧ (s.ripe 0 = true) ∧ (s.ripe 1 = true) ∧
      (s.ripe 2 = true)) ∧
    (∃ s : State, (s.allowedState = 0)) ∧
    (∃ t n : ℕ, ∃ s : State, (s.pw.wakeAt = some (t, n)) ∧ (s.uptime < t)) := by
  refine ⟨⟨mon0, _, rst, rfl, by decide +kernel⟩,
    ⟨mon0, _, (obj [(0x7000, 3, 4)] rst), rfl, by decide +kernel⟩,
    ⟨(obj [(0x7000, 3, 4)] rst), by decide +kernel⟩,
    ⟨({ obj [(0x7000, 3, 1), (0x7000, 1, 6), (0x2420, 5, 4), (0x6000, 1, 0)] rst with host := { rst.host with pcie := false } }),
      by decide +kernel⟩,
    ⟨(obj [(0x7000, 3, 3)] rst), by decide +kernel⟩,
    ⟨({ obj [(0x7000, 1, 6), (0x7000, 2, 1000000)] rst with uptime := msec 1, pw := { rst.pw with since := Vector.replicate 3 (some 0) } }),
      by decide +kernel⟩,
    ⟨({ obj [(0x7000, 3, 2), (0x7000, 1, 2500), (0x7000, 2, 1000000)] rst with uptime := msec 1, pw := { rst.pw with since := Vector.replicate 3 (some 0) } }),
      by decide +kernel⟩,
    ⟨(obj [(0x7000, 1, 5)] rst), by decide +kernel⟩,
    ⟨1, 0, ({ rst with pw := { rst.pw with wakeAt := some (1, 0) } }), by decide +kernel⟩⟩

theorem witness_MarginPlans :
    (∃ d : Deadline, ∃ s : State, (s.mgmt.restarting = false) ∧ (s.combOff = false) ∧ (s.due .plan = true) ∧
      (s.deadline .plan = some d)) ∧
    (∃ s : State, (s.mgmt.restarting = false) ∧ (s.combOff = false) ∧ (s.due .plan = false) ∧ (s.hm.planDue = true)) ∧
    (∃ s : State, (s.mgmt.restarting = true ∨ s.combOff = true)) ∧
    (∃ slack : ℤ, ∃ s : State, ((s.val 0x6201 2 : Int) ≤ slack)) ∧
    (∃ slack : ℤ, ∃ s : State, (slack < (s.val 0x6201 2 : Int)) ∧ (s.val 0x6200 3 < 900)) ∧
    (∃ slack : ℤ, ∃ s : State, (slack < (s.val 0x6201 2 : Int)) ∧ (900 ≤ s.val 0x6200 3)) ∧
    (∃ temp : ℤ, ∃ s : State, (s.hm.hot = false) ∧ ((s.val 0x6201 3 : Int) * 10 < temp)) ∧
    (∃ s : State, (s.hm.hot = true)) ∧
    (∃ temp : ℤ, ∃ s : State, (s.hm.limit = false) ∧ (1400 ≤ temp)) ∧
    (∃ temp : ℤ, (temp < 1400)) ∧
    (∃ mv : ℕ, ∃ s : State, (s.hm.ripple = false) ∧ (s.val 0x6201 4 < mv)) ∧
    (∃ s : State, (s.hm.ripple = true)) := by
  refine ⟨⟨_, (rst.armRing .plan 0), by decide +kernel, by decide +kernel, by decide +kernel, rfl⟩,
    ⟨({ rst with hm := { rst.hm with planDue := true } }), by decide +kernel⟩,
    ⟨({ rst with mgmt := { rst.mgmt with restarting := true } }), by decide +kernel⟩,
    ⟨65535, rst, by decide +kernel⟩,
    ⟨-1, (obj [(0x6200, 3, 899)] rst), by decide +kernel⟩,
    ⟨-1, (obj [(0x6200, 3, 900)] rst), by decide +kernel⟩,
    ⟨100000, rst, by decide +kernel⟩,
    ⟨({ rst with hm := { rst.hm with hot := true } }), by decide +kernel⟩,
    ⟨1400, rst, by decide +kernel⟩,
    ⟨1399, by decide +kernel⟩,
    ⟨65536, rst, by decide +kernel⟩,
    ⟨({ rst with hm := { rst.hm with ripple := true } }), by decide +kernel⟩⟩

theorem witness_HoldUp :
    (∃ s : State, (s.val 0x7000 3 = 4)) ∧
    (∃ t u s : State, (s.val 0x7000 3 ≠ 4) ∧
      (t = (State.syncSupply (State.syncDio { s.sendFail 1 with dio := { (s.sendFail 1).dio with fieldOff := true } })).syncLs) ∧
      (u = ((((((State.raise t 0x5A 3 contained 0).openShadow vinShadowCodes 0 0 (eventCode 0x5A 3)).disarm (.shadow t.coll.nextShadow)).dropDomains).bump 0x6211 6).raise 3 2 contained (packArg [i16 (s.val 0x7000 3)])).enterPower 4)) ∧
    (∃ s : State, (s.dio.fieldOff = true)) ∧
    (∃ s : State, (s.val 0x7000 3 ≠ 4)) ∧
    (∃ t u v s : State, (s.val 0x7000 3 = 4) ∧
      (t = (s.setPower s.pw.before).raise 3 3 corrected (packArg [i32 (inNs (s.uptime - s.pw.heldAt))])) ∧
      (u = (State.syncSupply (State.syncDio { t with dio := { t.dio with fieldOff := false } , wu := { t.wu with prog := t.savedProg } })).syncLs) ∧
      (v = (if (State.host u).pcie && !(State.host u).perst then u.setVal 0x8500 2 2 else u))) ∧
    (∃ s : State, (s.val 0x7000 3 = 4)) ∧
    (∃ s : State, (s.val 0x7000 3 ≠ 4)) ∧
    (∃ s : State, (s.settings.writing = none)) := by
  refine ⟨⟨(obj [(0x7000, 3, 4)] rst), by decide +kernel⟩,
    ⟨_, _, rst, by decide +kernel, rfl, rfl⟩,
    ⟨(dios { fieldOff := true } rst), by decide +kernel⟩,
    ⟨rst, by decide +kernel⟩,
    ⟨_, _, _, (obj [(0x7000, 3, 4)] rst), by decide +kernel, rfl, rfl, rfl⟩,
    ⟨(obj [(0x7000, 3, 4)] rst), by decide +kernel⟩,
    ⟨rst, by decide +kernel⟩,
    ⟨rst, by decide +kernel⟩⟩

theorem witness_ImageReception :
    (∃ k : Fin 2, ∃ s : State, (s.up.verifying = some k)) ∧
    (∃ k : Fin 2, ∃ s : State, (s.up.verifying = some k)) ∧
    (∃ k : Fin 2, ∃ s : State, (s.up.verifying = some k)) ∧
    (∃ s : State, (s.up.verifying = none)) ∧
    (∃ repair : Bool, ∃ s : State, (s.val 0x7014 (if repair = true then 2 else 1) = 0xFFFF)) ∧
    (∃ repair : Bool, ∃ p : List Byte, ∃ s : State, (s.val 0x7014 (if repair = true then 2 else 1) ≠ 0xFFFF) ∧
      (List.length p ≠ 16 + beAt p 12 2)) ∧
    (∃ repair : Bool, ∃ p : List Byte, ∃ n : ℕ, ∃ s : State, (s.val 0x7014 (if repair = true then 2 else 1) ≠ 0xFFFF) ∧
      (n = beAt p 12 2) ∧ (List.length p = 16 + n) ∧ (beAt p 4 4 % 1024 = 0) ∧ (n = min 1024 (beAt p 8 4 - beAt p 4 4)) ∧
      (beAt p 4 4 < beAt p 8 4) ∧ (s.up.dist = some (beAt p 0 4))) ∧
    (∃ repair : Bool, ∃ p : List Byte, ∃ n : ℕ, ∃ s : State, (s.val 0x7014 (if repair = true then 2 else 1) ≠ 0xFFFF) ∧
      (n = beAt p 12 2) ∧ (List.length p = 16 + n) ∧ (n = min 1024 (beAt p 8 4)) ∧ (beAt p 4 4 = 0) ∧ (0 < beAt p 8 4) ∧
      (s.up.dist ≠ some (beAt p 0 4)) ∧ (s.up.rx = none)) ∧
    (∃ r : Reception, ∃ s : State, (s.up.rx = some r) ∧ (s.uptime < r.busyUntil)) ∧
    (∃ pos : ℕ, ∃ r : Reception, ∃ s : State, (s.up.rx = some r) ∧ (r.busyUntil ≤ s.uptime) ∧
      (((r.pieces.any fun x => x.1 == pos) = true))) ∧
    (∃ c : ChanImage, ∃ s : State, (s.up.channels = [c]) ∧ (c.typ = s.val 0x7010 0xA)) ∧
    (∃ s : State, (s.up.loads = [])) ∧
    (∃ typ n v : ℕ, ∃ l : List (ℕ × ℕ × ℕ), ∃ s : State, (s.up.loads = (typ, n, v) :: l) ∧ (s.channelFree typ n = false)) ∧
    (∃ typ n v : ℕ, ∃ l : List (ℕ × ℕ × ℕ), ∃ s : State, (s.up.loads = (typ, n, v) :: l) ∧ (s.channelFree typ n = true)) ∧
    (∃ typ n v : ℕ, ∃ l : List (ℕ × ℕ × ℕ), ∃ s : State, (s.up.loads = (typ, n, v) :: l) ∧ (s.channelFree typ n = true)) := by
  refine ⟨⟨0, (upd { verifying := some 0 } rst), by decide +kernel⟩,
    ⟨1, (upd { verifying := some 1 } rst), by decide +kernel⟩,
    ⟨0, (upd { verifying := some 0 } rst), by decide +kernel⟩,
    ⟨rst, by decide +kernel⟩,
    ⟨false, rst, by decide +kernel⟩,
    ⟨false, (bts (zeros 15)), (obj [(0x7014, 1, 5)] rst), by decide +kernel⟩,
    ⟨false, (bts (zeros 11 ++ [1, 0, 1, 0, 0, 9])), _, (obj [(0x7014, 1, 5)] (upd { dist := some 0 } rst)), by decide +kernel,
      rfl, by decide +kernel, by decide +kernel, rfl, by decide +kernel⟩,
    ⟨false, (bts (zeros 11 ++ [1, 0, 1, 0, 0, 9])), _, (obj [(0x7014, 1, 5)] rst), by decide +kernel, rfl, by decide +kernel,
      rfl, by decide +kernel⟩,
    ⟨({ dist := none, total := 1, busyUntil := 1 }), (upd { rx := some { dist := none, total := 1, busyUntil := 1 } } rst),
      by decide +kernel⟩,
    ⟨0, ({ dist := none, total := 1, pieces := [(0, [])] }),
      (upd { rx := some { dist := none, total := 1, pieces := [(0, [])] } } rst), by decide +kernel⟩,
    ⟨(⟨1, 5, 0⟩), (obj [(0x7010, 0xA, 1)] (upd { channels := [⟨1, 5, 0⟩] } rst)), by decide +kernel⟩,
    ⟨rst, by decide +kernel⟩,
    ⟨1, 0, 5, [], (sdp { taken := some (0, false) } (upd { loads := [(1, 0, 5)] } rst)), by decide +kernel⟩,
    ⟨1, 7, 5, [], (upd { loads := [(1, 7, 5)] } rst), by decide +kernel⟩,
    ⟨3, 3, 5, [], (upd { loads := [(3, 3, 5)] } rst), by decide +kernel⟩⟩

theorem witness_Activation :
    (∃ rq : Requester, ∃ k : Fin 2, ∃ s : State, (s.checkWrite rq (objKey 0x7010 4) (leBytes 1 (0x20 + Fin.val k)) = .ok)) ∧
    (∃ s : State, (s.ringTime < ofTime80 (s.val 0x7010 5))) ∧
    (∃ s : State, (ofTime80 (s.val 0x7010 5) ≤ s.ringTime)) ∧
    (∃ v : ℕ, ∃ s : State, (s.due .activation = true) ∧ (s.up.waiting = some v)) ∧
    (∃ s : State, (s.due .activation = false)) ∧
    (∃ k : Fin 2, ∃ s : State, (s.slotVal k 1 ≠ 3)) ∧
    (∃ k : Fin 2, ∃ s : State, (s.slotVal k 1 = 3) ∧ (s.slotVal k 2 = 0x10)) ∧
    (∃ k : Fin 2, ∃ s : State, (s.slotVal k 1 = 3) ∧ (s.slotVal k 2 = 0x11)) ∧
    (∃ k : Fin 2, ∃ s : State, (s.slotVal k 1 = 3) ∧ (s.slotVal k 2 = 0x12)) ∧
    (∃ p : RingPort, ∃ s : State, (s.isUp p = true)) ∧
    (∃ p : RingPort, ∃ s : State, (s.isUp p = false)) ∧
    (∃ s : State, (s.due .phyEast = true)) ∧
    (∃ s : State, (s.due .phyEast = false)) ∧
    (∃ s : State, (s.due .phyWest = true) ∧ (s.up.phyRuns.2 = none)) ∧
    (∃ s : State, (s.due .phyWest = false)) ∧
    (∃ v : ℕ, ∃ s : State, (s.due .phyWest = true) ∧ (s.up.phyRuns.2 = some v)) ∧
    (∃ s : State, (s.due .confirm = true)) ∧
    (∃ k : Fin 2, ∃ s : State, (s.trialSlot = some k) ∧ (s.up.loaderTrial = none)) ∧
    (∃ s : State, (s.flag 0x7020 1 = false)) ∧
    (∃ target : BitVec 64, ∃ k : Fin 256, ∃ s : State, (s.flag 0x7020 1 = true) ∧ (bitField (BitVec.toNat target) 59 47 = 0) ∧
      (Fin.val k = 0)) ∧
    (∃ target : BitVec 64, ∃ k : Fin 256, ∃ s : State, (s.flag 0x7020 1 = true) ∧ (bitField (BitVec.toNat target) 59 47 = 0) ∧
      (0 < Fin.val k) ∧ (Fin.val k ≤ 63) ∧ (s.rcd.unstable = false)) ∧
    (∃ target : BitVec 64, ∃ s : State, (s.flag 0x7020 1 = true) ∧ (bitField (BitVec.toNat target) 59 47 ≠ 0) ∧
      (bitField (BitVec.toNat target) 59 47 ≠ s.node ∨ bitField (BitVec.toNat target) 63 60 ≠ s.ring)) := by
  refine ⟨⟨req, 0, (obj [(0x8110, 1, 1), (0x8110, 2, 1), (0x7011, 1, 3), (0x7011, 2,
      0x10)] (upd { heads := #v[some ⟨0x53, 0x10, 0, 0, 64, 0, 0, 0⟩, none] } (linked 2 rst))), by decide +kernel⟩,
    ⟨(obj [(0x7010, 5, 2 ^ 32)] rst), by decide +kernel⟩,
    ⟨({ obj [(0x7010, 5, 2 ^ 32)] rst with ringTime := secs 1 }), by decide +kernel⟩,
    ⟨0x10, (upd { waiting := some 0x10 } rst).arm .activation 0, by decide +kernel⟩,
    ⟨rst, by decide +kernel⟩,
    ⟨0, rst, by decide +kernel⟩,
    ⟨0, (obj [(0x7011, 1, 3), (0x7011, 2, 0x10)] rst), by decide +kernel⟩,
    ⟨1, (obj [(0x7012, 1, 3), (0x7012, 2, 0x11)] rst), by decide +kernel⟩,
    ⟨0, (obj [(0x7011, 1, 3), (0x7011, 2, 0x12)] rst), by decide +kernel⟩,
    ⟨.east, upE, by decide +kernel⟩,
    ⟨.east, rst, by decide +kernel⟩,
    ⟨(upE.arm .phyEast 0), by decide +kernel⟩,
    ⟨rst, by decide +kernel⟩,
    ⟨(upEW.arm .phyWest 0), by decide +kernel⟩,
    ⟨rst, by decide +kernel⟩,
    ⟨5, (upd { phyRuns := (none, some 5) } rst).arm .phyWest 0, by decide +kernel⟩,
    ⟨(rst.arm .confirm 0), by decide +kernel⟩,
    ⟨1, (obj [(0x7012, 1, 6), (0x7012, 2, 0x10)] rst), by decide +kernel⟩,
    ⟨rst, by decide +kernel⟩,
    ⟨0, 0, (obj [(0x7020, 1, 1)] rst), by decide +kernel⟩,
    ⟨0, 63, (obj [(0x7020, 1, 1)] { rst with rcd := { rst.rcd with starting := false } }), by decide +kernel⟩,
    ⟨(BitVec.ofNat 64 (9 * 2 ^ 47)), (obj [(0x7020, 1, 1)] rst), by decide +kernel⟩⟩

theorem witness_SdoLastResult :
    (∃ code : ℕ, (code < 256)) ∧
    (∃ n m : Fin 8, (m ≠ n)) ∧
    (∃ e e' : Result, (e.code = e'.code)) ∧
    (∃ n : Fin 8, ∃ b : List Byte, ∃ e : Result, ∃ s : State, ((leAt b 0 1).testBit 1 = true) ∧
      ((leAt b 0 1).testBit 0 = true) ∧ (e ≠ .ok) ∧
      (((s.sdoClose n).writeObject ((s.sdoClose n).sdoRequester n) (sdoKey b) ((b.drop 4).take (4 - leAt b 0 1 / 4 % 4))).2 = e)) ∧
    (∃ n : Fin 8, ∃ b : List Byte, ∃ e : Result, ∃ s : State, (keyIsDom (sdoKey b) = false) ∧ (e ≠ .ok) ∧
      (((s.sdoClose n).readObject ((s.sdoClose n).sdoRequester n) (sdoKey b) 0).2.1 = e)) := by
  refine ⟨⟨255, by decide +kernel⟩,
    ⟨0, 1, by decide +kernel⟩,
    ⟨.ok, .ok, by decide +kernel⟩,
    ⟨0, (bts [0x23, 0, 0x10, 1, 0, 0, 0, 0]), .readOnly, rst, by decide +kernel⟩,
    ⟨0, (bts [0x40, 1, 0, 0]), .noObject, rst, by decide +kernel⟩⟩

theorem witness_SerialCancellation :
    (∃ n : Fin 8, ∃ b : Fin 4, ∃ s : State, ((s.serPort n).slots[Fin.val b].status = 1) ∧
      ((s.serPort n).slots[Fin.val b].shadow = none)) ∧
    (∃ n : Fin 8, ∃ b : Fin 4, ∃ s : State, ((s.serPort n).slots[Fin.val b].status = 2)) ∧
    (∃ n : Fin 8, ∃ b : Fin 4, ∃ s : State, ((s.serPort n).active = some (.slot b)) ∧
      ((s.serPort n).slots[Fin.val b].cancel = true) ∧ ((s.serPort n).slots[Fin.val b].shadow = none) ∧
      ((s.group (0x4110 + Fin.val n)).pending = none)) ∧
    (∃ n : Fin 8, ∃ b : Fin 4, ∃ s : State, ((s.serPort n).active = some (.slot b)) ∧
      ((s.serPort n).slots[Fin.val b].cancel = true) ∧ ((s.serPort n).slots[Fin.val b].shadow = none) ∧
      (s.halfDuplex n = true)) ∧
    (∃ n : Fin 8, ∃ b : Fin 4, ∃ s : State, ((s.serPort n).slots[Fin.val b].status = 0)) ∧
    (∃ n : Fin 8, ∃ b : Fin 4, ∃ s : State, (3 ≤ (s.serPort n).slots[Fin.val b].status)) := by
  refine ⟨⟨0, 0, (serp (serSlot { status := 1 }) rst), by decide +kernel⟩,
    ⟨0, 0, (serp (serSlot { status := 2 }) rst), by decide +kernel⟩,
    ⟨0, 0, (serp { serSlot { status := 2, cancel := true } with active := some (.slot 0) } rst), by decide +kernel⟩,
    ⟨0, 0, (obj [(0x4108, 1, 0)] (serp { serSlot { status := 2, cancel := true } with active := some (.slot 0) } rst)),
      by decide +kernel⟩,
    ⟨0, 0, rst, by decide +kernel⟩,
    ⟨0, 0, (serp (serSlot { status := 3 }) rst), by decide +kernel⟩⟩

theorem witness_RestartByWrite :
    (∃ rq : Requester, ∃ s : State, (s.bench = false) ∧
      (s.checkObject rq (objKey 0x7000 6) (writeRight (objKey 0x7000 6)) = .ok)) ∧
    (∃ rq : Requester, ∃ v : BitVec 32, ∃ s : State, (s.bench = false) ∧
      (s.checkObject rq (objKey 0x7000 6) (writeRight (objKey 0x7000 6)) = .ok) ∧ (v ≠ 0x72657374)) := by
  refine ⟨⟨req, rst, by decide +kernel⟩,
    ⟨req, 0, rst, by decide +kernel⟩⟩

theorem witness_StepRunsTheFrontCommand :
    (∃ c : Instr, ∃ rest : List Instr, ∃ s : State, (s.pending = c :: rest)) ∧
    (∃ s : State, (s.pending = [])) ∧
    (∃ s : State, (((s.timeTick.wag.applies.any fun a => a.time ≤ s.timeTick.nowNs) = false))) ∧
    (∃ s : State, (s.wag.applies = [])) := by
  refine ⟨⟨(.wake .wake 0), [], ({ rst with pending := [.wake .wake 0] }), by decide +kernel⟩,
    ⟨rst, by decide +kernel⟩,
    ⟨rst, by decide +kernel⟩,
    ⟨rst, by decide +kernel⟩⟩

theorem witness_TimePasses :
    (∃ s : State, (s.pending = []) ∧ (s.wag.applies = [])) ∧
    (∃ s : State, (s.pending = []) ∧ (s.wag.applies = []) ∧ (s.tu.slew = 0) ∧ (s.tu.held = 0) ∧ (s.tu.acc = 0)) := by
  refine ⟨⟨rst, by decide +kernel⟩,
    ⟨rst, by decide +kernel⟩⟩

theorem witness_HeaderRoundTrip :
    (∃ h h' : Header, (headerBytes h = headerBytes h')) :=
  ⟨dataHdr, dataHdr, by decide +kernel⟩

theorem witness_MessagesAndRecords :
    (∃ l : List Msg, ∃ m : Msg, (queueOk l = true) ∧ ((∀ x ∈ l, x.time / tickUnits ≤ m.time / tickUnits))) ∧
    (∃ s : State, (s.coll.queue.length ≤ 256)) ∧
    (∃ s : State, s.coll.queue.length = 256 ∧ s.val 0x2420 5 ≠ 7) ∧
    (∃ s : State, (s.areasOk = true)) ∧
    (∃ s : State, (s.crystalOpen = true)) ∧
    (∃ s : State, (s.crystalOpen = false)) ∧
    (∃ s : State, (s.crystalOpen = true) ∧ (s.rcd.crystal.length = 255)) := by
  refine ⟨⟨([msg 3 1 0]), (msg 2 1 0), by decide +kernel⟩,
    ⟨rst, by decide +kernel⟩,
    ⟨{ rst with coll := { rst.coll with queue := List.replicate 256 (msg 3 1 0) } }, by decide +kernel, by decide +kernel⟩,
    ⟨rst, by decide +kernel⟩,
    ⟨(crystals 255 rst), by decide +kernel⟩,
    ⟨(crystals 256 rst), by decide +kernel⟩,
    ⟨(crystals 255 rst), by decide +kernel⟩⟩

theorem witness_ObjectsReadBack :
    (∃ set : List (ℕ × ℕ), (rising set = true)) ∧
    (∃ s : State, (s.storeOk = true)) ∧
    (∃ a b : State, a.storeOk = true ∧ b.storeOk = true ∧ ∀ k, a.val (k / 256) (k % 256) = b.val (k / 256) (k % 256)) := by
  refine ⟨⟨([(objKey 0x1001 1, 15), (objKey 0x1001 2, 1)]), by decide +kernel⟩,
    ⟨rst, by decide +kernel⟩,
    ⟨rst, { rst with uptime := 1 }, by decide +kernel, by decide +kernel, fun _ => rfl⟩⟩

theorem witness_FailedWritesChangeNothing :
    (∃ rq : Requester, ∃ i : Fin 65536, ∃ j : Fin 256, ∃ v : List Byte, ∃ e : Result, ∃ s : State, (rq.via = .window) ∧
      (s.isLocal rq.master = true) ∧ (commitObjects.contains (Fin.val i) = false) ∧
      (s.checkWrite rq (objKey (Fin.val i) (Fin.val j)) v = e) ∧ (e ≠ .ok) ∧
      (s.permits rq (objTarget (objKey i.val j.val)) (writeRight (objKey i.val j.val)) (objOffset (objKey i.val j.val)) (objOffset (objKey i.val j.val) + 15) = true)) ∧
    (∃ rq : Requester, ∃ i : Fin 65536, ∃ j : Fin 256, ∃ t s : State, (rq.via = .window) ∧ (s.isLocal rq.master = true) ∧
      (commitObjects.contains (Fin.val i) = false) ∧
      (s.permits rq (objTarget (objKey i.val j.val)) (writeRight (objKey i.val j.val)) (objOffset (objKey i.val j.val)) (objOffset (objKey i.val (Fin.val j)) + 15) = false) ∧
      (t = (s.bump (0x7100 + objTarget (objKey i.val j.val)) 0x82).raise (0x090 + objTarget (objKey i.val j.val)) 1 corrected (packArg [i16 rq.master.node.val,
      i16 rq.master.num.val, i32 (objOffset (objKey i.val j.val))]))) ∧
    (∃ rq : Requester, ∃ e : Result, ∃ s : State, (rq.via = .window) ∧ (s.isLocal rq.master = true) ∧ (e ≠ .ok) ∧
      (s.dictWaits = false)) ∧
    (∃ rq : Requester, ∃ s : State, (rq.via = .window) ∧ (s.dictWaits = true)) := by
  refine ⟨⟨req, 0x1000, 1, (bts [0]), .readOnly, rst, by decide +kernel⟩,
    ⟨({ req with master := ⟨0, 0, 1⟩ }), 0x1001, 5, _, (obj [(0x7100, 0x81, 0)] rst), by decide +kernel, by decide +kernel,
      by decide +kernel, by decide +kernel, rfl⟩,
    ⟨req, .readOnly, rst, by decide +kernel⟩,
    ⟨req, ({ rst with dx := { rst.dx with mirrorWait := [{ mwait with offset := 0 }] } }), by decide +kernel⟩⟩

end Sys2Proof.Tests
end

section
/-!
The header of a ring frame is read back as it was written (R8, R81). Two round trips make it up: a number and its
bytes, and the 256 bits of a header and its fields.
-/

namespace Sys2Proof

@[simp] theorem leBytes_length (n x : Nat) : (leBytes n x).length = n := by
  induction n generalizing x with
  | zero => rfl
  | succ n ih => simp [leBytes, ih]

@[simp] theorem beBytes_length (n x : Nat) : (beBytes n x).length = n := by
  simp [beBytes]

/-- Bytes beyond the `n` that are written are lost; the rest is read back. -/
theorem leNat_leBytes (n x : Nat) : leNat (leBytes n x) = x % 256 ^ n := by
  induction n generalizing x with
  | zero => simp [leBytes, leNat, Nat.mod_one]
  | succ n ih =>
    calc leNat (leBytes (n + 1) x)
        = x % 256 + 256 * (x / 256 % 256 ^ n) := by simp [leBytes, leNat, ih]
      _ = x % (256 * 256 ^ n) := (Nat.mod_mul).symm
      _ = x % 256 ^ (n + 1) := by rw [Nat.pow_succ']

theorem beNat_beBytes (n x : Nat) : beNat (beBytes n x) = x % 256 ^ n := by
  simp [beNat, beBytes, leNat_leBytes]

end Sys2Proof

namespace Sys2Proof.Machine

@[simp] theorem headerBytes_length (h : Header) : (headerBytes h).length = 32 :=
  beBytes_length 32 _

/-- The bytes of a header spell its encoding: 32 bytes are as many as 256 bits need. -/
theorem ofNat_beNat_headerBytes (h : Header) : BitVec.ofNat 256 (beNat (headerBytes h)) = encodeHeader h := by
  have fits : (encodeHeader h).toNat < 256 ^ 32 := (encodeHeader h).isLt
  rw [headerBytes, beNat_beBytes, Nat.mod_eq_of_lt fits, BitVec.ofNat_toNat, BitVec.setWidth_eq]

/-! `encodeHeader` gives its outermost `++` the width 256, and the library's lemmas about `++` speak of a sum of two
widths. Both are equal by evaluation, but the index of simp keeps them apart, so it is off (`-index`) below. -/

/-- Each field is cut out at the place where it was put: a cut that ends below the higher fields does not see them
(`of_add_le`), one that starts above the lower fields skips them (`of_le`), and what is left is the field itself. -/
theorem decodeHeader_encodeHeader (h : Header) : decodeHeader (encodeHeader h) = h := by
  simp -index only [decodeHeader, encodeHeader, BitVec.extractLsb'_append_eq_of_add_le,
    BitVec.extractLsb'_append_eq_of_le, BitVec.extractLsb'_eq_self, Nat.reduceLeDiff, Nat.reduceAdd, Nat.reduceSub]

/-- The fields are cut side by side, so joining neighbours from the top gives one cut over all 256 bits. -/
theorem encodeHeader_decodeHeader (w : BitVec 256) : encodeHeader (decodeHeader w) = w := by
  simp -index only [encodeHeader, decodeHeader, BitVec.extractLsb'_append_extractLsb'_eq_extractLsb',
    BitVec.extractLsb'_eq_self, Nat.reduceAdd]

theorem decodeHeader_headerBytes (h : Header) : decodeHeader (BitVec.ofNat 256 (beNat (headerBytes h))) = h := by
  rw [ofNat_beNat_headerBytes, decodeHeader_encodeHeader]

/-- Equal bytes decode to equal headers. -/
theorem headerBytes_injective : Function.Injective headerBytes :=
  Function.LeftInverse.injective (g := fun bs => decodeHeader (BitVec.ofNat 256 (beNat bs))) decodeHeader_headerBytes

/-- Settles O56 by the two round trips: of a number and its bytes, and of a header's bits and its fields. -/
theorem headerRoundTrip : Obligations.HeaderRoundTrip :=
  ⟨decodeHeader_headerBytes, encodeHeader_decodeHeader, headerBytes_length,
    fun _ _ sameBytes => headerBytes_injective sameBytes⟩

end Sys2Proof.Machine
end

section
/-!
Management restarts (R29 to R31, R475): what an event report leaves as it is, what a restart begins with, and how it
ends.
-/

namespace Sys2Proof.Machine

/-! ### What an event report and a lost push leave as they are -/

/-- An interrupt reaches the pending bits of the host link or the line, and nothing else (R309). -/
theorem State.raiseVector_eq (s : State) (v : Fin 32) :
    ∃ host out, s.raiseVector v = { s with host := host, out := out } := by
  unfold State.raiseVector
  split
  case isTrue =>
    split
    · exact ⟨_, _, rfl⟩
    · exact ⟨_, _, rfl⟩
  case isFalse => exact ⟨_, _, rfl⟩

/-- A message that joins the queue, or finds it full, changes the collector and its count in the objects (R417). -/
theorem State.queueMsg_eq (s : State) (source kind cls arg : Nat) :
    ∃ objs coll, s.queueMsg source kind cls arg = { s with objs := objs, coll := coll } := by
  unfold State.queueMsg
  split
  · exact ⟨_, _, rfl⟩
  · exact ⟨_, _, rfl⟩

/-- All that the report of an event can change: the collector with its count, and the host link with what it sends. -/
theorem State.raise_eq (s : State) (source kind cls arg : Nat) :
    ∃ objs coll host out, s.raise source kind cls arg =
      { s with objs := objs, coll := coll, host := host, out := out } := by
  obtain ⟨objs, coll, queued⟩ := s.queueMsg_eq source kind cls arg
  unfold State.raise
  split
  case isTrue => exact ⟨_, _, _, _, rfl⟩
  case isFalse =>
    rw [queued]
    split
    case h_1 v _ =>
      obtain ⟨host, out, raised⟩ := State.raiseVector_eq { s with objs := objs, coll := coll } v
      exact ⟨_, _, _, _, raised⟩
    case h_2 => exact ⟨_, _, _, _, rfl⟩

@[simp] theorem State.raise_mgmt (s : State) (source kind cls arg : Nat) :
    (s.raise source kind cls arg).mgmt = s.mgmt := by
  obtain ⟨_, _, _, _, raised⟩ := s.raise_eq source kind cls arg
  rw [raised]

@[simp] theorem State.raise_sessions (s : State) (source kind cls arg : Nat) :
    (s.raise source kind cls arg).sessions = s.sessions := by
  obtain ⟨_, _, _, _, raised⟩ := s.raise_eq source kind cls arg
  rw [raised]

@[simp] theorem State.raise_groups (s : State) (source kind cls arg : Nat) :
    (s.raise source kind cls arg).groups = s.groups := by
  obtain ⟨_, _, _, _, raised⟩ := s.raise_eq source kind cls arg
  rw [raised]

@[simp] theorem State.losePush_mgmt (s : State) : s.losePush.mgmt = s.mgmt := rfl
@[simp] theorem State.losePush_sessions (s : State) : s.losePush.sessions = s.sessions := rfl
@[simp] theorem State.losePush_groups (s : State) : s.losePush.groups = s.groups := rfl

/-! ### The begin of a restart -/

@[simp] theorem State.beginRestart_mgmt (s : State) (cause : Nat) :
    (s.beginRestart cause).mgmt = { s.endDictWaits.mgmt with restarting := true, cause := cause } := by
  simp only [State.beginRestart, State.raise_mgmt]
  split
  · rw [State.losePush_mgmt]
  · rfl

@[simp] theorem State.beginRestart_sessions (s : State) (cause : Nat) : (s.beginRestart cause).sessions = [] := by
  simp only [State.beginRestart, State.raise_sessions]
  split
  · rw [State.losePush_sessions]
  · rfl

/-- Every group loses what is staged and its claim; a pending set stays (R31). -/
theorem State.beginRestart_groups (s : State) (cause : Nat) : (s.beginRestart cause).groups =
    s.endDictWaits.groups.map fun p => (p.1, { p.2 with staged := [], owner := none }) := by
  simp only [State.beginRestart, State.raise_groups]
  split
  · rw [State.losePush_groups]
  · rfl

theorem State.beginRestart_discards (s : State) (cause : Nat) (p : Nat × GroupState)
    (mem : p ∈ (s.beginRestart cause).groups) : p.2.staged = [] ∧ p.2.owner = none := by
  rw [State.beginRestart_groups] at mem
  obtain ⟨_, _, rfl⟩ := List.mem_map.1 mem
  exact ⟨rfl, rfl⟩

/-! ### MGMT_RESTART and RESTART_END by cases -/

/-- An accepted write is answered before the restart it asks for begins (R475). -/
theorem execMgmtRestart_accepted {rq : Requester} {v : List Byte} {r : State × Result} {s : State}
    (written : r = s.writeCore rq (objKey 0x7000 6) v fun _ t => t) (ok : r.2 = .ok) :
    execMgmtRestart rq v s = .next ((r.1.answerWrite rq 2 (objKey 0x7000 6) r.2 v).beginRestart 5) := by
  subst written
  exact congrArg done (if_pos ok)

theorem execMgmtRestart_refused {rq : Requester} {v : List Byte} {r : State × Result} {s : State}
    (written : r = s.writeCore rq (objKey 0x7000 6) v fun _ t => t) (refused : r.2 ≠ .ok) :
    execMgmtRestart rq v s = .next (r.1.answerWrite rq 2 (objKey 0x7000 6) r.2 v) := by
  subst written
  exact congrArg done (if_neg refused)

/-- Without a restart, or with processors that a failed LBIST holds in reset (R445), there is no end of one. -/
theorem execRestartEnd_idle (s : State) (idle : s.mgmt.restarting = false ∨ (s.val 0x2420 4).testBit 4 = true) :
    execRestartEnd s = .next s :=
  congrArg done (if_pos (by simpa using idle))

/-- A restart that ends: an unplanned one falls back from a trial, a planned one lets a confirmation time that runs
begin anew (R495, R496); then the images start and the end is recorded before the events that waited (R30). A save
that was held starts last (R113). -/
theorem execRestartEnd_running (s : State) (running : s.mgmt.restarting = true)
    (released : (s.val 0x2420 4).testBit 4 = false) (t resumed u : State)
    (cleared : t = State.clearSelfFault { s with mgmt := { s.mgmt with restarting := false } })
    (resume : resumed = if plannedRestart s.mgmt.cause then
        (if t.armed .confirm then t.arm .confirm (secs (t.val 0x7010 7)) else t)
      else t.fallBack)
    (ended : u = (resumed.startImages.raise 2 2 corrected (packArg [i16 s.mgmt.cause])).deliverEvents) :
    execRestartEnd s = .next (if u.settings.held then u.startSave else u) := by
  subst cleared resume ended
  exact congrArg done (if_neg (by simp [running, released]))

/-- Settles O40 case by case from the equations above: a report leaves the restart, the sessions and the groups as they
are, so what `beginRestart` sets stands at its end; and RESTART_END takes the one path that its cause names. -/
theorem restarts : Obligations.Restarts := by
  unfold Obligations.Restarts
  refine ⟨fun _ _ => rfl, fun _ _ => rfl, fun cause s => ?begins,
    fun _ _ _ _ => execMgmtRestart_accepted, fun _ _ _ _ => execMgmtRestart_refused,
    fun s idle => execRestartEnd_idle s (.inl idle), fun s lbist => execRestartEnd_idle s (.inr lbist),
    ?unplanned, ?planned⟩
  case begins => exact ⟨by simp, by simp, by simp, s.beginRestart_discards cause⟩
  case unplanned =>
    intro t u s running released unplanned cleared ended noSave
    have ends := execRestartEnd_running s running released t t.fallBack u cleared (by simp [unplanned]) ended
    rwa [noSave] at ends
  case planned =>
    intro t u s running released planned cleared noTrial ended noSave
    have ends := execRestartEnd_running s running released t t u cleared (by simp [planned, noTrial]) ended
    rwa [noSave] at ends

end Sys2Proof.Machine
end

section
/-!
The object store (R33, R47): a set is stored value by value, and the canonical form is the only list that reads as it does.
-/

namespace Sys2Proof.Machine

/-! ### Keys -/

theorem objKey_div_mod (k : Nat) : objKey (k / 256) (k % 256) = k := by
  unfold objKey; omega

theorem objKey_div (i : Nat) {j : Nat} (hj : j < 256) : objKey i j / 256 = i := by
  unfold objKey; omega

theorem objKey_mod (i : Nat) {j : Nat} (hj : j < 256) : objKey i j % 256 = j := by
  unfold objKey; omega

/-! ### Rising lists are determined by what is listed under each key -/

theorem aget_eq_none_of_below {α : Type} {l : List (Nat × α)} {k : Nat} (below : ∀ p ∈ l, k < p.1) : aget l k = none := by
  simp only [aget, Option.map_eq_none_iff, List.find?_eq_none, beq_iff_eq]
  exact fun p hp => Nat.ne_of_gt (below p hp)

theorem mem_of_aget {α : Type} {l : List (Nat × α)} {k : Nat} {v : α} (h : aget l k = some v) : (k, v) ∈ l := by
  simp only [aget, Option.map_eq_some_iff] at h
  obtain ⟨⟨k', v'⟩, found, rfl⟩ := h
  have same : k' = k := by simpa using List.find?_some found
  exact same ▸ List.mem_of_find?_eq_some found

/-- Two rising lists whose heads are under one key agree on what stands behind the heads. -/
theorem aget_tail_eq {α : Type} {k : Nat} {v : α} {a b : List (Nat × α)} (ha : rising ((k, v) :: a) = true)
    (hb : rising ((k, v) :: b) = true) (same : ∀ m, aget ((k, v) :: a) m = aget ((k, v) :: b) m) (m : Nat) : aget a m = aget b m := by
  by_cases hm : k = m
  · subst hm
    rw [aget_eq_none_of_below ((rising_cons _ _).1 ha).1, aget_eq_none_of_below ((rising_cons _ _).1 hb).1]
  · simpa [aget_cons, hm] using same m

theorem eq_of_aget_eq {α : Type} {a b : List (Nat × α)} (ha : rising a = true) (hb : rising b = true)
    (same : ∀ k, aget a k = aget b k) : a = b := by
  induction a generalizing b with
  | nil =>
    cases b with
    | nil => rfl
    | cons p b => simpa [aget_cons, aget] using same p.1
  | cons p a ih =>
    obtain ⟨k, v⟩ := p
    cases b with
    | nil => simpa [aget_cons, aget] using same k
    | cons q b =>
      obtain ⟨k', v'⟩ := q
      have risingA := (rising_cons _ _).1 ha
      have risingB := (rising_cons _ _).1 hb
      have memB : (k, v) ∈ (k', v') :: b := mem_of_aget ((same k).symm.trans (by simp [aget_cons]))
      have memA : (k', v') ∈ (k, v) :: a := mem_of_aget ((same k').trans (by simp [aget_cons]))
      have heads : (k, v) = (k', v') := by
        rcases List.mem_cons.1 memB with h | h
        · exact h
        · rcases List.mem_cons.1 memA with h' | h'
          · exact h'.symm
          · exact absurd (risingB.1 _ h) (Nat.lt_asymm (risingA.1 _ h'))
      obtain ⟨rfl, rfl⟩ := Prod.mk.inj heads
      rw [ih risingA.2 risingB.2 (aget_tail_eq ha hb same)]

/-! ### The canonical form -/

theorem ne_default_of_aget {l : List (Nat × Nat)} (ok : storeOk l = true) {k v : Nat} (listed : aget l k = some v) :
    v ≠ objDefault k := by
  simp only [storeOk, Bool.and_eq_true, List.all_eq_true] at ok
  simpa [entryOk] using (Bool.and_eq_true_iff.1 (ok.2 _ (mem_of_aget listed))).2

/-- What is listed is not the default, so an object's value tells what is listed. -/
theorem aget_eq_of_read_eq {a b : List (Nat × Nat)} (ha : storeOk a = true) (hb : storeOk b = true) {k : Nat}
    (same : (aget a k).getD (objDefault k) = (aget b k).getD (objDefault k)) : aget a k = aget b k := by
  cases hA : aget a k with
  | none =>
    cases hB : aget b k with
    | none => rfl
    | some w => exact absurd (by simpa [hA, hB] using same.symm) (ne_default_of_aget hb hB)
  | some v =>
    cases hB : aget b k with
    | none => exact absurd (by simpa [hA, hB] using same) (ne_default_of_aget ha hA)
    | some w => simpa [hA, hB] using same

/-- The canonical store of what every object reads is one list. -/
theorem State.objs_eq_of_val_eq {a b : State} (ha : a.storeOk = true) (hb : b.storeOk = true)
    (same : ∀ k, a.val (k / 256) (k % 256) = b.val (k / 256) (k % 256)) : a.objs = b.objs := by
  refine eq_of_aget_eq (Bool.and_eq_true_iff.1 ha).1 (Bool.and_eq_true_iff.1 hb).1 fun k => aget_eq_of_read_eq ha hb ?_
  simpa only [State.val, objKey_div_mod] using same k

/-! ### Storing a set -/

@[simp] theorem State.storeSet_nil (s : State) : s.storeSet [] = s := rfl

@[simp] theorem State.storeSet_cons (s : State) (kv : Nat × Nat) (set : List (Nat × Nat)) :
    s.storeSet (kv :: set) = (s.setVal (kv.1 / 256) (kv.1 % 256) kv.2).storeSet set := rfl

/-- An object that the set does not name keeps its value. -/
theorem State.val_storeSet_of_none (set : List (Nat × Nat)) (s : State) (k : Nat) (unnamed : aget set k = none) :
    (s.storeSet set).val (k / 256) (k % 256) = s.val (k / 256) (k % 256) := by
  induction set generalizing s with
  | nil => rfl
  | cons kv set ih =>
    obtain ⟨k', v⟩ := kv
    have other : k' ≠ k := by rintro rfl; simp [aget_cons] at unnamed
    rw [State.storeSet_cons, ih _ (by simpa [aget_cons, other] using unnamed),
      State.val_setVal_of_ne _ _ (by simpa only [objKey_div_mod] using other.symm)]

/-- An object that the set names reads the value given there, cut to its width: nothing that follows names it again. -/
theorem State.val_storeSet_of_mem (set : List (Nat × Nat)) (s : State) (ok : rising set = true) (kv : Nat × Nat) (mem : kv ∈ set) :
    (s.storeSet set).val (kv.1 / 256) (kv.1 % 256) = kv.2 % 2 ^ objBits kv.1 := by
  induction set generalizing s with
  | nil => cases mem
  | cons p set ih =>
    obtain ⟨above, risingTail⟩ := (rising_cons _ _).1 ok
    rw [State.storeSet_cons]
    rcases List.mem_cons.1 mem with rfl | mem
    · rw [State.val_storeSet_of_none _ _ _ (aget_eq_none_of_below above), State.val_setVal_self, objKey_div_mod]
    · exact ih _ risingTail mem

theorem State.storeOk_storeSet (set : List (Nat × Nat)) (s : State) (ok : s.storeOk = true) : (s.storeSet set).storeOk = true := by
  induction set generalizing s with
  | nil => exact ok
  | cons kv set ih => exact ih _ (State.storeOk_setVal _ _ _ _ ok)

/-- Settles O59: a set is stored by induction over its members, and a canonical store is determined by what it reads. -/
theorem objectsReadBack : Obligations.ObjectsReadBack :=
  ⟨fun set s ok => ⟨State.val_storeSet_of_mem set s ok, State.val_storeSet_of_none set s⟩,
    State.storeOk_storeSet, fun _ _ => State.objs_eq_of_val_eq⟩

end Sys2Proof.Machine
end

section
/-!
Requests to one object: the checks of a request in their order (R38), what a refusal of the access checker counts (R505), and what
a write leaves when a check turns it away or lets it pass (R37).
-/

namespace Sys2Proof.Machine

/-! ### The checks of a request, in the order of R38 -/

section Checks

variable {s : State} {rq : Requester} {key : Nat} {right : Right} {v : List Byte} {r : ObjRow}

theorem State.noteRefusal_permitted (permitted : s.permits rq (objTarget key) right (objOffset key) (objOffset key + 15) = true) :
    s.noteRefusal rq key right = s :=
  if_pos permitted

theorem State.noteRefusal_refused (refused : s.permits rq (objTarget key) right (objOffset key) (objOffset key + 15) = false) :
    s.noteRefusal rq key right = s.refuse rq (objTarget key) (objOffset key) :=
  if_neg (by simp [refused])

theorem State.checkObject_refused (refused : s.permits rq (objTarget key) right (objOffset key) (objOffset key + 15) = false) :
    s.checkObject rq key right = .accessDenied :=
  if_pos (by simp [refused])

/-- Behind the access checker the state of management comes first, then the dictionary. -/
theorem State.checkObject_permitted (permitted : s.permits rq (objTarget key) right (objOffset key) (objOffset key + 15) = true) :
    s.checkObject rq key right = if s.mgmt.restarting then .busyRetry else if (objBlock? (key / 256)).isNone then .noObject
      else if (objRow? (key / 256) (key % 256)).isNone then .noSub else .ok :=
  if_neg (by simp [permitted])

/-- A write that fails the checks of its object ends in their result. -/
theorem State.checkWrite_of_checkObject {e : Result} (failed : s.checkObject rq key (writeRight key) = e) (bad : e ≠ .ok) :
    s.checkWrite rq key v = e := by
  unfold State.checkWrite
  rw [failed]
  cases e with
  | ok => exact absurd rfl bad
  | _ => rfl

theorem State.checkWrite_readOnly (found : s.checkObject rq key (writeRight key) = .ok)
    (row : objRow? (key / 256) (key % 256) = some r) (fixed : r.acc = .ro ∨ r.acc = .const) : s.checkWrite rq key v = .readOnly := by
  unfold State.checkWrite
  rcases fixed with acc | acc <;> simp [found, row, acc]

theorem State.checkWrite_typeLength (found : s.checkObject rq key (writeRight key) = .ok)
    (row : objRow? (key / 256) (key % 256) = some r) (acc : r.acc = .rw) (role : s.roleCheck rq key = .ok)
    (len : lengthOk r.ty v.length = false) : s.checkWrite rq key v = .typeLength := by
  unfold State.checkWrite
  simp [found, row, acc, role, len]

theorem State.checkWrite_range (found : s.checkObject rq key (writeRight key) = .ok)
    (row : objRow? (key / 256) (key % 256) = some r) (acc : r.acc = .rw) (role : s.roleCheck rq key = .ok)
    (len : lengthOk r.ty v.length = true) (range : r.range.holds (valueOf r.ty v) = false) : s.checkWrite rq key v = .range := by
  unfold State.checkWrite
  simp [found, row, acc, role, len, range]

end Checks

/-! ### What a refusal leaves as it is -/

@[simp] theorem State.raise_dx (s : State) (source kind cls arg : Nat) : (s.raise source kind cls arg).dx = s.dx := by
  obtain ⟨_, _, _, _, raised⟩ := s.raise_eq source kind cls arg
  rw [raised]

/-- A message that finds the queue full counts in OVERRUNS, and no other object changes with an event (R417). -/
theorem State.val_raise_of_ne (s : State) (source kind cls arg : Nat) {i j : Nat} (other : objKey i j ≠ objKey 0x6000 9) :
    (s.raise source kind cls arg).val i j = s.val i j := by
  have queued : (s.queueMsg source kind cls arg).val i j = s.val i j := by
    unfold State.queueMsg
    split
    · rfl
    · exact State.val_setVal_of_ne s _ other
  unfold State.val at queued ⊢
  rw [State.objs_raise]
  split
  · rfl
  · exact queued

@[simp] theorem State.refuse_dx (s : State) (rq : Requester) (target lo : Nat) : (s.refuse rq target lo).dx = s.dx :=
  State.raise_dx ..

/-- Of the objects below 0x6000, which no checker counts in, a refusal changes none. -/
theorem State.val_refuse (s : State) (rq : Requester) (target lo : Nat) {i j : Nat} (hi : i < 0x6000) (hj : j < 256) :
    (s.refuse rq target lo).val i j = s.val i j := by
  have counted : objKey i j ≠ objKey (0x7100 + target) 0x82 := by unfold objKey; omega
  have overruns : objKey i j ≠ objKey 0x6000 9 := by unfold objKey; omega
  rw [State.refuse, State.val_raise_of_ne _ _ _ _ _ overruns]
  exact State.val_setVal_of_ne s _ counted

@[simp] theorem State.isLocal_refuse (s : State) (rq : Requester) (target lo : Nat) (m : MasterId) :
    (s.refuse rq target lo).isLocal m = s.isLocal m := by
  simp [State.isLocal, State.ring, State.node, State.val_refuse]

@[simp] theorem State.noteRefusal_dx (s : State) (rq : Requester) (key : Nat) (right : Right) :
    (s.noteRefusal rq key right).dx = s.dx := by
  unfold State.noteRefusal
  split
  · rfl
  · exact State.refuse_dx ..

@[simp] theorem State.isLocal_noteRefusal (s : State) (rq : Requester) (key : Nat) (right : Right) (m : MasterId) :
    (s.noteRefusal rq key right).isLocal m = s.isLocal m := by
  unfold State.noteRefusal
  split
  · rfl
  · exact State.isLocal_refuse ..

/-! ### Answers -/

/-- A change that is not made has nothing to mirror (R167). -/
theorem State.answerWrite_of_ne_ok (s : State) (rq : Requester) (op key : Nat) {e : Result} (v : List Byte) (bad : e ≠ .ok) :
    s.answerWrite rq op key e v = s.answerObj rq op key 0 0 e [] :=
  if_neg (by simp [bad])

@[simp] theorem State.objs_noteOld (s before : State) (key : Nat) : (s.noteOld before key).objs = s.objs := by
  unfold State.noteOld
  split <;> rfl

theorem State.noteOld_of_no_new (s before : State) (key : Nat) (same : s.dx.mirrorWait = before.dx.mirrorWait) :
    s.noteOld before key = s :=
  if_pos (by rw [same])

/-- An answer that only waits for its turn has no change behind it that could be taken back (R31, R536). -/
theorem State.noteOld_queueAnswer (s before : State) (rq : Requester) (op key session pos : Nat) (e : Result) (data : List Byte)
    (k : Nat) : (s.queueAnswer rq op key session pos e data).noteOld before k = s.queueAnswer rq op key session pos e data := by
  unfold State.noteOld
  split
  · rfl
  · simp [State.queueAnswer]

/-- A local master that fails to write through the window is answered with the result alone. -/
theorem State.sayObj_window_failed (s : State) (rq : Requester) (op key : Nat) {e : Result} (via : rq.via = .window)
    (isHere : s.isLocal rq.master = true) (bad : e ≠ .ok) : s.sayObj rq op key 0 0 e [] = s.emit (.answer rq e []) := by
  simp [State.sayObj, State.answer, via, isHere, bad]

/-- What a failed window write of a local master leaves: the checker's counts and the answer (R38, R505). -/
theorem State.turnedAway_window (s : State) (rq : Requester) (key : Nat) (v : List Byte) {e : Result} (via : rq.via = .window)
    (isHere : s.isLocal rq.master = true) (bad : e ≠ .ok) :
    s.turnedAway rq key v e = (s.noteRefusal rq key (writeRight key)).answerObj rq 2 key 0 0 e [] := by
  have notSdo : ∀ n, rq.via ≠ .sdo n := by simp [via]
  rw [State.turnedAway, State.answerWrite_of_ne_ok _ _ _ _ _ bad]
  cases waits : (s.noteRefusal rq key (writeRight key)).dictWaits with
  | true => rw [State.answerObj_waits _ _ _ _ _ _ _ _ waits notSdo, State.noteOld_queueAnswer]
  | false =>
    rw [State.answerObj_now _ _ _ _ _ _ _ _ waits notSdo, State.sayObj_window_failed _ _ _ _ via (by simpa using isHere) bad]
    exact State.noteOld_of_no_new _ _ _ (congrArg Duplex.mirrorWait (State.noteRefusal_dx ..))

/-! ### Writes of any object -/

/-- Apart from COMMIT, and from an ACTIVATE of a pair that would be accepted, a write request is the write of one object with the
effect that its chapter gives it. -/
theorem State.writeRequest_eq_objectWrite (s : State) (rq : Requester) (key : Nat) (v : List Byte)
    (noCommit : (commitObjects.contains (key / 256) && key % 256 == 1) = false)
    (noPair : key = objKey 0x7010 4 → leNat v / 16 = 2 → s.checkWrite rq key v ≠ .ok) :
    s.writeRequest rq key v = s.objectWrite rq key v (writeFx rq key) := by
  have plain : s.writeObject rq key v = s.writeCore rq key v (writeFx rq key) := by
    unfold State.writeObject
    rw [if_neg (by rw [noCommit]; exact Bool.false_ne_true), if_neg (by simpa using noPair)]
  rw [State.writeRequest, plain, State.objectWrite]

theorem State.writeRequest_turnedAway (s : State) (rq : Requester) (key : Nat) (v : List Byte)
    (noCommit : (commitObjects.contains (key / 256) && key % 256 == 1) = false) (failed : s.checkWrite rq key v ≠ .ok) :
    s.writeRequest rq key v = s.turnedAway rq key v (s.checkWrite rq key v) := by
  rw [s.writeRequest_eq_objectWrite rq key v noCommit fun _ _ => failed, State.objectWrite_turnedAway _ _ _ _ _ failed]

/-- Settles O60: both writes are turned away by a check, and what that leaves of a local window write is its answer; the second by the
access checker, which counts and reports it. -/
theorem failedWritesChangeNothing : Obligations.FailedWritesChangeNothing := by
  unfold Obligations.FailedWritesChangeNothing
  have noCommit {i : Fin 65536} {j : Fin 256} (h : commitObjects.contains i.val = false) :
      (commitObjects.contains (objKey i.val j.val / 256) && objKey i.val j.val % 256 == 1) = false := by
    rw [objKey_div _ j.isLt, h, Bool.false_and]
  refine ⟨?checked, ?refused, fun rq op key e s via isHere bad now => ?answered, fun rq op key e s via waits => ?waits⟩
  case checked =>
    rintro rq i j v e s via isHere noGroup rfl bad permitted
    refine congrArg done ?_
    rw [s.writeRequest_turnedAway rq _ v (noCommit noGroup) bad, s.turnedAway_window rq _ v via isHere bad,
      State.noteRefusal_permitted permitted]
  case refused =>
    rintro rq i j v t s via isHere noGroup refused rfl
    have bad : Result.accessDenied ≠ .ok := by decide
    have denied : s.checkWrite rq (objKey i.val j.val) v = .accessDenied :=
      State.checkWrite_of_checkObject (State.checkObject_refused refused) bad
    refine congrArg done ?_
    rw [s.writeRequest_turnedAway rq _ v (noCommit noGroup) (denied ▸ bad), denied, s.turnedAway_window rq _ v via isHere bad,
      State.noteRefusal_refused refused, State.refuse]
  case answered =>
    rw [State.answerObj_now _ _ _ _ _ _ _ _ now (by simp [via]), State.sayObj_window_failed _ _ _ _ via isHere bad]
  case waits => exact State.answerObj_waits _ _ _ _ _ _ _ _ waits (by simp [via])

end Sys2Proof.Machine
end

section
/-!
The effects of dictionary writes (R35, R37, R95, R459).
-/

namespace Sys2Proof.Machine

/-- In the bench state an accepted write of an object that is no member of a commit group stores its value, RELEASE_NUMBER apart
(R459). -/
theorem State.objectWrite_bench (s : State) (rq : Requester) (key : Nat) (v : List Byte) (fx : Nat → State → State) {r : ObjRow}
    (ok : s.checkWrite rq key v = .ok) (bench : s.bench = true) (plain : key ≠ objKey 0x1001 8)
    (row : objRow? (key / 256) (key % 256) = some r) (acc : r.acc ≠ .rws) :
    s.objectWrite rq key v fx = s.accepted rq key v (storeFx key) := by
  unfold State.objectWrite State.writeCore State.accepted
  cases group : groupOf (key / 256) <;> simp [ok, bench, plain, row, acc]

/-- LOCATION_MM (0x1001:7) has no effect of its own: its value is stored. -/
theorem writeFx_location (rq : Requester) (v : Nat) (s : State) : writeFx rq (objKey 0x1001 7) v s = (s.setVal 0x1001 7 v).pump :=
  rfl

/-! ### CLEAR objects -/

@[simp] theorem State.clearVals_nil (s : State) (i : Nat) : s.clearVals i [] = s := rfl

@[simp] theorem State.clearVals_cons (s : State) (i j : Nat) (js : List Nat) :
    s.clearVals i (j :: js) = (s.setVal i j 0).clearVals i js := rfl

theorem State.val_clearVals_of_not_mem (s : State) (i : Nat) {j : Nat} {js : List Nat} (other : j ∉ js) :
    (s.clearVals i js).val i j = s.val i j := by
  induction js generalizing s with
  | nil => rfl
  | cons k js ih =>
    obtain ⟨ne, other⟩ := not_or.1 (List.mem_cons.not.1 other)
    rw [State.clearVals_cons, ih _ other, State.val_setVal_of_ne _ _ (by unfold objKey; omega)]

theorem State.val_clearVals_of_mem (s : State) (i : Nat) {j : Nat} {js : List Nat} (mem : j ∈ js) : (s.clearVals i js).val i j = 0 := by
  induction js generalizing s with
  | nil => cases mem
  | cons k js ih =>
    rw [State.clearVals_cons]
    by_cases later : j ∈ js
    · exact ih _ later
    · obtain rfl := (List.mem_cons.1 mem).resolve_right later
      rw [State.val_clearVals_of_not_mem _ _ later, State.val_setVal_self, Nat.zero_mod]

/-- CLEAR of the DIO record has no further effect: subindices 0xA to 0xC are its counters. -/
theorem countersClearFx_dio (s : State) : countersClearFx 0x4310 s = s.clearVals 0x4310 [0xA, 0xB, 0xC] := rfl

/-- COUNTERS_CLEAR writes the CLEAR object of its index (R95). -/
theorem execCountersClear_of_clearSubs (rq : Requester) (i : Fin 65536) (v : List Byte) (s : State) {c : Nat × List Nat}
    (clears : clearSubs i.val = some c) : execCountersClear rq i v s = .next (s.writeRequest rq (objKey i.val c.1) v) := by
  unfold execCountersClear
  rw [clears]
  rfl

/-- Settles O41: the checks one by one, then what `objectWrite` leaves when they fail, when they pass, and in the bench state. -/
theorem dictionaryWrites : Obligations.DictionaryWrites := by
  unfold Obligations.DictionaryWrites
  refine ⟨fun _ _ _ _ _ => rfl, fun rq i _ _ v s => execCountersClear_of_clearSubs rq i v s, ?failed, ?accepted, ?bench,
    fun _ _ _ _ => State.noteRefusal_permitted, fun _ _ _ _ => State.checkObject_refused, ?restarting, ?noObject, ?noSub,
    fun _ _ _ _ _ => State.checkWrite_readOnly, fun _ _ _ _ _ => State.checkWrite_typeLength,
    fun _ _ _ _ _ => State.checkWrite_range, ?stores, ?clears⟩
  case failed =>
    rintro rq key v e s noCommit rfl bad
    exact s.writeRequest_turnedAway rq key v noCommit bad
  case accepted =>
    intro rq key v r s noCommit noPair ok running row acc
    rw [s.writeRequest_eq_objectWrite rq key v noCommit fun isActivate pair => absurd pair (noPair isActivate)]
    exact s.objectWrite_accepted rq key v _ ok running
      (.inr fun r' row' => by simpa [Option.some.inj (row'.symm.trans row)] using acc)
  case bench =>
    intro rq key v r s noCommit noPair ok bench plain row acc
    rw [s.writeRequest_eq_objectWrite rq key v noCommit fun isActivate pair => absurd pair (noPair isActivate)]
    exact s.objectWrite_bench rq key v _ ok bench plain row acc
  case restarting =>
    intro rq key right s permitted restarting
    rw [State.checkObject_permitted permitted, if_pos restarting]
  case noObject =>
    intro rq key right s permitted running unknown
    rw [State.checkObject_permitted permitted, if_neg (by simp [running]), if_pos (by simp [unknown])]
  case noSub =>
    intro rq key right s permitted running known unknown
    have block : (objBlock? (key / 256)).isNone = false := by rw [← Option.not_isSome, known]; rfl
    rw [State.checkObject_permitted permitted, if_neg (by simp [running]), if_neg (by simp [block]), if_pos (by simp [unknown])]
  case stores =>
    rintro key v rq s - - rfl
    exact writeFx_location rq v s
  case clears =>
    intro s
    rw [countersClearFx_dio]
    exact ⟨s.val_clearVals_of_mem _ (by decide), s.val_clearVals_of_mem _ (by decide), s.val_clearVals_of_mem _ (by decide),
      s.val_clearVals_of_not_mem _ (by decide)⟩

end Sys2Proof.Machine
end

section
/-!
Commit groups (R45 to R48): the state of a group, the claim and what it stages, and what a commit request does in each state.
-/

namespace Sys2Proof.Machine

/-! ### The state of a group -/

@[simp] theorem State.group_setGroup_self (s : State) (g : Nat) (x : GroupState) : (s.setGroup g x).group g = x := by
  simp [State.group, State.setGroup]

@[simp] theorem State.group_disarm (s : State) (a : Alarm) (g : Nat) : (s.disarm a).group g = s.group g := rfl

theorem State.group_discardStaged (s : State) (g : Nat) :
    (s.discardStaged g).group g = { s.group g with staged := [], owner := none } := by
  rw [State.discardStaged, State.group_disarm, State.group_setGroup_self]

section Group

variable {s : State} {g v : Nat} {o : MasterId} {rq : Requester} {set : List (Nat × Nat)}

/-! A member is checked for the claim of its group, then for a set that waits (R38, steps 8 and 9). -/

theorem State.groupCheck_owner (noSet : (s.group g).pending = none) (own : (s.group g).owner = some rq.master) :
    s.groupCheck rq g = .ok := by
  simp [State.groupCheck, noSet, own]

theorem State.groupCheck_inUse (claimed : (s.group g).owner = some o) (other : o ≠ rq.master) : s.groupCheck rq g = .inUse := by
  simp [State.groupCheck, claimed, other]

theorem State.groupCheck_pending (free : (s.group g).owner = none) (pending : (s.group g).pending = some set) :
    s.groupCheck rq g = .stagedPending := by
  simp [State.groupCheck, free, pending]

/-! ### Commit requests by the state of the group (R47, R48) -/

theorem State.commitResult_idle (m : MasterId) (v : Nat) (noSet : (s.group g).pending = none) (free : (s.group g).owner = none) :
    s.commitResult m g v = .ok := by
  simp [State.commitResult, noSet, free]

theorem State.commit_idle (v : Nat) (noSet : (s.group g).pending = none) (free : (s.group g).owner = none) : s.commit g v = s := by
  simp [State.commit, noSet, free]

theorem State.commitResult_inUse {m : MasterId} (v : Nat) (noSet : (s.group g).pending = none) (claimed : (s.group g).owner = some o)
    (other : o ≠ m) : s.commitResult m g v = .inUse := by
  simp [State.commitResult, noSet, claimed, other]

theorem State.commitResult_inconsistent {m : MasterId} (noSet : (s.group g).pending = none) (own : (s.group g).owner = some m)
    (load : v ≠ 0) (bad : s.setOk m g (s.group g).staged = false) : s.commitResult m g v = .commitInconsistent := by
  simp [State.commitResult, noSet, own, load, bad]

theorem State.commitResult_pending (m : MasterId) (v : Nat) (pending : (s.group g).pending = some set) :
    s.commitResult m g v = if v = 2 then .ok else .stagedPending := by
  simp [State.commitResult, pending]

theorem State.commit_pending (v : Nat) (pending : (s.group g).pending = some set) : s.commit g v = s.settleGroup g true := by
  simp [State.commit, pending]

theorem State.commit_discard (noSet : (s.group g).pending = none) (claimed : (s.group g).owner = some o) :
    s.commit g 0 = s.discardStaged g := by
  simp [State.commit, noSet, claimed]

/-- An accepted set becomes pending: the claim ends, and the set goes to its block. -/
theorem State.commit_load (noSet : (s.group g).pending = none) (claimed : (s.group g).owner = some o) (load : v ≠ 0) :
    s.commit g v = ((s.setGroup g { s.group g with
      staged := []
      owner := none
      pending := some (s.group g).staged }).disarm (.claim g)).settleGroup g (v == 2) := by
  simp [State.commit, noSet, claimed, load]

/-- A pending set without persistent members takes effect and is counted; nothing is to be saved. -/
theorem State.applySet_volatile (pending : (s.group g).pending = some set)
    (volatile : (set.any fun kv => keyPersistent kv.1) = false) :
    s.applySet g = (s.storeSet set).setGroup g { s.group g with
      pending := none
      applyCount := ((s.group g).applyCount + 1) % 2 ^ 32 } := by
  unfold State.applySet
  rw [pending]
  exact if_neg (by rw [volatile]; exact Bool.false_ne_true)

end Group

/-! ### COMMIT as an object (R46, R47) -/

/-- LAST_RESULT keeps the result of a request that found the group staged or pending. -/
def State.keepResult (before : State) (g : Nat) (e : Result) (s : State) : State :=
  if (before.group g).code = 0 then s else s.setGroup g { s.group g with lastResult := e.code }

/-- What an accepted commit does; the keeper plans anew where it commits the cycle (R202). -/
def State.commitAndReplan (s : State) (g v : Nat) : State :=
  if g = 0x2201 && v != 0 && s.isKeeper && (s.group g).code != 0 then (s.commit g v).arm .replan 0 else s.commit g v

section Commit

variable {s : State} {rq : Requester} {g : Nat} {v : List Byte}

theorem State.writeRequest_commit (isCommit : commitObjects.contains g = true) :
    s.writeRequest rq (objKey g 1) v =
      ((s.commitWrite rq g v).1.answerWrite rq 2 (objKey g 1) (s.commitWrite rq g v).2 v).noteOld s (objKey g 1) := by
  have commits : s.writeObject rq (objKey g 1) v = s.commitWrite rq g v := by
    unfold State.writeObject
    rw [objKey_div g (by decide), objKey_mod g (by decide)]
    exact if_pos (by rw [isCommit]; rfl)
  rw [State.writeRequest, commits]

theorem State.commitWrite_accepted (checked : s.checkWrite rq (objKey g 1) v = .ok)
    (accepted : s.commitResult rq.master g (leNat v) = .ok) :
    s.commitWrite rq g v = (s.keepResult g .ok (s.commitAndReplan g (leNat v)), .ok) := by
  unfold State.commitWrite
  simp only [checked, accepted]
  rfl

theorem State.commitWrite_refused {e : Result} (checked : s.checkWrite rq (objKey g 1) v = .ok)
    (refused : s.commitResult rq.master g (leNat v) = e) (bad : e ≠ .ok) : s.commitWrite rq g v = (s.keepResult g e s, e) := by
  unfold State.commitWrite
  simp [checked, refused, bad, State.keepResult]

end Commit

/-- The groups that values are staged in hold no object of the update chapter, ACTIVATE among them. -/
theorem ne_activate_of_groupOf {key g : Nat} (member : groupOf (key / 256) = some g) : key ≠ objKey 0x7010 4 := by
  rintro rfl
  have noGroup : groupOf (objKey 0x7010 4 / 256) = none := by decide
  rw [noGroup] at member
  cases member

/-- Settles O42 by the state of the group: a member is checked and staged, and a commit request is answered and carried out by what the
group holds. -/
theorem commitGroups : Obligations.CommitGroups := by
  unfold Obligations.CommitGroups
  refine ⟨?staged, fun _ _ _ _ _ => rfl, fun _ _ _ => State.groupCheck_owner, fun _ _ _ _ => State.groupCheck_inUse,
    fun _ _ _ _ => State.groupCheck_pending, fun g s due => congrArg done (s.onDue_of_due _ _ due), fun g s => s.group_discardStaged g,
    fun _ _ _ => rfl, fun _ _ _ => rfl, fun _ _ _ => rfl, ?accepted, ?refused,
    fun m g v s noSet free => ⟨State.commitResult_idle m v noSet free, State.commit_idle v noSet free⟩,
    fun _ _ _ v _ => State.commitResult_inUse v, fun _ _ _ _ => State.commitResult_inconsistent, ?waiting, ?forced,
    fun _ _ _ => State.commit_discard, ?loaded, fun _ _ _ => State.applySet_volatile⟩
  case staged =>
    rintro rq i j v key r g s rfl noCommit ok row acc member
    refine congrArg done ?_
    rw [s.writeRequest_eq_objectWrite rq _ v noCommit fun isActivate => absurd isActivate (ne_activate_of_groupOf member),
      s.objectWrite_staged rq _ v _ g r ok member row (by simp [acc])]
  case accepted =>
    rintro rq g v t s isCommit checked accepted rfl
    rw [State.writeRequest_commit isCommit, State.commitWrite_accepted checked accepted]
    rfl
  case refused =>
    intro rq g v e s isCommit checked refused bad
    rw [State.writeRequest_commit isCommit, State.commitWrite_refused checked refused bad]
    rfl
  case waiting =>
    intro m g v x s pending soft
    rw [State.commitResult_pending m v pending, if_neg soft]
  case forced =>
    intro m g v x s pending force
    exact ⟨by rw [State.commitResult_pending m v pending, if_pos force], State.commit_pending v pending⟩
  case loaded =>
    intro g o v s noSet claimed load
    exact State.commit_load noSet claimed (by omega)

end Sys2Proof.Machine
end

section
/-!
Dictionary transfers (R49, R51 to R54, R537): what serves a transfer, what a read shows, and how a segmented session goes on and ends.
-/

namespace Sys2Proof.Machine

/-! ### Serving a transfer (R52, R53, R537) -/

section Serve

variable {s : State} {rq : Requester} {t : TransferReq}

theorem State.transferOp_misframed {op : Nat} (bad : framedOk op t = false) :
    s.transferOp rq op t = s.answerTransfer rq .typeLength
      (transferHeader op 5 (transferKey t) t.session.toNat 0 t.pos.toNat) :=
  if_pos (by simp [bad])

theorem State.transferOp_read (framed : framedOk 1 t = true) :
    s.transferOp rq 1 t =
      let r := s.readObject rq (transferKey t) t.flags.toNat
      r.1.answerObj rq 1 (transferKey t) 0 0 r.2.1 r.2.2 :=
  if_neg (by simp [framed])

theorem State.transferOp_write (framed : framedOk 2 t = true) : s.transferOp rq 2 t = s.writeRequest rq (transferKey t) t.value :=
  if_neg (by simp [framed])

theorem State.transferOp_segWrite (framed : framedOk 6 t = true) :
    s.transferOp rq 6 t =
      let r := s.segWrite rq (transferKey t) t.session.toNat t.pos.toNat t.value (t.flags.toNat.testBit 0)
      r.1.answerObj rq 6 (transferKey t) t.session.toNat t.pos.toNat r.2 [] :=
  if_neg (by simp [framed])

theorem State.dictRow_fabric (op : Nat) (via : rq.via ≠ .usb) : s.dictRow rq op t = s.transferOp rq op t := if_neg via

theorem State.dictRow_usb (op : Nat) (via : rq.via = .usb) (whole : t.raw = none) : s.dictRow rq op t = s.usbTransfer rq op t := by
  simp [State.dictRow, via, whole]

theorem State.dictRow_usbBytes (op : Nat) {b : List Byte} (via : rq.via = .usb) (bytes : t.raw = some b) :
    s.dictRow rq op t = s.usbBytes rq t.target b := by
  simp [State.dictRow, via, bytes]

end Serve

/-! ### What a read shows (R49, R52) -/

section Read

variable {s : State} {rq : Requester} {key : Nat}

theorem State.readObject_dom (flags : Nat) (checked : s.readCheck rq key = .ok) (dom : keyIsDom key = true) :
    s.readObject rq key flags = (s, .typeLength, []) := by
  simp [State.readObject, checked, dom]

theorem State.readObject_default (checked : s.readCheck rq key = .ok) (plain : keyIsDom key = false)
    (open_ : (objRow? (key / 256) (key % 256)).any (fun r => r.acc == .const) = false) :
    s.readObject rq key 0x40 = (s, .ok, leBytes (keySize key) (objDefault key)) := by
  have bit6 : Nat.testBit 0x40 6 = true := by decide
  simp [State.readObject, checked, plain, open_, bit6]

theorem State.readObject_staged {v : Nat} (checked : s.readCheck rq key = .ok) (plain : keyIsDom key = false)
    (staged : s.stagedView key = some v) : s.readObject rq key 0x80 = (s, .ok, leBytes (keySize key) v) := by
  have bit6 : Nat.testBit 0x80 6 = false := by decide
  have bit7 : Nat.testBit 0x80 7 = true := by decide
  simp [State.readObject, checked, plain, staged, bit6, bit7]

theorem State.readObject_active (checked : s.readCheck rq key = .ok) (plain : keyIsDom key = false) :
    s.readObject rq key 0 = ((s.activeValue key).2, .ok, leBytes (keySize key) (s.activeValue key).1) := by
  simp [State.readObject, checked, plain]

end Read

/-! ### Sessions (R53) -/

section Sessions

variable {s : State} {rq : Requester} {key n pos len : Nat} {v : List Byte} {x : Session}

theorem State.segReadInit_full (sdo : Option (Fin 8)) (flags : Nat) (checked : s.readCheck rq key = .ok) (dom : keyIsDom key = true)
    (full : 8 ≤ s.sessions.length) : s.segReadInit rq sdo key flags = (s, .busyRetry, 0, 0) := by
  simp [State.segReadInit, checked, dom, full]

theorem State.segRead_next (checked : s.readCheck rq key = .ok) (found : s.findSession rq n key false = some x)
    (place : x.place pos len = .next) :
    s.segRead rq key n pos len = (s.putSession { x with
      accepted := pos + ((x.data.drop pos).take len).length
      last := some (pos, len) }, .ok, (x.data.drop pos).take len) := by
  simp only [State.segRead, checked, found, place]

theorem State.segRead_wrong (checked : s.readCheck rq key = .ok) (found : s.findSession rq n key false = some x)
    (place : x.place pos len = .wrong) : s.segRead rq key n pos len = (s.closeSession n, .range, []) := by
  simp only [State.segRead, checked, found, place]

theorem State.segRead_none (pos len : Nat) (checked : s.readCheck rq key = .ok) (missing : s.findSession rq n key false = none) :
    s.segRead rq key n pos len = (s, if keyIsDom key then .range else .typeLength, []) := by
  simp only [State.segRead, checked, missing]

theorem State.segWrite_again (last : Bool) (checked : s.segWriteCheck rq key = .ok) (found : s.findSession rq n key true = some x)
    (place : x.place pos v.length = .again) : s.segWrite rq key n pos v last = (s.putSession x, .ok) := by
  simp only [State.segWrite, checked, found, place]

/-- A last segment that does not end at the total that the session announced ends the session. -/
theorem State.segWrite_short (checked : s.segWriteCheck rq key = .ok) (found : s.findSession rq n key true = some x)
    (place : x.place pos v.length = .next) (short : pos + v.length ≠ x.total) :
    s.segWrite rq key n pos v true = (s.dropSession x, .typeLength) := by
  simp [State.segWrite, checked, found, place, short]

theorem State.segAbort_none (missing : s.session n = none) (checked : s.checkObject rq key .read = .ok) :
    s.segAbort rq key n = (s, .ok) := by
  simp [State.segAbort, missing, checked]

/-- An ABORT closes a session of its own master that no SDO server holds; any other is out of its range. -/
theorem State.segAbort_some (held : s.session n = some x)
    (checked : s.checkObject rq key (if x.write then writeRight key else .read) = .ok) :
    s.segAbort rq key n = if x.master = rq.master && x.sdo.isNone then (s.dropSession x, .ok) else (s, .range) := by
  simp [State.segAbort, held, checked]

theorem execSessionTimeout_due {n : Fin 256} (held : s.session n.val = some x) (transfer : x.sdo = none)
    (due : s.due (.session n.val) = true) :
    execSessionTimeout n s = .next (((s.disarm (.session n.val)).dropSession x).bump 0x1030 3) := by
  unfold execSessionTimeout
  rw [held]
  simp [transfer, State.onDue_of_due, due, done]

end Sessions

/-- Settles O43 function by function: the transport, the framing, the view that a read shows, and a session's places and ends. -/
theorem transfers : Obligations.Transfers := by
  unfold Obligations.Transfers
  refine ⟨fun _ _ _ => rfl, fun _ _ _ => rfl, fun _ _ _ => rfl, fun _ _ _ => rfl, fun _ _ _ => rfl, fun _ _ _ => rfl, fun _ _ _ => rfl,
    fun _ op _ _ => State.dictRow_fabric op, fun _ op _ _ => State.dictRow_usb op, fun _ op _ _ _ => State.dictRow_usbBytes op,
    fun _ _ _ _ => State.transferOp_misframed, ?read, fun _ _ _ => State.transferOp_write, ?segWrite,
    fun _ _ flags _ => State.readObject_dom flags, fun _ _ _ => State.readObject_default, fun _ _ _ _ => State.readObject_staged,
    fun _ _ _ => State.readObject_active, fun _ sdo _ flags _ => State.segReadInit_full sdo flags,
    fun _ _ _ _ _ _ _ => State.segRead_next, fun _ _ _ _ _ _ _ => State.segRead_wrong,
    fun _ _ _ pos len _ => State.segRead_none pos len, fun _ _ _ _ _ last _ _ => State.segWrite_again last,
    fun _ _ _ _ _ _ _ => State.segWrite_short, fun _ _ _ _ => State.segAbort_none, ?foreign, ?aborted,
    fun _ _ _ => execSessionTimeout_due⟩
  case read =>
    rintro rq t r s framed rfl
    exact State.transferOp_read framed
  case segWrite =>
    rintro rq t r s framed rfl
    exact State.transferOp_segWrite framed
  case foreign =>
    intro rq key n x s held checked foreign
    rw [State.segAbort_some held checked, if_neg (by simp [foreign])]
  case aborted =>
    intro rq key n x s held checked own transfer
    rw [State.segAbort_some held checked, if_pos (by simp [own, transfer])]

end Sys2Proof.Machine
end

section
/-!
The SDO server of the CAN ports (R55 to R57): the course of a transfer, and the result code that an abort leaves.
-/

namespace Sys2Proof

/-! ### Result codes (R58) -/

theorem Result.code_lt (e : Result) : e.code < 256 := by cases e <;> decide

/-- The number of a code names its result again (R58). -/
theorem Result.ofCode_code (e : Result) : Result.ofCode e.code = some e := by cases e <;> rfl

theorem Result.code_injective : Function.Injective Result.code := fun e e' same =>
  Option.some.inj (by rw [← e.ofCode_code, same, e'.ofCode_code])

end Sys2Proof

namespace Sys2Proof.Machine

/-! ### The course of a transfer (R55, R56) -/

section Transfer

variable {s : State} {n : Fin 8} {b : List Byte} {x : Session}

theorem State.sdoClose_none (idle : s.sdoSession n = none) : s.sdoClose n = s := by
  simp [State.sdoClose, idle]

/-- A segment of the transfer's direction that bears the expected toggle bit is taken. -/
theorem State.sdoSegment_next {write toggle : Bool} (f : Session → State) (held : s.sdoSession n = some x) (dir : x.write = write)
    (bit : x.toggle = toggle) : s.sdoSegment n write toggle f = f x := by
  simp [State.sdoSegment, held, dir, bit]

theorem State.sdoSegment_toggle {write toggle : Bool} (f : Session → State) (held : s.sdoSession n = some x) (dir : x.write = write)
    (bit : x.toggle ≠ toggle) : s.sdoSegment n write toggle f = (s.dropSession x).sdoAbort n x.key 0x05030000 Result.range.code := by
  simp [State.sdoSegment, held, dir, bit]

theorem State.sdoSegment_none (write toggle : Bool) (f : Session → State) (idle : s.sdoSession n = none)
    (running : s.mgmt.restarting = false) : s.sdoSegment n write toggle f = s.sdoFail n 0 .range := by
  simp [State.sdoSegment, idle, running]

/-- An expedited download (e set) writes its object and is answered. -/
theorem execSdoInitiateDownload_expedited (expedited : (leAt b 0 1).testBit 1 = true) (sized : (leAt b 0 1).testBit 0 = true) :
    execSdoInitiateDownload n b s = .next (
      let t := s.sdoClose n
      let value := (b.drop 4).take (4 - leAt b 0 1 / 4 % 4)
      let r := t.writeObject (t.sdoRequester n) (sdoKey b) value
      (r.1.answerWrite (t.sdoRequester n) 0x60 (sdoKey b) r.2 value).noteOld t (sdoKey b)) := by
  simp only [execSdoInitiateDownload, expedited, sized, if_true]
  rfl

theorem execSdoInitiateDownload_segmented (segmented : (leAt b 0 1).testBit 1 = false) (sized : (leAt b 0 1).testBit 0 = true) :
    execSdoInitiateDownload n b s = .next ((s.sdoClose n).sdoOpenWrite n (sdoKey b) (some (leAt b 4 4))) := by
  simp only [execSdoInitiateDownload, segmented, sized, if_true, Bool.false_eq_true, if_false]
  rfl

/-- An object that reads up to four bytes is uploaded at once. -/
theorem execSdoInitiateUpload_expedited {t : State} {v : List Byte} (plain : keyIsDom (sdoKey b) = false)
    (read : (s.sdoClose n).readObject ((s.sdoClose n).sdoRequester n) (sdoKey b) 0 = (t, .ok, v)) (short : v.length ≤ 4) :
    execSdoInitiateUpload n b s = .next (t.sdoReply n (sdoKey b)
      (leBytes 1 (0x43 + (4 - v.length) * 4) ++ sdoMux (sdoKey b) ++ (v ++ List.replicate 4 0).take 4)) := by
  simp only [execSdoInitiateUpload, plain, Bool.false_eq_true, if_false, read, short, if_true]
  rfl

/-- The last segment of an upload holds what is left and closes the session. -/
theorem execSdoUploadSegment_last (held : s.sdoSession n = some x) (dir : x.write = false) (bit : x.toggle = (leAt b 0 1).testBit 4)
    (last : x.data.length ≤ x.accepted + 7) (within : x.accepted ≤ x.data.length) :
    execSdoUploadSegment n b s = .next ((s.closeSession x.number).sdoReply n x.key
      (leBytes 1 (leAt b 0 1 / 16 % 2 * 16 + (7 - (x.data.length - x.accepted)) * 2 + 1) ++
        ((x.data.drop x.accepted) ++ List.replicate 7 0).take 7)) := by
  have rest : (x.data.drop x.accepted).take 7 = x.data.drop x.accepted := List.take_of_length_le (by rw [List.length_drop]; omega)
  have ends : x.data.length ≤ x.accepted + (x.data.length - x.accepted) := by omega
  refine congrArg done ?_
  rw [State.sdoSegment_next _ held dir bit]
  simp only [rest, List.length_drop, ends, if_true]

theorem execSdoTimeout_due (held : s.sdoSession n = some x) (due : s.due (.session x.number) = true) :
    execSdoTimeout n s =
      .next ((((s.disarm (.session x.number)).dropSession x).bump 0x1030 3).sdoFail n x.key .farTimeout) := by
  unfold execSdoTimeout
  rw [held]
  exact congrArg done (s.onDue_of_due _ _ due)

end Transfer

/-- Settles O28 request by request: an initiate by its expedited form, a segment by the transfer that it finds or misses. -/
theorem sdoServer : Obligations.SdoServer := by
  unfold Obligations.SdoServer
  exact ⟨fun _ _ _ => execSdoInitiateDownload_expedited, fun _ _ _ => execSdoInitiateDownload_segmented,
    fun _ _ _ _ held dir bit => congrArg done (State.sdoSegment_next _ held dir bit),
    fun _ _ _ _ held dir bit => congrArg done (State.sdoSegment_toggle _ held dir bit),
    fun _ _ _ idle running => congrArg done (State.sdoSegment_none _ _ _ idle running),
    fun _ _ _ _ _ => execSdoInitiateUpload_expedited, fun _ _ _ _ => execSdoUploadSegment_last, fun _ _ => rfl,
    fun _ _ _ => execSdoTimeout_due, fun _ _ => State.sdoClose_none⟩

/-! ### SDO_LAST_RESULT (R57) -/

/-- SDO_LAST_RESULT is a byte for each port. -/
theorem objBits_sdoLastResult (n : Fin 8) : objBits (objKey 0x1020 (n.val + 1)) = 8 := by revert n; decide

theorem State.val_sdoAbort_self (s : State) (n : Fin 8) (key abort : Nat) {code : Nat} (fits : code < 256) :
    (s.sdoAbort n key abort code).val 0x1020 (n.val + 1) = code := by
  rw [State.val_congr (s.objs_sdoAbort n key abort code), State.val_setVal_fits]
  rwa [objBits_sdoLastResult]

theorem State.val_sdoAbort_of_ne (s : State) {n m : Fin 8} (key abort code : Nat) (other : m ≠ n) :
    (s.sdoAbort n key abort code).val 0x1020 (m.val + 1) = s.val 0x1020 (m.val + 1) := by
  rw [State.val_congr (s.objs_sdoAbort n key abort code), State.val_setVal_of_ne]
  unfold objKey
  omega

theorem State.val_sdoFail (s : State) (n : Fin 8) (key : Nat) (e : Result) : (s.sdoFail n key e).val 0x1020 (n.val + 1) = e.code :=
  s.val_sdoAbort_self n key _ e.code_lt

/-- A download that fails is answered with an abort, as it keeps its turn by itself. -/
theorem State.val_answerWrite_sdo (s : State) (rq : Requester) (n : Fin 8) (op key : Nat) {e : Result} (v : List Byte)
    (via : rq.via = .sdo n) (bad : e ≠ .ok) : (s.answerWrite rq op key e v).val 0x1020 (n.val + 1) = e.code := by
  have aborts : s.answerWrite rq op key e v = s.sdoFail n key e := by
    rw [State.answerWrite_of_ne_ok _ _ _ _ _ bad, State.answerObj, via]
    exact if_neg bad
  rw [aborts, State.val_sdoFail]

/-- An upload of an object that cannot be read ends in an abort, whose code tells a write-only object apart. -/
theorem execSdoInitiateUpload_failed {n : Fin 8} {b : List Byte} {s : State} {e : Result} (plain : keyIsDom (sdoKey b) = false)
    (bad : e ≠ .ok) (read : ((s.sdoClose n).readObject ((s.sdoClose n).sdoRequester n) (sdoKey b) 0).2.1 = e) :
    ∃ t : State, ∃ abort, execSdoInitiateUpload n b s = .next (t.sdoAbort n (sdoKey b) abort e.code) := by
  obtain ⟨t, e', v, result⟩ : ∃ t e' v, (s.sdoClose n).readObject ((s.sdoClose n).sdoRequester n) (sdoKey b) 0 = (t, e', v) :=
    ⟨_, _, _, rfl⟩
  obtain rfl : e' = e := by rw [← read, result]
  simp only [execSdoInitiateUpload, plain, Bool.false_eq_true, if_false, result]
  cases e' with
  | ok => exact absurd rfl bad
  | _ => split <;> exact ⟨t, _, rfl⟩

/-- Settles O50: an abort writes the port's own subindex and nothing else, and a request that fails ends in an abort with its result. -/
theorem sdoLastResult : Obligations.SdoLastResult := by
  unfold Obligations.SdoLastResult
  refine ⟨fun n key abort _ s => s.val_sdoAbort_self n key abort, fun _ _ key abort code s => s.val_sdoAbort_of_ne key abort code,
    fun n key e s => s.val_sdoFail n key e, fun _ _ same => Result.code_injective same, ?download, ?upload⟩
  case download =>
    intro n b e s expedited sized bad failed
    refine ⟨_, execSdoInitiateDownload_expedited expedited sized, ?_⟩
    dsimp only
    rw [State.val_congr (State.objs_noteOld ..), failed]
    exact State.val_answerWrite_sdo _ _ _ _ _ _ rfl bad
  case upload =>
    intro n b e s plain bad failed
    obtain ⟨t, abort, run⟩ := execSdoInitiateUpload_failed plain bad failed
    exact ⟨_, run, t.val_sdoAbort_self n _ _ e.code_lt⟩

end Sys2Proof.Machine
end

section
/-!
Saves, defaults and the release of the node number (R40, R42, R43, R60, R113).
-/

namespace Sys2Proof.Machine

/-! ### When a save starts (R40, R60, R113) -/

theorem State.armed_arm_self (s : State) (a : Alarm) (d : Nat) : (s.arm a d).armed a = true := by
  rw [State.armed, State.deadline_arm_self, Option.isSome_some]

theorem State.startSave_running (s : State) (running : s.mgmt.restarting = false) :
    s.startSave = ({ s.disarm .save with
      settings := { s.settings with writing := some s.persistentSet, again := false, held := false } } : State).setVal 0x1010 1 2 :=
  if_neg (by simp [running])

theorem State.startSave_restarting (s : State) (restarting : s.mgmt.restarting = true) :
    s.startSave = { s.disarm .save with settings := { s.settings with held := true } } :=
  if_pos restarting

/-- The first change that no save holds yet makes SAVE_STATE 1 and sets the time of the save. -/
theorem State.noteSave_first (s : State) (noSave : s.val 0x1010 1 ≠ 2) (unarmed : s.armed .save = false) :
    s.noteSave = (s.setVal 0x1010 1 1).arm .save (secs 2) := by
  have unarmed' : (s.setVal 0x1010 1 1).armed .save = false := unarmed
  simp [State.noteSave, noSave, unarmed']

theorem State.noteChange_persistent (s : State) {key : Nat} (persistent : keyPersistent key = true) : s.noteChange key = s.noteSave :=
  if_pos persistent

theorem State.noteChange_volatile (s : State) {key : Nat} (volatile : keyPersistent key = false) : s.noteChange key = s :=
  if_neg (by simp [volatile])

theorem saveNowFx_idle (s : State) (idle : s.settings.writing = none) : saveNowFx s = s.startSave :=
  if_neg (by simp [idle])

theorem saveNowFx_saving (s : State) {set : SavedSet} (saving : s.settings.writing = some set) :
    saveNowFx s = { s with settings := { s.settings with again := true } } :=
  if_pos (by simp [saving])

theorem execSaveStart_due (s : State) (due : s.due .save = true) (idle : s.settings.writing = none) :
    execSaveStart s = .next ((s.disarm .save).startSave) := by
  refine congrArg done ((s.onDue_of_due _ _ due).trans (if_neg ?_))
  simp [State.disarm, idle]

/-! ### How a save ends (R40, R42, R43, R60) -/

/-- The save that ran is no longer written, and what waited for it has been taken up. -/
def State.saveTaken (s : State) : State :=
  { s with settings := { s.settings with writing := none, again := false, restart := none } }

/-- The end of the hub's own save: the copy, or SAVE_FAIL. -/
def State.saveResult (s : State) (ok : Bool) (set : SavedSet) : State :=
  if ok then s.saveTaken.storeSave set else (s.saveTaken.setVal 0x1010 1 3).raise 6 1 contained (packArg [i32 set.seq])

section Done

variable {s : State} {set : SavedSet} {cause : Nat} (ok : Bool)

theorem execSaveDone_idle (idle : s.settings.writing = none) : execSaveDone ok none s = .next s := by
  simp only [execSaveDone, idle]
  rfl

theorem execSaveDone_alone (saving : s.settings.writing = some set) (once : s.settings.again = false)
    (stays : s.settings.restart = none) : execSaveDone ok none s = .next (s.saveResult ok set) := by
  simp only [execSaveDone, saving, once, stays]
  rfl

/-- A restart that waits for this save follows it. -/
theorem execSaveDone_restart (saving : s.settings.writing = some set) (once : s.settings.again = false)
    (waits : s.settings.restart = some (cause, false)) : execSaveDone ok none s = .next ((s.saveResult ok set).beginRestart cause) := by
  simp only [execSaveDone, saving, once, waits]
  rfl

/-- A restart that waits for the next save goes on waiting, for the save that starts now. -/
theorem execSaveDone_next (saving : s.settings.writing = some set) (again : s.settings.again = true)
    (waits : s.settings.restart = some (cause, true)) :
    execSaveDone ok none s = .next (
      let t := s.saveResult ok set
      State.startSave { t with settings := { t.settings with restart := some (cause, false) } }) := by
  simp only [execSaveDone, saving, again, waits]
  rfl

end Done

/-! ### The release of the node number (R43) -/

@[simp] theorem State.noteSave_rs (s : State) : s.noteSave.rs = s.rs := by
  unfold State.noteSave
  dsimp only
  split <;> split <;> rfl

@[simp] theorem State.noteSave_settings (s : State) : s.noteSave.settings = s.settings := by
  unfold State.noteSave
  dsimp only
  split <;> split <;> rfl

@[simp] theorem State.nameBackup_rs (s : State) : s.nameBackup.rs = s.rs := by
  unfold State.nameBackup
  split <;> rfl

@[simp] theorem State.nameBackup_settings (s : State) : s.nameBackup.settings = s.settings := by
  unfold State.nameBackup
  split <;> rfl

@[simp] theorem State.setMap_rs (s : State) (m : RingMap) : (s.setMap m).rs = { s.rs with map := m } := by
  simp [State.setMap]

@[simp] theorem State.setMap_settings (s : State) (m : RingMap) : (s.setMap m).settings = s.settings := by
  simp [State.setMap]

@[simp] theorem State.startSave_rs (s : State) : s.startSave.rs = s.rs := by
  unfold State.startSave
  split <;> rfl

@[simp] theorem saveNowFx_rs (s : State) : (saveNowFx s).rs = s.rs := by
  unfold saveNowFx
  split
  · rfl
  · exact s.startSave_rs

@[simp] theorem State.saveAndRestart_rs (s : State) (cause : Nat) : (s.saveAndRestart cause).rs = s.rs := saveNowFx_rs s

/-- The restart waits for the save that holds the change: the next one, where a save runs already. -/
@[simp] theorem State.saveAndRestart_restart (s : State) (cause : Nat) :
    (s.saveAndRestart cause).settings.restart = some (cause, s.settings.writing.isSome) := rfl

theorem releaseNumberFx_rs (s : State) :
    (releaseNumberFx s).rs = { s.rs with map := {}, stored := 0, copies := [], grant := none, renumber := none } := by
  simp [releaseNumberFx]

theorem releaseNumberFx_restart (s : State) : (releaseNumberFx s).settings.restart = some (7, s.settings.writing.isSome) := by
  simp [releaseNumberFx]

/-- Settles O44: a save by what starts it and how it ends, then the two writes that save and ask for a restart. -/
theorem saves : Obligations.Saves := by
  unfold Obligations.Saves
  refine ⟨execSaveStart_due, fun s early => congrArg done (s.onDue_of_not_due _ _ early), State.startSave_running,
    State.startSave_restarting, ?first, fun _ s => s.noteChange_volatile, fun _ _ _ => rfl, saveNowFx_idle,
    fun _ s => saveNowFx_saving s, fun ok _ => execSaveDone_idle ok, fun _ _ _ => rfl, fun _ _ => execSaveDone_alone true,
    fun _ _ => execSaveDone_alone false, fun _ _ _ => execSaveDone_restart true, fun _ _ _ => rfl,
    fun _ _ _ => execSaveDone_next true, fun _ => rfl, fun _ _ _ => rfl, ?released⟩
  case first =>
    intro key s persistent noSave unarmed
    rw [s.noteChange_persistent persistent, s.noteSave_first noSave unarmed]
    exact ⟨s.val_setVal_fits 0x1010 1 1 (by decide), State.armed_arm_self ..⟩
  case released =>
    intro s
    rw [releaseNumberFx_rs]
    exact ⟨rfl, rfl, rfl, releaseNumberFx_restart s⟩

end Sys2Proof.Machine
end

section
/-!
The trailing CRC of a frame that is passed on (R88). CRC-32C is linear in its register and its bytes together, so the CRCs of two
frames of one length differ by the CRC, from 0, of the difference of their bytes, and a payload that both share differs by zeros.
-/

namespace Sys2Proof.Machine

/-- The register moves by one bit. -/
def crc32cShift (c : Nat) : Nat := if c.testBit 0 then (c / 2) ^^^ 0x82F63B78 else c / 2

theorem crc32cByte_eq (c : Nat) (b : Byte) : crc32cByte c b = (List.range 8).foldl (fun c _ => crc32cShift c) (c ^^^ b.toNat) := rfl

/-- The polynomial is taken off where one of the two loses a 1, and cancels where both do. -/
theorem crc32cShift_xor (a b : Nat) : crc32cShift (a ^^^ b) = crc32cShift a ^^^ crc32cShift b := by
  have half : (a ^^^ b) / 2 = a / 2 ^^^ b / 2 := Nat.xor_div_two_pow (n := 1)
  unfold crc32cShift
  rw [Nat.testBit_xor, half]
  cases a.testBit 0 <;> cases b.testBit 0
  case false.false => rfl
  case false.true => exact Nat.xor_assoc ..
  case true.false => exact Nat.xor_right_comm ..
  case true.true =>
    change a / 2 ^^^ b / 2 = a / 2 ^^^ 0x82F63B78 ^^^ (b / 2 ^^^ 0x82F63B78)
    rw [Nat.xor_comm (b / 2), ← Nat.xor_assoc, Nat.xor_xor_cancel_right]

theorem crc32cByte_xor (c d : Nat) (x y : Byte) : crc32cByte (c ^^^ d) (x ^^^ y) = crc32cByte c x ^^^ crc32cByte d y := by
  have registers : c ^^^ d ^^^ (x ^^^ y).toNat = (c ^^^ x.toNat) ^^^ (d ^^^ y.toNat) := by
    rw [BitVec.toNat_xor]
    ac_rfl
  rw [crc32cByte_eq, registers]
  exact List.foldl_hom₂ _ (· ^^^ ·) _ _ _ _ _ fun a b _ => (crc32cShift_xor a b).symm

theorem foldl_crc32cByte_zipWith_xor {xs ys : List Byte} (sameLength : xs.length = ys.length) (c d : Nat) :
    (xs.zipWith (· ^^^ ·) ys).foldl crc32cByte (c ^^^ d) = xs.foldl crc32cByte c ^^^ ys.foldl crc32cByte d := by
  induction xs generalizing ys c d with
  | nil =>
    obtain rfl := List.length_eq_zero_iff.1 sameLength.symm
    rfl
  | cons x xs ih =>
    cases ys with
    | nil => cases sameLength
    | cons y ys =>
      rw [List.zipWith_cons_cons, List.foldl_cons, crc32cByte_xor]
      exact ih (Nat.succ.inj sameLength) _ _

/-- The initial value and the final XOR are the same for both and cancel. -/
theorem crc32c_xor {xs ys : List Byte} (sameLength : xs.length = ys.length) :
    crc32c xs ^^^ crc32c ys = crc32cRaw (xs.zipWith (· ^^^ ·) ys) := by
  have linear := foldl_crc32cByte_zipWith_xor sameLength 0xFFFFFFFF 0xFFFFFFFF
  rw [Nat.xor_self] at linear
  rw [crc32cRaw, linear, crc32c, crc32c, Nat.xor_comm (List.foldl _ _ ys), ← Nat.xor_assoc, Nat.xor_xor_cancel_right]

theorem zipWith_xor_append_self {xs ys : List Byte} (sameLength : xs.length = ys.length) (payload : List Byte) :
    (xs ++ payload).zipWith (· ^^^ ·) (ys ++ payload) = xs.zipWith (· ^^^ ·) ys ++ List.replicate payload.length 0#8 := by
  rw [List.zipWith_append sameLength, List.zipWith_self]
  simp

/-- What `adjustCrc` adds is the difference of the two frames' CRCs. -/
theorem adjustCrc_eq_xor (crc : Nat) (old new : Header) (payload : List Byte) :
    adjustCrc crc old new payload.length = crc ^^^ (frameCrc old payload ^^^ frameCrc new payload) := by
  have headers : (headerBytes old).length = (headerBytes new).length := by simp
  rw [adjustCrc, frameCrc, frameCrc, crc32c_xor (by simp), zipWith_xor_append_self headers]

/-- Settles O57: `adjustCrc` adds the difference of the two CRCs, so it leads to the new one from the old one alone. -/
theorem crcFollowsEveryHop : Obligations.CrcFollowsEveryHop := by
  intro crc old new payload
  calc adjustCrc crc old new payload.length = frameCrc new payload
    _ ↔ crc ^^^ (frameCrc old payload ^^^ frameCrc new payload) =
          frameCrc old payload ^^^ (frameCrc old payload ^^^ frameCrc new payload) := by
        rw [adjustCrc_eq_xor, Nat.xor_xor_cancel_left]
    _ ↔ crc = frameCrc old payload := Nat.xor_left_inj

end Sys2Proof.Machine
end

section
/-!
The ring ports (ch. 03): what a port reads after each update of its objects, its engine and its alarms, and what a frame that it sends
leaves as it is.
-/

namespace Sys2Proof.Machine

/-! ### A port's engine -/

@[simp] theorem State.port_setPort_self (s : State) (p : RingPort) (e : PortEngine) : (s.setPort p e).port p = e := by cases p <;> rfl
@[simp] theorem State.setPort_objs (s : State) (p : RingPort) (e : PortEngine) : (s.setPort p e).objs = s.objs := by cases p <;> rfl
@[simp] theorem State.setPort_alarms (s : State) (p : RingPort) (e : PortEngine) : (s.setPort p e).alarms = s.alarms := by cases p <;> rfl
@[simp] theorem State.setPort_out (s : State) (p : RingPort) (e : PortEngine) : (s.setPort p e).out = s.out := by cases p <;> rfl
@[simp] theorem State.setPort_uptime (s : State) (p : RingPort) (e : PortEngine) : (s.setPort p e).uptime = s.uptime := by cases p <;> rfl
@[simp] theorem State.setPort_ident (s : State) (p : RingPort) (e : PortEngine) : (s.setPort p e).ident = s.ident := by cases p <;> rfl
@[simp] theorem State.setPort_rs (s : State) (p : RingPort) (e : PortEngine) : (s.setPort p e).rs = s.rs := by cases p <;> rfl

section Engine

variable (s : State) (p : RingPort) (f : PortEngine → PortEngine)

@[simp] theorem State.port_updPort_self : (s.updPort p f).port p = f (s.port p) := s.port_setPort_self p _
@[simp] theorem State.updPort_alarms : (s.updPort p f).alarms = s.alarms := s.setPort_alarms p _
@[simp] theorem State.updPort_out : (s.updPort p f).out = s.out := s.setPort_out p _
@[simp] theorem State.updPort_uptime : (s.updPort p f).uptime = s.uptime := s.setPort_uptime p _
@[simp] theorem State.updPort_ident : (s.updPort p f).ident = s.ident := s.setPort_ident p _
@[simp] theorem State.updPort_rs : (s.updPort p f).rs = s.rs := s.setPort_rs p _
@[simp] theorem State.val_updPort (i j : Nat) : (s.updPort p f).val i j = s.val i j := State.val_congr (s.setPort_objs p _) i j
@[simp] theorem State.portVal_updPort (q : RingPort) (j : Nat) : (s.updPort p f).portVal q j = s.portVal q j := s.val_updPort p f _ j

@[simp] theorem State.port_arm (a : Alarm) (d : Nat) (q : RingPort) : (s.arm a d).port q = s.port q := rfl
@[simp] theorem State.port_setPortVal (q : RingPort) (j v : Nat) : (s.setPortVal p j v).port q = s.port q := rfl
@[simp] theorem State.port_setPortState (q : RingPort) (st : PortState) : (s.setPortState p st).port q = s.port q := rfl
@[simp] theorem State.setPortState_alarms (st : PortState) : (s.setPortState p st).alarms = s.alarms := rfl
@[simp] theorem State.setPortState_out (st : PortState) : (s.setPortState p st).out = s.out := rfl
@[simp] theorem State.setPortState_uptime (st : PortState) : (s.setPortState p st).uptime = s.uptime := rfl

end Engine

/-! ### A port's objects -/

section Objects

variable (s : State) (p : RingPort)

theorem State.portVal_setPortVal_of_ne {j k : Nat} (v : Nat) (other : k ≠ j) : (s.setPortVal p j v).portVal p k = s.portVal p k :=
  s.val_setVal_of_ne v (by unfold objKey; omega)

/-- The objects of 8 bits that a port's training sets: PORT_STATE, PORT_RATE, REFUSE_REASON. -/
theorem objBits_portByte {j : Nat} (byte : j = 4 ∨ j = 5 ∨ j = 6) : objBits (objKey (0x2000 + p.num) j) = 8 := by
  rcases byte with rfl | rfl | rfl <;> cases p <;> rfl

theorem objBits_neighbourSerial : objBits (objKey (0x2000 + p.num) 7) = 64 := by cases p <;> rfl

/-- MARGIN_V and MARGIN_H have 16 bits. -/
theorem objBits_margin {j : Nat} (margin : j = 9 ∨ j = 0xA) : objBits (objKey (0x2000 + p.num) j) = 16 := by
  rcases margin with rfl | rfl <;> cases p <;> rfl

theorem objBits_blockErrors : objBits (objKey (0x2010 + p.num) 0xC) = 32 := by cases p <;> rfl

theorem State.portVal_setPortVal_byte {j v : Nat} (byte : j = 4 ∨ j = 5 ∨ j = 6) (fits : v < 256) :
    (s.setPortVal p j v).portVal p j = v :=
  s.val_setVal_fits _ j v (by rwa [objBits_portByte p byte])

theorem State.portVal_setPortVal_serial (serial : BitVec 64) : (s.setPortVal p 7 serial.toNat).portVal p 7 = serial.toNat :=
  s.val_setVal_fits _ 7 _ (by rw [objBits_neighbourSerial]; exact serial.isLt)

theorem State.portVal_setPortVal_margin {j : Nat} (margin : j = 9 ∨ j = 0xA) (v : Nat) :
    (s.setPortVal p j v).portVal p j = v % 65536 := by
  have cut : (s.setPortVal p j v).portVal p j = v % 2 ^ objBits (objKey (0x2000 + p.num) j) := s.val_setVal_self _ j v
  rwa [objBits_margin p margin] at cut

/-- The counters of a port are no object of the port. -/
@[simp] theorem State.portVal_portBump {j k : Nat} (hj : j < 256) (hk : k < 256) : (s.portBump p j).portVal p k = s.portVal p k :=
  s.val_setVal_of_ne _ (by cases p <;> simp only [objKey, RingPort.num] <;> omega)

/-- An event counts in OVERRUNS at most, and that is no object of a port (R417). -/
@[simp] theorem State.portVal_portEvent (kind cls arg : Nat) {k : Nat} (hk : k < 256) :
    (s.portEvent p kind cls arg).portVal p k = s.portVal p k :=
  s.val_raise_of_ne _ _ _ _ (by cases p <;> simp only [objKey, RingPort.num] <;> omega)

@[simp] theorem State.portEvent_uptime (kind cls arg : Nat) : (s.portEvent p kind cls arg).uptime = s.uptime := by
  obtain ⟨_, _, _, _, raised⟩ := s.raise_eq (0x008 + p.num) kind cls arg
  rw [State.portEvent, raised]

/-! ### A port's state (R68, R94) -/

variable {s p}

theorem State.portIs_iff {st : PortState} : s.portIs p st = true ↔ s.portVal p 4 = st.code := beq_iff_eq

theorem State.portIs_congr {t : State} (same : t.portVal p 4 = s.portVal p 4) (st : PortState) : t.portIs p st = s.portIs p st := by
  rw [State.portIs, same, State.portIs]

/-- A port is in one state. -/
theorem State.portIs_of_other {st st' : PortState} (is : s.portIs p st = true) (other : st.code ≠ st'.code) : s.portIs p st' = false := by
  rw [← Bool.not_eq_true, State.portIs_iff, State.portIs_iff.1 is]
  exact other

variable (s p)

theorem State.portVal_setPortState_state (st : PortState) : (s.setPortState p st).portVal p 4 = st.code := by
  rw [State.setPortState, State.portVal_setPortVal_of_ne _ _ _ (by decide),
    State.portVal_setPortVal_byte _ _ (by simp) (by cases st <;> decide)]

@[simp] theorem State.portIs_setPortState (st : PortState) : (s.setPortState p st).portIs p st = true :=
  State.portIs_iff.2 (s.portVal_setPortState_state p st)

/-- PORT_RATE reads 0 unless the port is UP. -/
theorem State.portVal_setPortState_rate {st : PortState} (notUp : st ≠ .up) : (s.setPortState p st).portVal p 5 = 0 := by
  rw [State.setPortState, if_neg notUp, State.portVal_setPortVal_byte _ _ (by simp) (by decide)]

theorem State.portVal_setPortState_of_ne (st : PortState) {k : Nat} (notState : k ≠ 4) (notRate : k ≠ 5) :
    (s.setPortState p st).portVal p k = s.portVal p k := by
  rw [State.setPortState, State.portVal_setPortVal_of_ne _ _ _ notRate, State.portVal_setPortVal_of_ne _ _ _ notState]

@[simp] theorem State.portVal_arm (a : Alarm) (d j : Nat) : (s.arm a d).portVal p j = s.portVal p j := rfl
@[simp] theorem State.portVal_emit (e : Emission) (j : Nat) : (s.emit e).portVal p j = s.portVal p j := rfl
@[simp] theorem State.portIs_arm (a : Alarm) (d : Nat) (st : PortState) : (s.arm a d).portIs p st = s.portIs p st := rfl
@[simp] theorem State.portIs_emit (e : Emission) (st : PortState) : (s.emit e).portIs p st = s.portIs p st := rfl

/-- No object of a ring port is a member of a commit group: an accepted write has its effect (R37). -/
theorem State.objectWrite_port (rq : Requester) {j : Nat} (v : List Byte) (fx : Nat → State → State) (hj : j < 256)
    (ok : s.checkWrite rq (objKey (0x2000 + p.num) j) v = .ok) (running : s.bench = false) :
    s.objectWrite rq (objKey (0x2000 + p.num) j) v fx = s.accepted rq (objKey (0x2000 + p.num) j) v fx :=
  s.objectWrite_accepted rq _ v fx ok running (.inl (by rw [objKey_div _ hj]; cases p <;> rfl))

end Objects

/-! ### Frames of a port -/

/-- A HOP_MGMT frame of the SUBTYPE and LEN that an UP port expects is taken (R90). -/
theorem State.takeHop_taken {s : State} {p : RingPort} {f : TakenFrame} {sub len : Nat} (k : List Byte → State) (up : s.isUp p = true)
    (subtype : beAt f.payload 0 1 = sub) (whole : f.payload.length = len) : s.takeHop p f sub len k = k f.payload := by
  simp [State.takeHop, up, subtype, whole]

theorem State.enqueue_ofPort (s : State) (p : RingPort) (c : Fin 4) (f : QFrame) :
    ∃ sw, s.enqueue (Output.ofPort p) c f = { s with sw := sw } := by
  cases p <;> exact ⟨_, rfl⟩

/-- An UP port queues a frame at its output, and nothing but the switch changes (R90). -/
theorem State.sendHop_of_up {s : State} {p : RingPort} (up : s.isUp p = true) (tsv : Bool) (b : List Byte) :
    ∃ sw, s.sendHop p tsv b = { s with sw := sw } := by
  have stillUp : (s.takeMgmtSeq 0xFFFF).2.isUp p = true := up
  unfold State.sendHop
  dsimp only
  rw [if_pos stillUp]
  exact ((s.takeMgmtSeq 0xFFFF).2.enqueue_ofPort p _ _).imp fun _ queued => queued

/-- Where the port is not UP the frame is counted as discarded, so an object can change as well (R80). -/
theorem State.sendHop_eq (s : State) (p : RingPort) (tsv : Bool) (b : List Byte) :
    ∃ objs sw, s.sendHop p tsv b = { s with objs := objs, sw := sw } := by
  cases up : s.isUp p with
  | true =>
    obtain ⟨sw, sent⟩ := State.sendHop_of_up up tsv b
    exact ⟨s.objs, sw, sent⟩
  | false =>
    have stillDown : (s.takeMgmtSeq 0xFFFF).2.isUp p = false := up
    unfold State.sendHop
    dsimp only
    rw [if_neg (by rw [stillDown]; exact Bool.false_ne_true)]
    exact ⟨_, _, rfl⟩

@[simp] theorem State.sendHop_uptime (s : State) (p : RingPort) (tsv : Bool) (b : List Byte) : (s.sendHop p tsv b).uptime = s.uptime := by
  obtain ⟨_, _, sent⟩ := s.sendHop_eq p tsv b
  rw [sent]

@[simp] theorem State.port_sendHop (s : State) (p q : RingPort) (tsv : Bool) (b : List Byte) : (s.sendHop p tsv b).port q = s.port q := by
  obtain ⟨_, _, sent⟩ := s.sendHop_eq p tsv b
  rw [sent]
  rfl

end Sys2Proof.Machine
end

section
/-!
Training of a ring port (R68 to R70, R78, R79).
-/

namespace Sys2Proof.Machine

/-! ### DETECT and its retry (R68) -/

theorem execDetectTimeout_due {s : State} {p : RingPort} (due : s.due (.detect p) = true) : execDetectTimeout p s = .next
    ((if s.portIs p .refused then ((s.disarm (.detect p)).setPortVal p 6 0).setPortState p .detect else s.disarm (.detect p)).arm
      (.trainRetry p) (secs 1)) :=
  congrArg done (s.onDue_of_due _ _ due)

theorem execTrainingRetry_due {s : State} {p : RingPort} (due : s.due (.trainRetry p) = true) : execTrainingRetry p s = .next
    (if s.portIs p .refused then (s.disarm (.trainRetry p)).arm (.detect p) (msec 20)
      else (s.disarm (.trainRetry p)).enterDetect p 0) :=
  congrArg done (s.onDue_of_due _ _ due)

/-! ### ORIENT (R69) -/

/-- What TRAIN words tell of the partner: its serial and its number, and a neighbour other than before asks for a new baseline (R467). -/
def State.heardIdentity (s : State) (p partnerPort : RingPort) (serial : BitVec 64) (ring : Fin 16) (node : Fin 8192) : State :=
  ((s.updPort p fun e => { e with rebase := e.rebase || (s.portVal p 7 != 0 && s.portVal p 7 != serial.toNat) }).setPortVal p 7
    serial.toNat).setPortVal p 8 (2 ^ 28 * ring.val + 2 ^ 15 * node.val + partnerPort.num)

/-- A refusal counts and is reported once, as long as its reason lasts. -/
def State.noteHopRefusal (s : State) (p : RingPort) (reason serial : Nat) : State :=
  if s.portVal p 6 == reason then s
  else ((s.setPortVal p 6 reason).portBump p 0x11).portEvent p (2 + reason) contained serial

section Heard

variable (s : State) (p partnerPort : RingPort) (serial : BitVec 64) (ring : Fin 16) (node : Fin 8192)

@[simp] theorem State.heardIdentity_uptime : (s.heardIdentity p partnerPort serial ring node).uptime = s.uptime := by
  simp [State.heardIdentity]

@[simp] theorem State.heardIdentity_ident : (s.heardIdentity p partnerPort serial ring node).ident = s.ident := by
  simp [State.heardIdentity]

@[simp] theorem State.heardIdentity_rs : (s.heardIdentity p partnerPort serial ring node).rs = s.rs := by
  simp [State.heardIdentity]

@[simp] theorem State.heardIdentity_alarms : (s.heardIdentity p partnerPort serial ring node).alarms = s.alarms := by
  simp [State.heardIdentity]

@[simp] theorem State.heardIdentity_out : (s.heardIdentity p partnerPort serial ring node).out = s.out := by
  simp [State.heardIdentity]

end Heard

section Orient

variable {s : State} {p partnerPort : RingPort} {serial : BitVec 64} {ring : Fin 16} {node : Fin 8192} {reason : Nat}

theorem execOrientIdentity_accepted (permits : LineRate) (orient : s.portIs p .orient = true)
    (fits : (s.heardIdentity p partnerPort serial ring node).refusal p partnerPort serial ring node = 0) :
    execOrientIdentity p partnerPort serial ring node permits s = .next
      ((((s.heardIdentity p partnerPort serial ring node).updPort p fun e => { e with partnerRate := permits }).setPortVal p 6
        0).setPortState p .equalise) := by
  refine congrArg done ((if_pos (by rw [orient, Bool.true_or])).trans ?_)
  exact if_pos fits

theorem execOrientIdentity_refused (permits : LineRate) (orient : s.portIs p .orient = true)
    (refused : (s.heardIdentity p partnerPort serial ring node).refusal p partnerPort serial ring node = reason) (bad : reason ≠ 0) :
    execOrientIdentity p partnerPort serial ring node permits s = .next
      (((((s.heardIdentity p partnerPort serial ring node).noteHopRefusal p reason serial.toNat).setPortState p .refused).emit
        (.refuseHop p reason)).arm (.trainRetry p) (secs 1)) := by
  subst refused
  refine congrArg done ((if_pos (by rw [orient, Bool.true_or])).trans ?_)
  exact if_neg bad

/-- A hub without a node number held fits every ring, so a partner at the opposite port is refused for its own serial alone. -/
theorem State.refusal_none (opposite : partnerPort ≠ p) (other : serial.toNat ≠ s.ident.serial) (unnumbered : s.rs.stored = 0) :
    s.refusal p partnerPort serial ring node = 0 := by
  simp [State.refusal, opposite, other, unnumbered]

theorem State.refusal_samePort : s.refusal p p serial ring node = 1 := if_pos rfl

theorem State.portVal_heardIdentity_serial (s : State) : (s.heardIdentity p partnerPort serial ring node).portVal p 7 = serial.toNat := by
  rw [State.heardIdentity, State.portVal_setPortVal_of_ne _ _ _ (by decide), State.portVal_setPortVal_serial]

end Orient

theorem State.portVal_noteHopRefusal (s : State) (p : RingPort) {reason : Nat} (serial : Nat) (byte : reason < 256) :
    (s.noteHopRefusal p reason serial).portVal p 6 = reason := by
  unfold State.noteHopRefusal
  split
  case isTrue lasts => exact beq_iff_eq.1 lasts
  case isFalse =>
    rw [State.portVal_portEvent _ _ _ _ _ (by decide), State.portVal_portBump _ _ (by decide) (by decide),
      State.portVal_setPortVal_byte _ _ (by simp) byte]

@[simp] theorem State.noteHopRefusal_uptime (s : State) (p : RingPort) (reason serial : Nat) :
    (s.noteHopRefusal p reason serial).uptime = s.uptime := by
  unfold State.noteHopRefusal
  split
  · rfl
  · simp

/-! ### EQUALISE (R70) -/

/-- The margins and the orders let the port in at the full rate (R70, R76). -/
def State.fullRateOk (s : State) (p : RingPort) (own partner : Margins) : Bool :=
  s.portVal p 2 == 2 && (s.port p).partnerRate = .full && (s.port p).cap != some .fallback && s.entryFull p own && s.entryFull p partner

section Equalise

variable {s : State} {p : RingPort} {own partner fallback : Margins}

theorem State.entryFull_iff {m : Margins} : s.entryFull p m = true ↔ s.portVal p 0xD + 12 ≤ m.v ∧ s.portVal p 0xE + 60 ≤ m.h := by
  simp [State.entryFull]

theorem State.fullRateOk_iff : s.fullRateOk p own partner = true ↔
    s.portVal p 2 = 2 ∧ (s.port p).partnerRate = .full ∧ (s.port p).cap ≠ some .fallback ∧ s.portVal p 0xD + 12 ≤ own.v ∧
      s.portVal p 0xE + 60 ≤ own.h ∧ s.portVal p 0xD + 12 ≤ partner.v ∧ s.portVal p 0xE + 60 ≤ partner.h := by
  simp [State.fullRateOk, State.entryFull_iff, and_assoc]

theorem LineRate.eq_fallback_iff {r : LineRate} : r = .fallback ↔ r ≠ .full := by cases r <;> decide

/-- One missing permission or margin keeps the port from the full rate. -/
theorem State.not_fullRateOk (missing : s.portVal p 2 ≠ 2 ∨ (s.port p).partnerRate = .fallback ∨ (s.port p).cap = some .fallback ∨
    own.v < s.portVal p 0xD + 12 ∨ own.h < s.portVal p 0xE + 60 ∨ partner.v < s.portVal p 0xD + 12 ∨
      partner.h < s.portVal p 0xE + 60) : ¬ s.fullRateOk p own partner = true := by
  rw [LineRate.eq_fallback_iff] at missing
  rw [State.fullRateOk_iff]
  rintro ⟨rate, partnerRate, cap, ownV, ownH, partnerV, partnerH⟩
  rcases missing with low | low | low | low | low | low | low
  · exact low rate
  · exact low partnerRate
  · exact cap low
  all_goals omega

theorem entryFallback_iff : entryFallback fallback = true ↔ 40 ≤ fallback.v ∧ 150 ≤ fallback.h := by
  simp [entryFallback]

theorem execEqualiseDone_full (fallback : Margins) (equalise : s.portIs p .equalise = true)
    (full : s.fullRateOk p own partner = true) :
    execEqualiseDone p own partner fallback s = .next ((if (s.port p).phyToo then s.phyLoaded p else s).goUp p .full) :=
  congrArg done ((if_pos equalise).trans (if_pos full))

theorem execEqualiseDone_fallback (equalise : s.portIs p .equalise = true) (slow : ¬ s.fullRateOk p own partner = true)
    (fits : 40 ≤ fallback.v ∧ 150 ≤ fallback.h) :
    execEqualiseDone p own partner fallback s = .next ((if (s.port p).phyToo then s.phyLoaded p else s).goUp p .fallback) :=
  congrArg done ((if_pos equalise).trans ((if_neg slow).trans (if_pos (entryFallback_iff.2 fits))))

theorem execEqualiseDone_failed (equalise : s.portIs p .equalise = true) (slow : ¬ s.fullRateOk p own partner = true)
    (low : ¬ (40 ≤ fallback.v ∧ 150 ≤ fallback.h)) :
    execEqualiseDone p own partner fallback s =
      .next ((if (s.port p).phyToo then s.phyFailed p else s).trainFail p fallback) :=
  congrArg done ((if_pos equalise).trans ((if_neg slow).trans (if_neg (low ∘ entryFallback_iff.1))))

end Equalise

/-! ### LINK_LOSS (R78) -/

section Loss

variable {s : State} {p : RingPort}

theorem execLinkLoss_retraining (retraining : s.portIs p .fastRetrain = true) :
    execLinkLoss p s = .next (s.fastFail p ⟨s.portVal p 9, s.portVal p 0xA⟩) := by
  have notUp : s.isUp p = false := State.portIs_of_other retraining (by decide)
  refine congrArg done ((if_neg ?_).trans (if_pos retraining))
  rw [notUp]
  exact Bool.false_ne_true

theorem execLinkLoss_training {st : PortState} (state : s.portIs p st = true) (training : st = .orient ∨ st = .equalise) :
    execLinkLoss p s = .next (s.trainFail p ⟨s.portVal p 9, s.portVal p 0xA⟩) := by
  have notUp : s.isUp p = false := State.portIs_of_other state (by rcases training with rfl | rfl <;> decide)
  have notFast : s.portIs p .fastRetrain = false := State.portIs_of_other state (by rcases training with rfl | rfl <;> decide)
  have trains : (s.portIs p .orient || s.portIs p .equalise) = true := by rcases training with rfl | rfl <;> simp [state]
  simp only [execLinkLoss, notUp, notFast, trains, Bool.false_eq_true, if_false, if_true]
  rfl

end Loss

/-- Settles O2 command by command, by the state that the port is in. -/
theorem portTraining : Obligations.PortTraining := by
  unfold Obligations.PortTraining
  refine ⟨fun rq p v s ok running => congrArg done (s.objectWrite_port p rq v _ (by decide) ok running), fun p s => rfl,
    fun p s detect armed => congrArg done (if_pos (by rw [detect, armed]; rfl)), ?found, ?absent, ?lost, ?retry, ?pass, ?accepted,
    ?refused, ?full, ?fallback, ?failed, fun p s up => congrArg done (if_pos up), fun p s => execLinkLoss_retraining, ?loss,
    fun p f s up subtype whole => congrArg done (State.takeHop_taken _ up subtype whole)⟩
  case found =>
    intro p s notDetect refused armed
    exact congrArg done ((if_neg (by simp [notDetect])).trans (if_pos (by rw [refused, armed]; rfl)))
  case absent =>
    intro p s due fits
    exact (execDetectTimeout_due due).trans (by rw [fits]; rfl)
  case lost =>
    intro p s due refused
    exact (execDetectTimeout_due due).trans (by rw [refused]; rfl)
  case retry =>
    intro p s due fits
    exact (execTrainingRetry_due due).trans (by rw [fits]; rfl)
  case pass =>
    intro p s due refused
    exact (execTrainingRetry_due due).trans (by rw [refused]; rfl)
  case accepted =>
    intro p serial ring node permits s orient other unnumbered
    have opposite : p.other ≠ p := by cases p <;> decide
    have fits := State.refusal_none (s := s.heardIdentity p p.other serial ring node) (ring := ring) (node := node) opposite
      (by simpa using other) (by simpa using unnumbered)
    refine ⟨_, execOrientIdentity_accepted permits orient fits, State.portIs_setPortState .., ?rate, ?reason, ?serial, ?_, ?_, ?_⟩
    case rate => exact State.portVal_setPortState_rate _ _ (by decide)
    case reason =>
      rw [State.portVal_setPortState_of_ne _ _ _ (by decide) (by decide), State.portVal_setPortVal_byte _ _ (by simp) (by decide)]
    case serial =>
      rw [State.portVal_setPortState_of_ne _ _ _ (by decide) (by decide), State.portVal_setPortVal_of_ne _ _ _ (by decide),
        State.portVal_updPort, State.portVal_heardIdentity_serial]
    all_goals simp
  case refused =>
    intro p serial ring node permits s orient
    refine ⟨_, execOrientIdentity_refused permits orient State.refusal_samePort Nat.one_ne_zero, ?state, ?reason, ?retry⟩
    case state => simp
    case reason =>
      rw [State.portVal_arm, State.portVal_emit, State.portVal_setPortState_of_ne _ _ _ (by decide) (by decide),
        State.portVal_noteHopRefusal _ _ _ (by decide)]
    case retry => simp [State.deadline_arm_self]
  case full =>
    intro p own partner fallback s equalise rate partnerRate cap ownV ownH partnerV partnerH
    exact execEqualiseDone_full fallback equalise
      (State.fullRateOk_iff.2 ⟨rate, partnerRate, cap, ownV, ownH, partnerV, partnerH⟩)
  case fallback =>
    intro p own partner fallback s equalise missing v h
    exact execEqualiseDone_fallback equalise (State.not_fullRateOk missing) ⟨v, h⟩
  case failed =>
    intro p own partner fallback s equalise missing low
    exact execEqualiseDone_failed equalise (State.not_fullRateOk missing) (by omega)
  case loss =>
    rintro p s (orient | equalise)
    · exact execLinkLoss_training orient (.inl rfl)
    · exact execLinkLoss_training equalise (.inr rfl)

end Sys2Proof.Machine
end

section
/-!
Margins, fallback and retrains of a ring port (R71 to R76, R90, R94).
-/

namespace Sys2Proof.Machine

/-! ### Margins (R71, R72) -/

/-- The margins of 100 ms are shown and kept for the day and the slow spell, with the coded blocks that had an invalid header. -/
def State.showMargins (s : State) (p : RingPort) (m : Margins) (blocks : Fin 65536) : State :=
  let least (x : Option Nat) (v : Nat) : Option Nat := some (match x with
    | some d => min d v
    | none => v)
  (((s.addVal (0x2010 + p.num) 0xC blocks.val).setPortVal p 9 m.v).setPortVal p 0xA m.h).updPort p fun e => { e with
    dayV := least e.dayV m.v, dayH := least e.dayH m.h
    slowMargins := if e.slowSince.isSome then addMargins s.uptime m e.slowMargins else [] }

/-- Low margins start the hold time of a fallback, and others end it. -/
def State.watchMargins (s : State) (p : RingPort) (low : Bool) : State :=
  if !low then s.disarm (.fallbackHold p)
  else if s.armed (.fallbackHold p) then s else s.arm (.fallbackHold p) (nsec (s.portVal p 0xF))

section Margins

variable (s : State) (p : RingPort) (m : Margins) (blocks : Fin 65536)

theorem State.watchMargins_eq (low : Bool) : ∃ alarms, s.watchMargins p low = { s with alarms := alarms } := by
  unfold State.watchMargins
  split
  · exact ⟨_, rfl⟩
  · split <;> exact ⟨_, rfl⟩

@[simp] theorem State.showMargins_uptime : (s.showMargins p m blocks).uptime = s.uptime := by simp [State.showMargins]

theorem State.portVal_showMargins_v : (s.showMargins p m blocks).portVal p 9 = m.v % 65536 := by
  rw [State.showMargins, State.portVal_updPort, State.portVal_setPortVal_of_ne _ _ _ (by decide),
    State.portVal_setPortVal_margin _ _ (.inl rfl)]

theorem State.portVal_showMargins_h : (s.showMargins p m blocks).portVal p 0xA = m.h % 65536 := by
  rw [State.showMargins, State.portVal_updPort, State.portVal_setPortVal_margin _ _ (.inr rfl)]

theorem State.portVal_showMargins_of_ne {k : Nat} (notV : k ≠ 9) (notH : k ≠ 0xA) (hk : k < 256) :
    (s.showMargins p m blocks).portVal p k = s.portVal p k := by
  rw [State.showMargins, State.portVal_updPort, State.portVal_setPortVal_of_ne _ _ _ notH, State.portVal_setPortVal_of_ne _ _ _ notV]
  exact s.val_setVal_of_ne _ (by cases p <;> simp only [objKey, RingPort.num] <;> omega)

/-- BLOCK_ERRORS is no object of a ring port (R95). -/
theorem State.val_showMargins_blocks :
    (s.showMargins p m blocks).val (0x2010 + p.num) 0xC = (s.val (0x2010 + p.num) 0xC + blocks.val) % 2 ^ 32 := by
  have apart (j : Nat) (hj : j < 256) : objKey (0x2010 + p.num) 0xC ≠ objKey (0x2000 + p.num) j := by
    cases p <;> simp only [objKey, RingPort.num] <;> omega
  rw [State.showMargins, State.val_updPort, State.setPortVal, State.val_setVal_of_ne _ _ (apart _ (by decide)), State.setPortVal,
    State.val_setVal_of_ne _ _ (apart _ (by decide)), State.addVal, State.val_setVal_self, objBits_blockErrors]

end Margins

/-- MARGIN goes out with the margins shown, and the next are due after 100 ms; between them the objects stand. -/
theorem execMarginUpdate_due {s : State} {p : RingPort} (m : Margins) (blocks : Fin 65536) (due : s.due (.marginTick p) = true)
    (up : s.isUp p = true) : ∃ sw alarms, execMarginUpdate p m blocks s =
      .next (({ (s.disarm (.marginTick p)).showMargins p m blocks with sw := sw, alarms := alarms } : State).arm (.marginTick p)
        (msec 100)) := by
  have stillUp : (s.disarm (.marginTick p)).isUp p = true := up
  obtain ⟨low, b, run⟩ : ∃ low b, execMarginUpdate p m blocks s =
      .next (((((s.disarm (.marginTick p)).showMargins p m blocks).watchMargins p low).sendHop p false b).arm (.marginTick p)
        (msec 100)) :=
    ⟨_, _, congrArg done ((s.onDue_of_due _ _ due).trans (if_neg (by simp [stillUp])))⟩
  obtain ⟨alarms, watched⟩ := ((s.disarm (.marginTick p)).showMargins p m blocks).watchMargins_eq p low
  have shownUp : (((s.disarm (.marginTick p)).showMargins p m blocks).watchMargins p low).isUp p = true := by
    rw [watched]
    exact (State.portIs_congr (State.portVal_showMargins_of_ne _ _ _ _ (by decide) (by decide) (by decide)) .up).trans stillUp
  obtain ⟨sw, sent⟩ := State.sendHop_of_up shownUp false b
  exact ⟨sw, alarms, by rw [run, sent, watched]⟩

/-! ### What both ends permit, and what a planned retrain waits for (R69, R74, R75) -/

section Planned

variable {s : State} {p : RingPort}

theorem State.permitted_full (r : Retrain) (rate : s.portVal p 2 = 2) (partner : (s.port p).partnerRate = .full) :
    s.permitted p r = r :=
  if_neg (by simp [rate, partner])

theorem State.permitted_fallback (r : Retrain) (slow : s.portVal p 2 = 1 ∨ (s.port p).partnerRate = .fallback) :
    s.permitted p r = { r with rate := .fallback } :=
  if_pos (by simpa using slow)

/-- The ring is closed but for this port's own hop, and neither port has a retrain under way: a planned one may be asked for now. -/
def State.mayRetrain (s : State) (p : RingPort) : Prop :=
  s.otherHopDown p = false ∧ s.otherPortBusy p = false ∧ (s.port p).agreed = none ∧ (s.port p).running = none

theorem State.mayRetrain.not_waits (free : s.mayRetrain p) :
    ¬ (s.otherHopDown p || s.otherPortBusy p || (s.port p).agreed.isSome || (s.port p).running.isSome) = true := by
  obtain ⟨closed, idle, noneAgreed, noneRunning⟩ := free
  simp [closed, idle, noneAgreed, noneRunning]

theorem State.plannedRetrain_first (r : Retrain) (free : s.mayRetrain p) (noRequest : (s.port p).requested = none) :
    s.plannedRetrain p r = s.requestRetrain p r := by
  refine (if_neg free.not_waits).trans ?_
  rw [noRequest]

/-- A second plan before the first is agreed makes one request of both. -/
theorem State.plannedRetrain_merged {q : Retrain} (r : Retrain) (free : s.mayRetrain p) (request : (s.port p).requested = some q) :
    s.plannedRetrain p r = s.requestRetrain p (mergeRetrain q r) := by
  refine (if_neg free.not_waits).trans ?_
  rw [request]

theorem State.plannedRetrain_deferred (r : Retrain) (waits : s.otherHopDown p = true ∨ s.otherPortBusy p = true) :
    s.plannedRetrain p r = s.updPort p fun e => { e with deferred := e.deferred ++ [r] } :=
  if_pos (by rcases waits with down | busy <;> simp [*])

/-- The oldest deferred retrain goes on; a fall to 2.5 Gbit/s (reason 0) does so as it was planned. -/
theorem execDeferredRetrain_due {r : Retrain} {l : List Retrain} (due : s.due (.deferredRetrain p) = true)
    (deferred : (s.port p).deferred = r :: l) (up : s.isUp p = true) (free : s.mayRetrain p) (fall : r.reason = 0) :
    execDeferredRetrain p s =
      .next (((s.disarm (.deferredRetrain p)).updPort p fun e => { e with deferred := l }).plannedRetrain p r) := by
  have deferred' : ((s.disarm (.deferredRetrain p)).port p).deferred = r :: l := deferred
  have up' : (s.disarm (.deferredRetrain p)).isUp p = true := up
  have free' : (s.disarm (.deferredRetrain p)).mayRetrain p := free
  refine congrArg done ((s.onDue_of_due _ _ due).trans ?_)
  rw [deferred']
  refine (if_neg (by simp [up'])).trans ((if_neg free'.not_waits).trans ?_)
  rw [if_pos fall]

/-! ### Writes that plan a retrain (R74, R94) -/

theorem retrainFx_up (v : Nat) (up : s.isUp p = true) :
    retrainFx p v s = s.plannedRetrain p (s.permitted p ⟨if v = 2 then .full else (s.port p).rate, v == 2, 2⟩) :=
  if_pos up

theorem retrainFx_down (v : Nat) (down : s.isUp p = false) : retrainFx p v s = s := if_neg (by simp [down])

theorem maxRateFx_changed {v : Nat} (up : s.isUp p = true) (changed : s.portVal p 2 ≠ v) :
    maxRateFx p v s = (s.setPortVal p 2 v).plannedRetrain p ((s.setPortVal p 2 v).permitted p ⟨.full, false, 2⟩) :=
  if_pos (by simp [up, changed])

/-! ### The partner's request (R75, R76) -/

variable {f : TakenFrame}

section Request

variable (up : s.isUp p = true) (subtype : beAt f.payload 0 1 = 5) (whole : f.payload.length = 8)
include up subtype whole

/-- With no request of this end, the partner's is granted, unless it is planned and the other port is busy. -/
theorem execRetrainReq_alone (noRequest : (s.port p).requested = none) :
    execRetrainReq p f s = .next
      (if (1 ≤ beAt f.payload 4 1 ∧ beAt f.payload 4 1 ≤ 3) ∧ s.otherPortBusy p = true then
        s.updPort p fun e => { e with asked := some (retrainOf f.payload) }
      else s.ackRetrain p (retrainOf f.payload)) := by
  have planned : ((retrainOf f.payload).reason = 1 ∨ (retrainOf f.payload).reason = 2 ∨ (retrainOf f.payload).reason = 3) ↔
      1 ≤ beAt f.payload 4 1 ∧ beAt f.payload 4 1 ≤ 3 := by
    dsimp only [retrainOf]
    omega
  refine congrArg done ((State.takeHop_taken _ up subtype whole).trans ?_)
  simp only [noRequest, Bool.and_eq_true, Bool.or_eq_true, decide_eq_true_eq, or_assoc, planned]

/-- Of two crossed requests, the end with the higher serial number grants both in one. -/
theorem execRetrainReq_crossed {r : Retrain} (request : (s.port p).requested = some r) :
    execRetrainReq p f s = .next
      (if s.portVal p 7 < s.ident.serial then s.ackRetrain p (mergeRetrain r (retrainOf f.payload)) else s) := by
  refine congrArg done ((State.takeHop_taken _ up subtype whole).trans ?_)
  dsimp only
  rw [request]

end Request

/-! ### The start and the end of a retrain (R68, R72, R76, R77) -/

section Run

variable {r : Retrain} {own partner : Margins}

/-- A retrain that a write or a plan ordered (reason 2) has no cause in the recorder. -/
theorem execFastRetrainStart_ordered (due : s.due (.retrainStart p) = true) (agreed : (s.port p).agreed = some r)
    (ordered : r.reason = 2) : execFastRetrainStart p s = .next
      (if r.full then ((s.disarm (.retrainStart p)).enterDetect p 0).updPort p
        fun e => { e with cap := some r.rate, phyToo := (s.port p).phyToo || s.up.phy.isSome }
      else ((((s.disarm (.retrainStart p)).portBump p 0xE).leaveUp p .fastRetrain).updPort p
        fun e => { e with running := some r, phyToo := (s.port p).phyToo || s.up.phy.isSome }).openShadow (portShadowCodes p)
          (msec 2) 0 0) := by
  have agreed' : ((s.disarm (.retrainStart p)).port p).agreed = some r := agreed
  refine congrArg done ((s.onDue_of_due _ _ due).trans ?_)
  dsimp only
  rw [agreed']
  dsimp only
  simp only [ordered, OfNat.ofNat_ne_zero, if_false, Nat.reduceEqDiff]
  rfl

variable (retraining : s.portIs p .fastRetrain = true)
include retraining

theorem execFastRetrainDone_fallback (running : (s.port p).running = some ⟨.fallback, false, 0⟩)
    (fits : entryFallback own = true) : execFastRetrainDone p (some (own, partner)) s = .next (s.retrained p .fallback) := by
  refine congrArg done ((if_neg (by simp [retraining])).trans ?_)
  rw [running]
  exact if_pos fits

/-- An up-rate (reason 1) succeeds where both ends measure the margins of the full rate (R73). -/
theorem execFastRetrainDone_uprate (running : (s.port p).running = some ⟨.full, false, 1⟩) (ownFits : s.entryFull p own = true)
    (partnerFits : s.entryFull p partner = true) : execFastRetrainDone p (some (own, partner)) s =
      .next (((s.portBump p 0x10).portEvent p 8 corrected (packArg [i32 own.v, i32 own.h])).retrained p .full) := by
  refine congrArg done ((if_neg (by simp [retraining])).trans ?_)
  rw [running]
  exact (if_pos rfl).trans (if_pos (by rw [ownFits, partnerFits]; rfl))

theorem execFastRetrainDone_failed (running : (s.port p).running = some r) (noPhy : (s.port p).phyToo = false) :
    execFastRetrainDone p none s = .next (s.fastFail p ⟨s.portVal p 9, s.portVal p 0xA⟩) := by
  refine congrArg done ((if_neg (by simp [retraining])).trans ?_)
  rw [running]
  exact if_neg (by simp [noPhy])

end Run

end Planned

/-- Settles O3 command by command: margins as they are shown and exchanged, a request by whether this end has one too, a retrain by
its order, and a plan by what it waits for. -/
theorem portMarginsAndRetrains : Obligations.PortMarginsAndRetrains := by
  unfold Obligations.PortMarginsAndRetrains
  refine ⟨?shown, fun p f s up subtype whole => congrArg done (State.takeHop_taken _ up subtype whole), ?hold, ?granted, ?waits,
    ?lower, ?higher, fun p f s up subtype whole => congrArg done (State.takeHop_taken _ up subtype whole), ?fast, ?train, ?fellBack,
    ?uprate, fun p r s retraining => execFastRetrainDone_failed retraining,
    fun rq p s ok running => congrArg done (s.objectWrite_port p rq _ _ (by decide) ok running),
    fun rq p s ok running => congrArg done (s.objectWrite_port p rq _ _ (by decide) ok running),
    fun p s => retrainFx_up 1, fun p s => retrainFx_up 2, fun p v s => retrainFx_down v, fun p r s => State.permitted_full r,
    fun p r s => State.permitted_fallback r,
    fun rq p v s ok running => congrArg done (s.objectWrite_port p rq v _ (by decide) ok running), fun p v s => maxRateFx_changed,
    ?deferred, ?first, ?merged, fun p r s => State.plannedRetrain_deferred r⟩
  case shown =>
    intro p m blocks s due up
    obtain ⟨sw, alarms, run⟩ := execMarginUpdate_due m blocks due up
    refine ⟨_, run, ?v, ?h, ?up, ?blocks, ?next⟩
    case v => exact State.portVal_showMargins_v ..
    case h => exact State.portVal_showMargins_h ..
    case up =>
      exact (State.portIs_congr (State.portVal_showMargins_of_ne _ _ _ _ (by decide) (by decide) (by decide)) .up).trans up
    case blocks => exact State.val_showMargins_blocks ..
    case next => simp [State.deadline_arm_self]
  case hold =>
    intro p s due up full
    exact congrArg done ((s.onDue_of_due _ _ due).trans (if_pos (Bool.and_eq_true_iff.2 ⟨up, decide_eq_true full⟩)))
  case granted =>
    intro p f s up subtype whole noRequest free
    have atOnce : ¬ ((1 ≤ beAt f.payload 4 1 ∧ beAt f.payload 4 1 ≤ 3) ∧ s.otherPortBusy p = true) := by
      rintro ⟨range, busy⟩
      rcases free with low | high | idle
      · omega
      · omega
      · exact Bool.false_ne_true (idle.symm.trans busy)
    exact (execRetrainReq_alone up subtype whole noRequest).trans (by rw [if_neg atOnce])
  case waits =>
    intro p f s up subtype whole noRequest low high busy
    exact (execRetrainReq_alone up subtype whole noRequest).trans (by rw [if_pos ⟨⟨low, high⟩, busy⟩])
  case lower =>
    intro p f r s up subtype whole request lower
    exact (execRetrainReq_crossed up subtype whole request).trans (by rw [if_neg (Nat.not_lt.2 lower)])
  case higher =>
    intro p f r s up subtype whole request higher
    exact (execRetrainReq_crossed up subtype whole request).trans (by rw [if_pos higher])
  case fast =>
    intro p r s due agreed ordered fast
    exact (execFastRetrainStart_ordered due agreed ordered).trans (by rw [fast]; rfl)
  case train =>
    intro p r s due agreed ordered full
    exact (execFastRetrainStart_ordered due agreed ordered).trans (by rw [full]; rfl)
  case fellBack =>
    intro p own partner s retraining running v h
    exact execFastRetrainDone_fallback retraining running (entryFallback_iff.2 ⟨v, h⟩)
  case uprate =>
    intro p own partner s retraining running ownV ownH partnerV partnerH
    exact execFastRetrainDone_uprate retraining running (State.entryFull_iff.2 ⟨ownV, ownH⟩)
      (State.entryFull_iff.2 ⟨partnerV, partnerH⟩)
  case deferred =>
    intro p r l s due deferred up closed idle noneAgreed noneRunning fall
    exact execDeferredRetrain_due due deferred up ⟨closed, idle, noneAgreed, noneRunning⟩ fall
  case first =>
    intro p r s closed idle noneAgreed noneRunning noRequest
    exact State.plannedRetrain_first r ⟨closed, idle, noneAgreed, noneRunning⟩ noRequest
  case merged =>
    intro p q r s closed idle noneAgreed noneRunning request
    exact State.plannedRetrain_merged r ⟨closed, idle, noneAgreed, noneRunning⟩ request

end Sys2Proof.Machine
end

section
/-!
The neighbour and the link delay of a ring port (R90 to R92).
-/

namespace Sys2Proof.Machine

section Delay

variable {s : State} {p : RingPort}

/-- A NEIGHBOUR frame goes out, and the next is due 1 s after it. -/
theorem execNeighbourSend_due (due : s.due (.neighbour p) = true) :
    ∃ b, execNeighbourSend p s =
      .next (((s.disarm (.neighbour p)).sendHop p false b).arm (.neighbour p) (secs 1)) :=
  ⟨_, congrArg done (s.onDue_of_due _ _ due)⟩

/-- A DELAY_REQ opens the exchange of the next number. -/
theorem State.port_sendDelayReq (s : State) (p : RingPort) : (s.sendDelayReq p).port p = { s.port p with
    nextExchange := ((s.port p).nextExchange + 1) % 65536, exchange := some ((s.port p).nextExchange, none) } := by
  rw [State.sendDelayReq, State.port_arm, State.port_sendHop, State.port_updPort_self]

theorem State.due_disarm_of_ne (s : State) {a b : Alarm} (other : b ≠ a) : (s.disarm a).due b = s.due b := by
  unfold State.due
  rw [s.deadline_disarm_of_ne other]
  rfl

theorem execDelayReqSend_idle (due : s.due (.delayReq p) = true) (idle : (s.port p).exchange = none) :
    execDelayReqSend p s = .next ((s.disarm (.delayReq p)).sendDelayReq p) := by
  have idle' : ((s.disarm (.delayReq p)).port p).exchange = none := idle
  exact congrArg done ((s.onDue_of_due _ _ due).trans (if_pos (by rw [idle', Option.isNone_none])))

/-- An exchange without an answer for 100 µs is rejected before the next one opens. -/
theorem execDelayReqSend_overdue {x : Nat × Option Nat} (due : s.due (.delayReq p) = true) (open_ : (s.port p).exchange = some x)
    (overdue : s.due (.delayResp p) = true) : execDelayReqSend p s =
      .next (((((s.disarm (.delayReq p)).disarm (.delayResp p)).updPort p fun e => { e with exchange := none }).rejectDelay p
        none).sendDelayReq p) := by
  have open' : ((s.disarm (.delayReq p)).port p).exchange = some x := open_
  have overdue' : (s.disarm (.delayReq p)).due (.delayResp p) = true := by rw [s.due_disarm_of_ne (by simp), overdue]
  exact congrArg done ((s.onDue_of_due _ _ due).trans ((if_neg (by simp [open'])).trans (if_pos overdue')))

/-- The delay of one exchange (R91), in 2^-16 ns and modulo 2^32 ns: half of what the round took beyond the partner's own time. -/
def measuredDelay (f : TakenFrame) (t1 : Nat) : Nat :=
  ((((f.stamp : Int) - t1) % (2 ^ 48) - ((correctedStamp f.hdr : Int) - (65536 * beAt f.payload 4 4 + beAt f.payload 8 2 : Nat)) %
    (2 ^ 48)) % (2 ^ 48) / 2).toNat

/-- The first measurement of a fill is accepted whatever it is. -/
theorem execDelayResp_first {f : TakenFrame} {n t1 : Nat} (up : s.isUp p = true) (subtype : beAt f.payload 0 1 = 3)
    (whole : f.payload.length = 16) (open_ : (s.port p).exchange = some (n, some t1)) (answers : n = beAt f.payload 2 2)
    (first : (s.port p).delays = []) : execDelayResp p f s =
      .next (((s.disarm (.delayResp p)).updPort p fun e => { e with exchange := none }).acceptDelay p (measuredDelay f t1)) := by
  have wrap : ((2 ^ 32 * 65536 : Nat) : Int) = 2 ^ 48 := by norm_num
  have empty : (((s.disarm (.delayResp p)).updPort p fun e => { e with exchange := none }).port p).delays.isEmpty = true := by
    rw [State.port_updPort_self]
    exact List.isEmpty_iff.2 first
  refine congrArg done ((State.takeHop_taken _ up subtype whole).trans ?_)
  rw [open_]
  refine (if_pos answers).trans ((if_pos (by rw [empty, Bool.true_or])).trans ?_)
  rw [wrap]
  rfl

end Delay

/-- Settles O4 command by command: what is sent and when the next is due, then an exchange by how far it has come. -/
theorem portNeighbourAndDelay : Obligations.PortNeighbourAndDelay := by
  unfold Obligations.PortNeighbourAndDelay
  refine ⟨?sent, fun p f s up subtype whole => congrArg done (State.takeHop_taken _ up subtype whole), fun p s => execDelayReqSend_idle,
    fun p s => s.port_sendDelayReq p, fun p x s => execDelayReqSend_overdue,
    fun p f s up subtype whole => congrArg done (State.takeHop_taken _ up subtype whole), fun p f n t1 s => execDelayResp_first,
    fun p s due => congrArg done (s.onDue_of_due _ _ due)⟩
  case sent =>
    intro p s due
    obtain ⟨b, run⟩ := execNeighbourSend_due due
    exact ⟨_, run, by simp [State.deadline_arm_self]⟩

end Sys2Proof.Machine
end

section
/-!
Frames received on ring ports and board links (R80, R84 to R89, R99, R100, R105, R160).
-/

namespace Sys2Proof.Machine

/-! ### A frame at its header (R84, R99, R100) -/

section Header

variable {s : State} {p : RingPort} {raw : BitVec 256} {stamp : Nat}

/-- No frame was under way, so none is given up (R89). -/
theorem State.abandonRx_none (idle : (s.port p).rx = none) : s.abandonRx p = s := by
  unfold State.abandonRx
  rw [idle]

section Rx

variable (up : s.isUp p = true) (idle : (s.port p).rx = none)
include up idle

theorem execRingFrameRx_fault {k : Nat} (fault : headerFault p (decodeHeader raw) = some k) :
    execRingFrameRx p raw stamp s = .next ((s.portBump p k).updPort p fun e => { e with
      rx := some { RxFrame.start (decodeHeader raw) (decodeHeader raw) stamp (arrivalOf s.ringTime) with dropped := true } }) := by
  refine congrArg done ((if_neg (by simp [up])).trans ?_)
  dsimp only
  rw [State.abandonRx_none idle, fault]
  rfl

variable (sound : headerFault p (decodeHeader raw) = none)
include sound

theorem execRingFrameRx_hopMgmt (hop : (decodeHeader raw).typ.toNat = typHopMgmt) :
    execRingFrameRx p raw stamp s = .next ((s.countRx p (decodeHeader raw)).keepRx p
      { RxFrame.start (decodeHeader raw) (decodeHeader raw) stamp (arrivalOf s.ringTime) with fixed := true }) := by
  refine congrArg done ((if_neg (by simp [up])).trans ?_)
  dsimp only
  rw [State.abandonRx_none idle, sound]
  exact if_pos hop

variable {h : Header} {u : State} (notHop : (decodeHeader raw).typ.toNat ≠ typHopMgmt) (hopped : h = (decodeHeader raw).hopped)
  (counted : u = s.countRx p (decodeHeader raw)) (foreign : u.takesLocal h = false) (notOwn : u.isSource h = false)
  (goesOn : u.endsHere h = false)
include notHop hopped counted foreign notOwn goesOn

/-- A frame of the ring that this hub neither takes nor ends goes on by its output, while it has hops left. -/
theorem execRingFrameRx_transit : execRingFrameRx p raw stamp s = .next
    (if h.hops = 0 then (u.portBump p 9).keepRx p (RxFrame.start (decodeHeader raw) h stamp (arrivalOf s.ringTime))
      else u.passOn p (u.transitOut p h) (RxFrame.start (decodeHeader raw) h stamp (arrivalOf s.ringTime))) := by
  subst hopped counted
  refine congrArg done ((if_neg (by simp [up])).trans ?_)
  dsimp only
  rw [State.abandonRx_none idle, sound]
  refine (if_neg notHop).trans ?_
  simp only [foreign, notOwn, goesOn, Bool.or_self, Bool.and_false, Bool.false_and, Bool.not_false, Bool.true_or, Bool.not_true,
    Bool.false_eq_true, if_false]
  rfl

end Rx

/-! An output whose partition admits the frame takes it stored or in cut-through. -/

section PassOn

variable {o : Output} {r : RxFrame} {spill : Nat} {a : State × Option Nat} (line : s.lineUp o = true)
  (admitted : a = s.admitTransit o r.hdr.cls.toNat (cellsOf r.hdr.len.toNat)) (room : a.2 = some spill)
include line admitted room

theorem State.passOn_stored (stored : a.1.cutThrough (Output.ofPort p) o r.hdr = false) :
    s.passOn p o r = a.1.keepRx p { r with transit := [o], spill := spill } := by
  subst admitted
  refine (if_neg (by simp [line])).trans ?_
  dsimp only
  rw [room]
  exact if_neg (by simp [stored])

theorem State.passOn_cut (cut : a.1.cutThrough (Output.ofPort p) o r.hdr = true) :
    s.passOn p o r = ((a.1.updEgress o fun g => { g with busy := true }).bump 0x2120 1).keepRx p
      { r with cut := some (o, a.1.onward (some p) r.stamp r.hdr, s.uptime), spill := spill } := by
  subst admitted
  refine (if_neg (by simp [line])).trans ?_
  dsimp only
  rw [room]
  exact if_pos cut

end PassOn

end Header

/-! ### The end of a frame (R89, R90) -/

section End

variable {s : State} {p : RingPort} {payload : List Byte} {crc : BitVec 32} {r : RxFrame}

theorem State.endCut_none (s : State) {r : RxFrame} (stored : r.cut = none) (payload : List Byte) (c : Option Nat) (poison : Bool) :
    s.endCut r payload c poison = s := by
  unfold State.endCut
  rw [stored]

theorem State.takeLocal_none (s : State) (q : Option RingPort) {r : RxFrame} (passing : r.local_ = none) (payload : List Byte) :
    s.takeLocal q r payload = s := by
  unfold State.takeLocal
  rw [passing]

theorem State.shareSlots_hopMgmt (s : State) {f : QFrame} (hop : f.hdr.typ.toNat = typHopMgmt) : s.shareSlots f = s :=
  if_neg (by rw [hop]; simp [typHopMgmt, typSync, typCycleMark])

theorem State.takeFixed_known (s : State) {h : Header} (stamp : Nat) (known : knownFixed h payload = true) :
    s.takeFixed p h payload stamp = s.emit (.taken p ⟨h, payload, stamp⟩) :=
  if_pos known

theorem State.takeFixed_unknown (s : State) {h : Header} (stamp : Nat) (unknown : knownFixed h payload = false) :
    s.takeFixed p h payload stamp = s.portBump p 6 :=
  if_neg (by simp [unknown])

variable (rx : (s.port p).rx = some r) (kept : r.dropped = false) (stored : r.cut = none)
include rx kept stored

/-- A frame that is not accepted is counted, by the kind of its end, and its chains are freed. -/
theorem execEndOfFrame_bad {word : EndWord}
    (bad : ¬ (word = .good ∧ payload.length = r.hdr.len.toNat ∧ frameCrc r.raw payload = crc.toNat)) :
    execEndOfFrame p payload crc word s = .next
      ((if word = .poison || word = .poisonEarly then (s.updPort p fun e => { e with rx := none }).portBump p 0xB
        else (s.updPort p fun e => { e with rx := none }).crcError p).dropChains r) := by
  refine congrArg done ?_
  rw [rx]
  refine (if_neg (by simp [kept])).trans ?_
  refine (if_pos (by simpa [imp_iff_not_or, or_assoc] using bad)).trans ?_
  rw [State.endCut_none _ stored]

variable (passing : r.local_ = none) (whole : payload.length = r.hdr.len.toNat) (sound : frameCrc r.raw payload = crc.toNat)
include passing whole sound

/-- A HOP_MGMT frame ends at the fixed logic of its port (R90). -/
theorem execEndOfFrame_hopMgmt (fixed : r.fixed = true) (ends : r.transit = []) (hop : r.hdr.typ.toNat = typHopMgmt) :
    execEndOfFrame p payload crc .good s =
      .next ((s.updPort p fun e => { e with rx := none }).takeFixed p r.hdr payload r.stamp) := by
  refine congrArg done ?_
  rw [rx]
  refine (if_neg (by simp [kept])).trans ((if_neg (by simp [whole, sound])).trans ?_)
  simp only [fixed, ends, hop, List.foldl_nil, ite_self, if_true]
  rw [State.takeLocal_none _ _ passing, State.shareSlots_hopMgmt _ hop, State.endCut_none _ stored]

/-- A transit frame joins the queue that admitted it; one for a pair goes to the partner too (R164). -/
theorem execEndOfFrame_transit {o : Output} (plain : r.fixed = false) (transit : r.transit = [o]) (numbered : s.node ≠ 0)
    (notHop : r.hdr.typ.toNat ≠ typHopMgmt) {f : QFrame}
    (frame : f = { QFrame.received r.hdr payload r.arrival (some p) r.stamp with came := some (r.raw, crc.toNat) }) :
    execEndOfFrame p payload crc .good s =
      .next (((s.updPort p fun e => { e with rx := none }).storeAdmitted r.spill f o).sharePair f) := by
  subst frame
  have numbered' : (s.updPort p fun e => { e with rx := none }).node ≠ 0 := by rwa [State.node, State.val_updPort]
  refine congrArg done ?_
  rw [rx]
  refine (if_neg (by simp [kept])).trans ((if_neg (by simp [whole, sound])).trans ?_)
  simp only [plain, transit, notHop, beq_eq_false_iff_ne.2 numbered', Bool.false_and, Bool.false_eq_true, if_false, List.foldl_cons,
    List.foldl_nil]
  rw [State.takeLocal_none _ _ passing, State.endCut_none _ stored]

end End

/-! ### Board links (R16, R98, R159, R160) -/

section Link

variable {link : Fin 3} {raw : BitVec 256} {payload : List Byte} {good : Bool} {stamp : Nat} {s : State} {h : Header} {f : QFrame}
  (up : s.dx.links[link].up = true)
include up

theorem execBlFrameRx_pair (mode : s.dx.mode = 2) (header : h = decodeHeader raw)
    (frame : f = { QFrame.received h payload (arrivalOf s.ringTime) none stamp with came := some (h, frameCrc h payload) }) :
    execBlFrameRx link raw payload good stamp s = .next (s.pairFrame s.pairPort h f good) := by
  subst header frame
  exact congrArg done ((if_neg (by simpa using up)).trans (if_pos mode))

/-- No frame comes in from a partner on a ring of the same number, and no swarm from another ring. -/
theorem execBlFrameRx_dropped (mode : s.dx.mode = 3)
    (barred : s.dx.links[link].ring = s.ring ∨ (decodeHeader raw).typ.toNat = typSwarm) :
    execBlFrameRx link raw payload good stamp s = .next s := by
  refine congrArg done ((if_neg (by simpa using up)).trans ((if_neg (by simp [mode])).trans (ite_eq_left_iff.2 fun _ => ?_)))
  exact (if_neg (by simp [mode])).trans ((if_neg (by simp [mode])).trans (if_pos (by simpa [mode] using barred)))

variable (mode : s.dx.mode = 3) (header : h = decodeHeader raw) (sound : headerFault (if h.path = 0 then .west else .east) h = none)
  (otherRing : s.dx.links[link].ring ≠ s.ring) (noSwarm : h.typ.toNat ≠ typSwarm)
include mode header sound otherRing noSwarm

/-- A good frame from another ring is this hub's, or enters its ring, or goes further. -/
theorem execBlFrameRx_gateway
    (frame : f = { QFrame.received h payload (arrivalOf s.ringTime) none stamp with came := some (h, frameCrc h payload) }) :
    ∃ further, execBlFrameRx link raw payload true stamp s = .next
      (if s.isTarget h then s.takeFromLink none h payload stamp
        else if h.dRing.toNat = s.ring || s.dx.mode = 1 then s.enterRing link f true
        else further) := by
  subst header frame
  have noFault : ¬ (headerFault (if (decodeHeader raw).path = 0 then .west else .east) (decodeHeader raw)).isSome = true := by
    rw [sound]
    exact Bool.false_ne_true
  have passes : ¬ (s.dx.mode = 3 && (s.dx.links[link].ring = s.ring || (decodeHeader raw).typ.toNat = typSwarm)) = true := by
    simpa [noSwarm] using fun _ => otherRing
  exact ⟨_, congrArg done ((if_neg (by simpa using up)).trans ((if_neg (by simp [mode])).trans ((if_neg noFault).trans
    ((if_neg (by simp [mode])).trans ((if_neg (by simp [mode])).trans ((if_neg passes).trans rfl))))))⟩

theorem execBlFrameRx_target (mine : s.isTarget h = true) :
    execBlFrameRx link raw payload true stamp s = .next (s.takeFromLink none h payload stamp) := by
  obtain ⟨_, run⟩ := execBlFrameRx_gateway up mode header sound otherRing noSwarm rfl
  rw [run, if_pos mine]

theorem execBlFrameRx_enters (notMine : s.isTarget h = false) (here : h.dRing.toNat = s.ring)
    (frame : f = { QFrame.received h payload (arrivalOf s.ringTime) none stamp with came := some (h, frameCrc h payload) }) :
    execBlFrameRx link raw payload true stamp s = .next (s.enterRing link f true) := by
  obtain ⟨_, run⟩ := execBlFrameRx_gateway up mode header sound otherRing noSwarm frame
  rw [run, if_neg (by simp [notMine]), if_pos (by simp [here])]

end Link

/-- Settles O5 by the way of a frame: its header, what the hub keeps of it, and its end; then the frames of board links. -/
theorem framesReceived : Obligations.FramesReceived := by
  unfold Obligations.FramesReceived
  refine ⟨fun p raw stamp k s up idle => execRingFrameRx_fault up idle, fun p raw stamp s => execRingFrameRx_hopMgmt, ?stored, ?cut,
    ?expired, ?taken, ?unknown, ?queued, fun f o spill s line => if_pos line, fun f s => ?alone, ?bad, ?poison, ?idle, ?mine, ?enters,
    fun link raw payload good stamp s => execBlFrameRx_dropped,
    fun link raw payload good stamp s up mode => execBlFrameRx_pair up mode rfl rfl⟩
  case stored =>
    intro p raw stamp spill s up idle sound notHop h u a foreign notOwn goesOn hops line room stored
    refine (execRingFrameRx_transit up idle sound notHop rfl rfl foreign notOwn goesOn).trans ?_
    rw [if_neg hops]
    exact congrArg done (State.passOn_stored line rfl room stored)
  case cut =>
    intro p raw stamp spill s up idle sound notHop h u o a foreign notOwn goesOn hops line room cut
    refine (execRingFrameRx_transit up idle sound notHop rfl rfl foreign notOwn goesOn).trans ?_
    rw [if_neg hops]
    exact congrArg done (State.passOn_cut line rfl room cut)
  case expired =>
    intro p raw stamp s up idle sound notHop h u foreign notOwn goesOn hops
    refine (execRingFrameRx_transit up idle sound notHop rfl rfl foreign notOwn goesOn).trans ?_
    rw [if_pos hops]
  case taken =>
    intro p payload crc r s rx kept fixed stored ends passing hop whole sound known
    refine (execEndOfFrame_hopMgmt rx kept stored passing whole sound fixed ends hop).trans ?_
    rw [State.takeFixed_known _ _ known]
  case unknown =>
    intro p payload crc r s rx kept fixed stored ends passing hop whole sound unknown
    refine (execEndOfFrame_hopMgmt rx kept stored passing whole sound fixed ends hop).trans ?_
    rw [State.takeFixed_unknown _ _ unknown]
  case queued =>
    intro p payload crc o r s rx kept plain stored transit passing numbered notHop whole sound f
    exact execEndOfFrame_transit rx kept stored passing whole sound plain transit numbered notHop rfl
  case alone =>
    intro simplex
    exact if_neg (by simp [simplex])
  case bad =>
    intro p payload crc r s rx kept stored wrong
    refine (execEndOfFrame_bad rx kept stored (fun ⟨_, _, crcFits⟩ => wrong crcFits)).trans ?_
    rw [if_neg (by decide)]
  case poison =>
    intro p payload crc r s rx kept stored
    refine (execEndOfFrame_bad rx kept stored (fun ⟨isGood, _⟩ => EndWord.noConfusion isGood)).trans ?_
    rw [if_pos (by decide)]
  case idle =>
    intro p s
    refine ⟨_, congrArg done ?_, rfl⟩
    rw [State.port_setPort_self]
  case mine =>
    intro link raw payload stamp s up mode sound otherRing noSwarm mine
    exact execBlFrameRx_target up mode rfl sound otherRing noSwarm mine
  case enters =>
    intro link raw payload stamp s up mode sound otherRing noSwarm notMine here f
    exact execBlFrameRx_enters up mode rfl sound otherRing noSwarm notMine here rfl

end Sys2Proof.Machine
end

section
/-!
Resequencers (R125 to R129): what a state decides on a copy, by where its SEQ stands from NEXT, and what its record keeps.
-/

namespace Sys2Proof.Machine

section Decide

variable {r : Reseq} {seq i : Nat}

/-- A copy goes out only in order: its SEQ is NEXT. -/
theorem Reseq.decide_eq_release_iff (next : r.next < 65536) (number : seq < 65536) : r.decide seq = .release ↔ seq = r.next := by
  constructor
  · intro released
    have inOrder : (seq + 65536 - r.next) % 65536 = 0 := by
      by_contra apart
      unfold Reseq.decide at released
      dsimp only at released
      rw [if_neg apart] at released
      split_ifs at released
    omega
  · rintro rfl
    exact if_pos (by omega)

/-- `seq` is the number `i` below NEXT − 1, and the record marks it released. -/
def Reseq.Recorded (r : Reseq) (seq i : Nat) : Prop := r.next = (seq + i + 1) % 65536 ∧ r.record.testBit i = true

theorem Reseq.recorded_mark_next (r : Reseq) : (r.mark true).Recorded r.next 0 := by
  refine ⟨rfl, ?_⟩
  rw [Reseq.mark, Nat.testBit_mod_two_pow]
  simp [Nat.testBit_zero]

/-- A number that NEXT passes, released or skipped, moves the record on by one place. -/
theorem Reseq.Recorded.mark (recorded : r.Recorded seq i) (inRecord : i + 1 < 256) (released : Bool) :
    (r.mark released).Recorded seq (i + 1) := by
  obtain ⟨next, bit⟩ := recorded
  refine ⟨?_, ?_⟩
  · simp only [Reseq.mark, next]
    omega
  · have moved : (r.record * 2 + if released then 1 else 0) / 2 = r.record := by split <;> omega
    rw [Reseq.mark, Nat.testBit_mod_two_pow, Nat.testBit_succ, moved, bit, decide_eq_true inRecord, Bool.and_self]

theorem Reseq.Recorded.foldl_mark {marks : List Bool} (recorded : r.Recorded seq i) (inRecord : i + marks.length < 256) :
    (marks.foldl Reseq.mark r).Recorded seq (i + marks.length) := by
  induction marks generalizing r i with
  | nil => exact recorded
  | cons released marks ih =>
    rw [List.length_cons] at inRecord ⊢
    rw [List.foldl_cons, show i + (marks.length + 1) = i + 1 + marks.length by omega]
    exact ih (recorded.mark (by omega) released) (by omega)

/-- A copy whose SEQ the record marks as released is discarded (R126, Released). -/
theorem Reseq.Recorded.decide_eq_duplicate (recorded : r.Recorded seq i) (number : seq < 65536) (inRecord : i < 256) :
    r.decide seq = .duplicate := by
  obtain ⟨next, bit⟩ := recorded
  have distance : (seq + 65536 - r.next) % 65536 = 65535 - i := by omega
  have place : 65535 - (65535 - i) = i := by omega
  unfold Reseq.decide
  dsimp only
  rw [distance, if_neg (by omega), if_neg (by omega), if_neg (by omega), if_neg (by omega), place, if_pos bit]

/-- Once NEXT has gone out, it is a duplicate until 255 more numbers have been released or skipped. -/
theorem Reseq.decide_released_eq_duplicate (r : Reseq) (number : r.next < 65536) {marks : List Bool} (inRecord : marks.length < 256) :
    (marks.foldl Reseq.mark (r.mark true)).decide r.next = .duplicate :=
  (r.recorded_mark_next.foldl_mark (by omega)).decide_eq_duplicate number (by omega)

end Decide

/-- Settles O8: a release is in order, and the record keeps it while NEXT passes the numbers that follow. -/
theorem releasedOnce : Obligations.ReleasedOnce := by
  unfold Obligations.ReleasedOnce
  intro r k number inRecord
  refine ⟨(Reseq.decide_eq_release_iff number number).2 rfl, ?again, fun q other => (Reseq.decide_eq_release_iff number other).1⟩
  case again =>
    have marks : ((List.range k).map fun _ => true).length < 256 := by
      rw [List.length_map, List.length_range]
      omega
    have duplicate := r.decide_released_eq_duplicate number marks
    rwa [List.foldl_map] at duplicate

end Sys2Proof.Machine
end

section
/-!
Frames sent: origination (R105), egress and hand-over (R116, R186, R190), and the alarms of resequencers (R127, R129).
-/

namespace Sys2Proof.Machine

/-! ### Origination (R105) -/

section Originate

variable {s : State} {org : Originator} {typ : Fin 16} {payload : List Byte} {first last : Bool}

theorem State.originate_of_lookup_none {flow : Nat} (noEntry : s.lookup s.ring s.flowNode flow = none) :
    s.originate org typ flow payload first last = s.bump 0x2150 0x15 := by
  rw [State.originate, noEntry]

theorem State.originate_of_lookup_some {flow e : Nat} (entry : s.lookup s.ring s.flowNode flow = some e) :
    s.originate org typ flow payload first last =
      s.present { org := org, typ := typ, entry := e, payload := payload, first := first, last := last } := by
  rw [State.originate, entry]

variable {o : Offer}

/-- A frame that nothing of its originator waits before, and that is not kept waiting itself, leaves at once (R124). -/
theorem State.present_eq_of_tryOffer {t : State} (noneWaits : (s.sw.waiting.any fun w => w.org == o.org) = false)
    (tried : s.tryOffer o = (t, true)) : s.present o = t := by
  refine (if_neg (by simp [noneWaits])).trans ?_
  rw [tried]
  exact if_pos rfl

/-- A frame of a SEND entry that its entry lets go is launched (R111, R123, R197). -/
theorem State.tryOffer_launchSend (notCollector : o.org ≠ .collector) (core : s.coreIsolated = false) (comb : s.combOff = false)
    (valid : (s.lookedUp o).valid = true) (send : (s.lookedUp o).action = actSend) (go : s.gate o = .go) :
    s.tryOffer o = (s.launchSend o, true) := by
  refine (if_neg (by simp [core, comb])).trans ((if_neg (by simp [notCollector])).trans ((if_neg (by simp [valid])).trans ?_))
  rw [if_neg (by rw [send]; decide), if_neg (by rw [send]; decide), go]

end Originate

/-! ### Egress and hand-over (R116, R186) -/

section Egress

variable {s : State} {o : Output} {f : QFrame}

/-- A free line sends the frame that its output chooses: one in transit goes onward, one of this hub departs. -/
theorem execEgressSelect_chosen {c : Choice} {g : Egress} {u : State} {h : Header} {b : List Byte} (gated : s.gated o = true)
    (line : s.lineUp o = true) (idle : (s.egress o).busy = false) (free : (s.egress o).freeAt ≤ s.uptime)
    (chosen : (s.noteHeads o).choose o = some (c, f, g)) (charged : u = ((s.noteHeads o).setEgress o g).chargeQueue o c f)
    (header : h = if c.transit then u.onward f.inPort f.stamp f.hdr else u.departing f.hdr)
    (body : b = if c.transit then f.payload else u.departingPayload f.hdr f.payload) :
    execEgressSelect o s = .next ((u.putOnLine o h b (some (departingCrc f h b)) false 0).noteDrain o) := by
  subst charged header body
  refine congrArg done ((if_neg (by simp [gated, line, idle, free])).trans ?_)
  dsimp only
  rw [chosen]

/-- A local output other than the host's hands the chosen frame to its sink, and its cells are free. -/
theorem execLocalOutputDequeue_chosen {c : Choice} {g : Egress} (ungated : s.gated o = false) (notEast : o ≠ .east)
    (notWest : o ≠ .west) (notHost : o ≠ .bl2) (chosen : (s.noteHeads o).choose o = some (c, f, g)) (noEntry : f.entry = none) :
    execLocalOutputDequeue o s = .next ((((((s.noteHeads o).setEgress o g).chargeQueue o c f).emit
      (.handed o 0 f (frameTime (inNs s.ringTime) f.hdr))).freeCells f).noteDrain o) := by
  refine congrArg done ((if_neg (by simp [ungated, notEast, notWest])).trans ((if_neg notHost).trans ?_))
  dsimp only
  rw [chosen]
  dsimp only
  rw [noEntry]

/-- The head of a class that has stayed beyond MAX_RESIDENCE is discarded, counted and reported. -/
theorem execResidenceDiscard_old {c : Fin 4} {l : List QFrame} (ungated : s.gated o = false) (notEast : o ≠ .east)
    (notWest : o ≠ .west) (queued : (s.egress o).local_[c] = f :: l) (noEntry : f.entry = none)
    (old : s.val 0x2100 5 < 65536 * ((arrivalOf s.ringTime + 65536 - f.arrival) % 65536)) :
    execResidenceDiscard o c s = .next ((((((s.updEgress o fun g => g.take c false).bump 0x2150 9).raise 0x10 3 corrected
      (packArg [i16 0xFFFF])).freeCells f).noteDrain o)) := by
  refine congrArg done ((if_neg (by simp [ungated, notEast, notWest])).trans ?_)
  rw [queued]
  refine (if_pos old).trans ?_
  rw [noEntry]

end Egress

/-! ### The alarms of a resequencer (R127, R129) -/

section Alarms

variable {s : State} {r : ReseqId}

theorem State.reseq_dropReseq_self (s : State) (r : ReseqId) : (s.dropReseq r).reseq r = none := aget_adel_self _ _

theorem execHoldDeadline_due {x : Reseq} (due : s.due (.holdDeadline r) = true) (state : s.reseq r = some x) :
    execHoldDeadline r s = .next ((s.disarm (.holdDeadline r)).expireHold r x) := by
  have state' : (s.disarm (.holdDeadline r)).reseq r = some x := state
  refine congrArg done ((s.onDue_of_due _ _ due).trans ?_)
  rw [state']

/-- A state that holds no frame is cleared. -/
theorem execResyncIdle_due (due : s.due (.resyncIdle r) = true) (noHold : s.deadline (.holdDeadline r) = none) :
    execResyncIdle r s = .next ((s.disarm (.resyncIdle r)).dropReseq r) := by
  have noHold' : (s.disarm (.resyncIdle r)).deadline (.holdDeadline r) = none := by
    rw [State.deadline_disarm_of_ne s (by simp), noHold]
  refine congrArg done ((s.onDue_of_due _ _ due).trans ?_)
  rw [noHold']

end Alarms

/-- Settles O6 by the way of a frame: origination by its lookup, egress by the queue chosen, hand-over, and the alarms between. -/
theorem framesSent : Obligations.FramesSent := by
  unfold Obligations.FramesSent
  refine ⟨fun org typ flow payload first last s noEntry => congrArg done (State.originate_of_lookup_none noEntry), ?launched, ?local_,
    ?transit, fun o c f g s => execLocalOutputDequeue_chosen, fun r x s => execHoldDeadline_due, ?idle,
    fun o c f l s => execResidenceDiscard_old⟩
  case launched =>
    intro org typ flow payload first last e s entry noneWaits notCollector core comb valid send go
    have tried := State.tryOffer_launchSend (o := ⟨org, typ, e, none, payload, first, last⟩) notCollector core comb valid send go
    exact congrArg done ((State.originate_of_lookup_some entry).trans (State.present_eq_of_tryOffer noneWaits tried))
  case local_ =>
    intro o c f g s gated line idle free chosen u
    have run := execEgressSelect_chosen (u := u) gated line idle free chosen rfl rfl rfl
    rw [if_neg Bool.false_ne_true, if_neg Bool.false_ne_true] at run
    exact run
  case transit =>
    intro o c f g s gated line idle free chosen u
    have run := execEgressSelect_chosen (u := u) gated line idle free chosen rfl rfl rfl
    rw [if_pos rfl, if_pos rfl] at run
    exact run
  case idle =>
    intro r s due noHold
    exact ⟨_, execResyncIdle_due due noHold, State.reseq_dropReseq_self _ r, rfl⟩

end Sys2Proof.Machine
end

section
/-!
The flow table and its credits (R109, R112, R114, R121 to R124).
-/

namespace Sys2Proof.Machine

/-! ### Writes of a hardware window (R109, R505) -/

section Window

variable {s : State} {rq : Requester} {offset len : Nat} {bytes : List Byte} (k : State → State × Result)
  (mine : s.notMine rq = false) (length : bytes.length = len)
include mine length

/-- An access that passes its check is the window's own to answer. -/
theorem State.hwWrite_passed (passed : (s.checkAccess rq .write offset len).2 = .ok) :
    s.hwWrite rq offset bytes k = (k (s.checkAccess rq .write offset len).1).1.answerWindow rq offset
      (k (s.checkAccess rq .write offset len).1).2 bytes := by
  subst length
  refine (if_neg (by simp [mine])).trans ?_
  dsimp only
  rw [passed]

theorem State.hwWrite_denied (denied : (s.checkAccess rq .write offset len).2 = .accessDenied) :
    s.hwWrite rq offset bytes k = (s.checkAccess rq .write offset len).1.answer rq offset len .accessDenied [] := by
  subst length
  refine (if_neg (by simp [mine])).trans ?_
  dsimp only
  rw [denied]

end Window

/-! ### Entries (R112, R114) -/

section Entry

variable {s : State} {w0 w1 w2 w3 : Nat}

theorem State.flowCheck_retiring {e : Nat} (x : FlowEntry) (retiring : (s.flowEntry e).retiring = true) :
    s.flowCheck e x = .versionRetiring :=
  if_pos retiring

/-- A write that a check turns away changes the count of such writes alone. -/
theorem State.flowWrite_refused {e : Nat} {res : Result}
    (refused : s.flowCheck e { w0 := w0, w1 := w1, w2 := w2, w3 := w3 } = res) (bad : res ≠ .ok) :
    s.flowWrite e w0 w1 w2 w3 = (s.bump 0x2140 5, res) := by
  subst refused
  unfold State.flowWrite
  dsimp only
  split
  · exact absurd ‹_› bad
  · rfl

theorem State.flowWrite_accepted {e : Nat} (accepted : s.flowCheck e { w0 := w0, w1 := w1, w2 := w2, w3 := w3 } = .ok) :
    s.flowWrite e w0 w1 w2 w3 = (s.flowApply e { w0 := w0, w1 := w1, w2 := w2, w3 := w3 }, .ok) := by
  unfold State.flowWrite
  dsimp only
  rw [accepted]

theorem execRetirementEnd_empty {e : Fin 16384} (retiring : (s.flowEntry e.val).retiring = true) (gone : s.oldFrames e.val = 0) :
    execRetirementEnd e s = .next (s.updFlow e.val fun x => { x with retiring := false }) :=
  congrArg done (if_pos (by simp [retiring, gone]))

end Entry

/-! ### Credits (R121 to R124) -/

section Credits

variable {s : State}

/-- A CREDIT frame with one grant gives it to its entry, and what waited for it may go. -/
theorem execCredit_one {p : RingPort} {f : TakenFrame} (hears : s.hears p = true) (credit : f.hdr.typ.toNat = typCredit)
    (one : beAt f.payload 0 2 = 1) (whole : f.payload.length = 20) : execCredit p f s =
      .next ((s.applyGrant f.hdr.sRing.toNat f.hdr.sNode.toNat ((f.payload.drop 4).take 16)).pump) := by
  refine congrArg done ((if_neg (by simp [hears, credit])).trans ?_)
  dsimp only
  rw [one, whole]
  rfl

theorem State.applyGrant_of_lookup_none (ring node : Nat) {g : List Byte}
    (noEntry : s.lookup s.ring s.flowNode (beAt g 0 2) = none) : s.applyGrant ring node g = s.bump 0x2150 0x12 := by
  unfold State.applyGrant
  dsimp only
  rw [noEntry]

/-- A lossless flow that still waits is counted and raised, and its stall time starts again. -/
theorem execCreditStall_waiting {e : Fin 16384} (due : s.due (.creditStall e.val) = true)
    (waits : (s.sw.waiting.any fun o => o.entry == e.val) = true) (lossless : (s.flowEntry e.val).lossless = true) :
    execCreditStall e s = .next (((((s.disarm (.creditStall e.val)).bump 0x2150 0x11).raise 0x10 4 contained
      (packArg [i16 e.val, i16 (bitField (s.flowEntry e.val).w2 27 15)])).arm (.creditStall e.val) (nsec (s.val 0x2100 7)))) := by
  have lossless' : ((s.disarm (.creditStall e.val)).flowEntry e.val).lossless = true := lossless
  exact congrArg done ((s.onDue_of_due _ _ due).trans (if_pos (by rw [State.disarm_sw, waits, lossless']; rfl)))

end Credits

/-- Settles O7: a write by its access check and then its entry's, an entry by its old frames, and credits by their frames and alarms. -/
theorem flowTableAndCredit : Obligations.FlowTableAndCredit := by
  unfold Obligations.FlowTableAndCredit
  refine ⟨fun rq e w0 w1 w2 w3 s mine passed => congrArg done (State.hwWrite_passed _ mine (by simp) passed),
    fun rq e w0 w1 w2 w3 s mine denied => congrArg done (State.hwWrite_denied _ mine (by simp) denied),
    fun e w0 w1 w2 w3 s retiring => ?retiring, fun e w0 w1 w2 w3 s => State.flowWrite_accepted,
    fun e s => execRetirementEnd_empty, fun p f s => execCredit_one, fun ring node g s => State.applyGrant_of_lookup_none ring node,
    fun e s due => congrArg done (if_pos due), fun e s due => congrArg done (if_pos due), fun e s => execCreditStall_waiting⟩
  case retiring => exact State.flowWrite_refused (State.flowCheck_retiring _ retiring) (by decide)

end Sys2Proof.Machine
end

section
/-!
Elections and the keeper (R143, R146 to R153): ranks and the choice among bids, then the ring management messages and timers that
an election and the keeper role run on.
-/

namespace Sys2Proof.Machine

/-! ### Ranks (R147, R148) -/

theorem outranks_iff {pa sa pb sb : Nat} : outranks pa sa pb sb = true ↔ pb < pa ∨ pa = pb ∧ sb < sa := by
  simp [outranks]

theorem not_outranks_iff {pa sa pb sb : Nat} : outranks pa sa pb sb = false ↔ pa < pb ∨ pa = pb ∧ sa ≤ sb := by
  rw [← Bool.not_eq_true, outranks_iff]
  omega

theorem outranks_trans {pa sa pb sb pc sc : Nat} (ab : outranks pa sa pb sb = true) (bc : outranks pb sb pc sc = true) :
    outranks pa sa pc sc = true := by
  rw [outranks_iff] at ab bc ⊢
  omega

theorem not_outranks_trans {pa sa pb sb pc sc : Nat} (ab : outranks pa sa pb sb = false) (bc : outranks pb sb pc sc = false) :
    outranks pa sa pc sc = false := by
  rw [not_outranks_iff] at ab bc ⊢
  omega

theorem outranks_asymm {pa sa pb sb : Nat} (ab : outranks pa sa pb sb = true) : outranks pb sb pa sa = false := by
  rw [outranks_iff] at ab
  rw [not_outranks_iff]
  omega

/-- No bid of the list ranks above `b`. -/
def Bid.Heads (b : Bid) (l : List Bid) : Prop := ∀ c ∈ l, outranks c.prio c.serial b.prio b.serial = false

theorem Bid.Heads.cons {b c : Bid} {l : List Bid} (heads : b.Heads l) (below : outranks c.prio c.serial b.prio b.serial = false) :
    b.Heads (c :: l) :=
  List.forall_mem_cons.2 ⟨below, heads⟩

theorem Bid.Heads.of_not_outranks {b c : Bid} {l : List Bid} (heads : c.Heads l)
    (below : outranks c.prio c.serial b.prio b.serial = false) : b.Heads l :=
  fun x mem => not_outranks_trans (heads x mem) below

theorem not_outranks_self (p n : Nat) : outranks p n p n = false := not_outranks_iff.2 (.inr ⟨rfl, le_rfl⟩)

theorem bestBid_eq_none {l : List Bid} (noBid : bestBid l = none) : l = [] := by
  cases l with
  | nil => rfl
  | cons b l =>
    rw [bestBid] at noBid
    split at noBid
    · split at noBid <;> cases noBid
    · cases noBid

/-- By recursion on the list: its first bid wins where it outranks the best of the rest. -/
theorem bestBid_mem_and_heads {l : List Bid} {b : Bid} (best : bestBid l = some b) : b ∈ l ∧ b.Heads l := by
  induction l generalizing b with
  | nil => cases best
  | cons a l ih =>
    rw [bestBid] at best
    split at best
    case h_1 c rest =>
      obtain ⟨mem, heads⟩ := ih rest
      split at best
      case isTrue above =>
        cases best
        exact ⟨List.mem_cons_self, (heads.of_not_outranks (outranks_asymm above)).cons (not_outranks_self ..)⟩
      case isFalse notAbove =>
        cases best
        exact ⟨List.mem_cons_of_mem _ mem, heads.cons (Bool.eq_false_iff.2 notAbove)⟩
    case h_2 rest =>
      cases best
      cases bestBid_eq_none rest
      exact ⟨List.mem_cons_self, Bid.Heads.cons (fun _ mem => nomatch mem) (not_outranks_self ..)⟩

/-- Settles O10: ranks are ordered as pairs of priority and serial, and the choice is made by recursion on the bids. -/
theorem bestRankWins : Obligations.BestRankWins := by
  unfold Obligations.BestRankWins
  refine ⟨?total, fun _ _ _ _ _ _ => outranks_trans, fun l b => bestBid_mem_and_heads, fun l => bestBid_eq_none⟩
  case total =>
    intro pa sa pb sb others
    rw [outranks_iff, not_outranks_iff]
    omega

/-! ### Ring management messages (R146) -/

section Message

variable {s : State} {p : RingPort} {f : TakenFrame} {msg len : Nat} (hears : s.hears p = true) (message : isMsg f msg len = true)
include hears message

/-- A message of its LEN is taken with its sender and its bytes. -/
theorem State.takeMsg_taken (k : Nat → List Byte → State) : s.takeMsg p f msg len k = k (senderOf f) f.payload := by
  obtain ⟨⟨flow, number⟩, whole⟩ : (f.hdr.flow.toNat = 0xFFF4 ∧ beAt f.payload 0 1 = msg) ∧ f.payload.length = len := by
    simpa [isMsg] using message
  exact (if_neg (by simp [hears, flow, number])).trans (if_neg (by simp [whole]))

/-- A message of another hub is no copy of this one's own. -/
theorem State.takeMsg_foreign (own : State) (k : Nat → List Byte → State) (foreign : senderOf f ≠ s.ident.serial) :
    s.takeMsg p f msg len (fun serial b => if serial = s.ident.serial then own else k serial b) = k (senderOf f) f.payload :=
  (State.takeMsg_taken hears message _).trans (if_neg foreign)

end Message

/-! ### Elections (R148, R149) -/

section Elect

variable {s : State} {p : RingPort} {f : TakenFrame} (hears : s.hears p = true) (message : isMsg f 1 16 = true)
  (foreign : senderOf f ≠ s.ident.serial)
include hears message foreign

/-- A keeper gives its role up to a hub that outranks it. -/
theorem execElect_outranked {u : State} (learned : u = s.learnRank (senderOf f) (beAt f.payload 10 1)) (keeper : s.isKeeper = true)
    (above : outranks (beAt f.payload 10 1) (senderOf f) u.keptPriority s.ident.serial = true) :
    execElect p f s = .next u.yieldKeeper := by
  subst learned
  exact congrArg done ((State.takeMsg_foreign hears message _ _ foreign).trans ((if_pos keeper).trans (if_pos above)))

/-- In an election that runs, a hub that has a number and is within reach replaces its bid. -/
theorem execElect_bid {u : State} {l : List Bid} (learned : u = s.learnRank (senderOf f) (beAt f.payload 10 1))
    (noKeeper : s.isKeeper = false) (runs : s.rs.election = some l) (numbered : beAt f.payload 11 1 = 1)
    (reached : u.reachesHub (beAt f.payload 12 2) (senderOf f) = true) :
    execElect p f s = .next { u with rs := { u.rs with
      election := some (⟨beAt f.payload 10 1, senderOf f, beAt f.payload 12 2⟩ :: l.filter fun x => x.serial != senderOf f) } } := by
  subst learned
  have node : (if (beAt f.payload 11 1).testBit 0 then beAt f.payload 12 2 else 0) = beAt f.payload 12 2 := by
    rw [numbered]; rfl
  have noKeeper' : (s.learnRank (senderOf f) (beAt f.payload 10 1)).isKeeper = false := noKeeper
  have runs' : (s.learnRank (senderOf f) (beAt f.payload 10 1)).rs.election = some l := runs
  refine congrArg done ((State.takeMsg_foreign hears message _ _ foreign).trans ?_)
  simp only [noKeeper', runs', node, reached, Option.isNone_some, Bool.false_and, Bool.false_eq_true, if_false, if_true]

end Elect

/-- The bids that a decision chooses among: this hub's own and those of hubs within reach. -/
def State.bidsWithinReach (s : State) (l : List Bid) : List Bid :=
  l.filter fun b => b.serial = s.ident.serial || s.reachesHub b.node b.serial

/-- The end of an election with these bids: nobody can be keeper, this hub is, or the winner will announce itself. -/
def State.concludeElection (s : State) (bids : List Bid) : State :=
  match bestBid bids with
  | none => s.noteNoKeeper
  | some b => if b.serial = s.ident.serial then s.winElection (bids.filter fun x => x.serial != b.serial) else s

section Decision

variable {s : State} {l : List Bid}

/-- The decision counts only hubs within reach. -/
theorem execElectionDecision_due (due : s.due .electDecision = true) (runs : s.rs.election = some l) :
    execElectionDecision s = .next ((s.disarm .electDecision).concludeElection (s.bidsWithinReach l)) := by
  have runs' : (s.disarm .electDecision).rs.election = some l := runs
  refine congrArg done ((s.onDue_of_due _ _ due).trans ?_)
  rw [runs']
  rfl

theorem State.concludeElection_noBid (noBid : bestBid l = none) : s.concludeElection l = s.noteNoKeeper := by
  rw [State.concludeElection, noBid]

variable {b : Bid} (best : bestBid l = some b)
include best

theorem State.concludeElection_won (own : b.serial = s.ident.serial) :
    s.concludeElection l = s.winElection (l.filter fun x => x.serial != b.serial) := by
  rw [State.concludeElection, best]
  exact if_pos own

theorem State.concludeElection_lost (foreign : b.serial ≠ s.ident.serial) : s.concludeElection l = s := by
  rw [State.concludeElection, best]
  exact if_neg foreign

end Decision

/-! ### The keeper role (R146, R148, R150 to R153) -/

section Announce

variable {s : State} {p : RingPort} {f : TakenFrame} (hears : s.hears p = true) (message : isMsg f 2 32 = true)
include hears message

/-- The keeper's own copy, come round, counts the ring's positions (R451). -/
theorem execKeeperAnnounce_own (own : senderOf f = s.ident.serial) (keeper : s.isKeeper = true) :
    execKeeperAnnounce p f s = .next { s with rs := { s.rs with counted := s.hops - f.hdr.hops.toNat } } :=
  congrArg done ((State.takeMsg_taken hears message _).trans ((if_pos own).trans (if_pos keeper)))

variable (foreign : senderOf f ≠ s.ident.serial)
include foreign

/-- A hub that knows no keeper adopts the first that announces itself. -/
theorem execKeeperAnnounce_first (noKeeper : s.isKeeper = false) (unknown : s.rs.keeperSerial = 0) :
    execKeeperAnnounce p f s = .next ((s.learnRank (senderOf f) (beAt f.payload 23 1)).adoptKeeper (senderOf f) f.payload) := by
  have noKeeper' : (s.learnRank (senderOf f) (beAt f.payload 23 1)).isKeeper = false := noKeeper
  have hasNone : (s.learnRank (senderOf f) (beAt f.payload 23 1)).hasKeeper = false := by
    have unknown' : (s.learnRank (senderOf f) (beAt f.payload 23 1)).rs.keeperSerial = 0 := unknown
    simp [State.hasKeeper, unknown']
  refine congrArg done ((State.takeMsg_foreign hears message _ _ foreign).trans ((if_neg (by simp [noKeeper'])).trans ?_))
  exact if_neg (by simp [hasNone])

/-- A keeper gives way to one of a higher TERM. -/
theorem execKeeperAnnounce_higherTerm (keeper : s.isKeeper = true) (higher : s.term < beAt f.payload 24 4) :
    execKeeperAnnounce p f s =
      .next ((s.learnRank (senderOf f) (beAt f.payload 23 1)).yieldKeeper.adoptKeeper (senderOf f) f.payload) := by
  have higher' : (s.learnRank (senderOf f) (beAt f.payload 23 1)).term < beAt f.payload 24 4 := higher
  refine congrArg done ((State.takeMsg_foreign hears message _ _ foreign).trans ((if_pos keeper).trans ?_))
  exact if_pos (by simp [higher'])

end Announce

/-- Only a keeper that gives its role up, or takes that back, announces it (R150). -/
theorem keeperPriorityFx_of_not_keeper {s : State} (v : Nat) (noKeeper : s.isKeeper = false) :
    keeperPriorityFx v s = s.setVal 0x1001 5 v := by
  have noKeeper' : (s.setVal 0x1001 5 v).isKeeper = false := by
    rw [State.isKeeper, State.val_setVal_of_ne _ _ (by decide)]
    exact noKeeper
  exact if_neg (by simp [noKeeper'])

/-- Settles O9 by the way of an election: the hop reports that show the ring, ELECT and its decision, and then the announcements, the
loss and the copies of the keeper. -/
theorem hopsAndElections : Obligations.HopsAndElections := by
  unfold Obligations.HopsAndElections
  refine ⟨?repeats, fun p f s hears message foreign => congrArg done (State.takeMsg_foreign hears message _ _ foreign),
    fun s expired => congrArg done (if_pos expired), ?bid, ?outranked, ?round2, ?noBid, ?wins, ?loses, ?restart, ?timer,
    fun p f s => execKeeperAnnounce_own, fun p f s => execKeeperAnnounce_first, fun p f s => execKeeperAnnounce_higherTerm, ?guard,
    ?copies, ?priority, fun v s => keeperPriorityFx_of_not_keeper v⟩
  case repeats =>
    intro p s due enabled down
    refine congrArg done ((s.onDue_of_due _ _ due).trans (if_pos ?_))
    have enabled' : (s.disarm (.hopReport p)).portVal p 1 = 1 := enabled
    have down' : (s.disarm (.hopReport p)).isUp p = false := down
    simp [enabled', down']
  case bid =>
    intro p f l s hears message foreign noKeeper runs numbered u reached
    exact execElect_bid hears message foreign rfl noKeeper runs numbered reached
  case outranked =>
    intro p f s hears message foreign keeper u above
    exact execElect_outranked hears message foreign rfl keeper above
  case round2 =>
    intro s due eligible runs
    exact congrArg done ((s.onDue_of_due _ _ due).trans (if_pos (Bool.and_eq_true_iff.2 ⟨eligible, runs⟩)))
  case noBid =>
    intro l s due runs noBid
    exact (execElectionDecision_due due runs).trans (congrArg done (State.concludeElection_noBid noBid))
  case wins =>
    intro l b s due runs best own
    exact (execElectionDecision_due due runs).trans (congrArg done (State.concludeElection_won best own))
  case loses =>
    intro l b s due runs best foreign
    exact (execElectionDecision_due due runs).trans (congrArg done (State.concludeElection_lost best foreign))
  case restart =>
    intro s due noKeeper noneKnown
    exact congrArg done ((s.onDue_of_due _ _ due).trans
      (if_neg (ne_true_of_eq_false (Bool.or_eq_false_iff.2 ⟨noKeeper, noneKnown⟩))))
  case timer =>
    intro s due keeper
    exact congrArg done ((s.onDue_of_due _ _ due).trans (if_pos keeper))
  case guard =>
    intro s due mayKeep awaited
    exact congrArg done ((s.onDue_of_due _ _ due).trans (if_pos (Bool.and_eq_true_iff.2 ⟨mayKeep, awaited⟩)))
  case copies =>
    intro map copies length pct s backup mirrors
    exact congrArg done (if_neg (by simp [backup, mirrors]))
  case priority =>
    intro rq value s ok running
    exact congrArg done (s.objectWrite_accepted rq _ value _ ok running (.inl rfl))

end Sys2Proof.Machine
end

section
/-!
Accesses of the hardware windows (R164, R297, R505): what the checker and the lock of a bus let pass, and what becomes of a request.
-/

namespace Sys2Proof.Machine

/-! ### The check of an access (R297, R505) -/

section Check

variable {s : State} {rq : Requester} {right : Right} {offset len : Nat}

theorem State.checkAccess_noTarget (right : Right) (len : Nat) (hole : targetOf offset = none) :
    s.checkAccess rq right offset len = (s, .noTarget) := by
  rw [State.checkAccess, hole]

variable {t : Nat} (target : targetOf offset = some t)
include target

theorem State.checkAccess_refused (refused : s.permits rq t right offset (offset + len - 1) = false) :
    s.checkAccess rq right offset len = (s.refuse rq t offset, .accessDenied) := by
  rw [State.checkAccess, target]
  exact if_neg (by simp [refused])

/-- Behind the access checker stands the lock of the target's bus. -/
theorem State.checkAccess_permitted (permitted : s.permits rq t right offset (offset + len - 1) = true) :
    s.checkAccess rq right offset len = s.checkLock rq t := by
  rw [State.checkAccess, target]
  exact if_pos permitted

end Check

section Lock

variable {s : State} {rq : Requester} {t : Nat} {b : Fin 16} {h : Ticket} {lease : Nat} (bus : busOf t = some b)
  (held : s.bridge.buses[b].holder = some (h, lease))
include bus held

theorem State.checkLock_foreign (foreign : h.master ≠ rq.master) :
    s.checkLock rq t = (s, if rq.locked then .lockExpired else .lockConflict) := by
  simp only [State.checkLock, bus, held]
  exact if_neg foreign

/-- A request of the holder passes, and restarts the lease where it is locked. -/
theorem State.checkLock_own (own : h.master = rq.master) :
    s.checkLock rq t = (if rq.locked then s.arm (.lease b.val) (usec lease) else s, .ok) := by
  simp only [State.checkLock, bus, held]
  exact if_pos own

end Lock

/-! ### Requests (R164, R505) -/

section Request

variable {s : State} {rq : Requester} {offset : Nat}

/-- A standby leaves a shared target to its primary: only the recorder is its own. -/
theorem State.hwWrite_ignored (bytes : List Byte) (k : State → State × Result) (shared : s.notMine rq = true)
    (notRecorder : offset / 0x10000000 ≠ 3) : s.hwWrite rq offset bytes k = s :=
  if_pos (by simp [shared, notRecorder])

variable (mine : s.notMine rq = false)
include mine

/-- A request that its check turns away is answered with what the check found. -/
theorem State.hwWrite_refused {bytes : List Byte} {e : Result} (k : State → State × Result)
    (refused : (s.checkAccess rq .write offset bytes.length).2 = e) (bad : e ≠ .ok) :
    s.hwWrite rq offset bytes k = (s.checkAccess rq .write offset bytes.length).1.answer rq offset bytes.length e [] := by
  refine (if_neg (by simp [mine])).trans ?_
  dsimp only
  split
  · exact absurd (refused.symm.trans ‹_›) bad
  · rw [refused]

/-- What a hub without a standby reads is the window's own answer. -/
theorem State.hwRead_passed {len : Nat} (k : State → State × Result × List Byte) (alone : s.mirroring = false)
    (passed : (s.checkAccess rq .read offset len).2 = .ok) :
    s.hwRead rq offset len k = State.answer (k (s.checkAccess rq .read offset len).1).1 rq offset len
      (k (s.checkAccess rq .read offset len).1).2.1 (k (s.checkAccess rq .read offset len).1).2.2 := by
  refine (if_neg (by simp [mine])).trans ?_
  dsimp only
  rw [passed]
  exact if_neg (by simp [alone])

end Request

/-- Settles O25: a request by whether it is this hub's and what its check says, and the check by the target, its rights and the lock of
its bus. -/
theorem windowAccess : Obligations.WindowAccess := by
  unfold Obligations.WindowAccess
  refine ⟨fun rq offset bytes k s mine => State.hwWrite_passed k mine rfl, fun rq offset bytes k e s mine => State.hwWrite_refused mine k,
    fun rq offset bytes k s => State.hwWrite_ignored bytes k, fun rq offset len k s mine => State.hwRead_passed mine k,
    fun rq right offset len t s => State.checkAccess_refused, ?foreign, ?own,
    fun rq right offset len s => State.checkAccess_noTarget right len⟩
  case foreign =>
    intro rq right offset len t b h lease s target permitted bus held foreign plain
    rw [State.checkAccess_permitted target permitted, State.checkLock_foreign bus held foreign, plain]
    rfl
  case own =>
    intro rq right offset len t b h lease s target permitted bus held own locked
    rw [State.checkAccess_permitted target permitted, State.checkLock_own bus held own, locked]
    rfl

end Sys2Proof.Machine
end

section
/-!
The duplex pair (R158, R162, R168 to R170, R172, R173): how a board link comes up, the messages of a pair, and what a member does when
its partner falls silent.
-/

namespace Sys2Proof.Machine

/-! ### Training of a board link (R158, R162) -/

section Training

variable {k : Fin 3} {peer : BoardLink} {s : State}

/-- The link is one that the hub's mode uses, and nothing holds it back. -/
def State.linkTrains (s : State) (k : Fin 3) : Prop :=
  s.dx.mode ≠ 0 ∧ (s.dx.mode = 2 → k = 0) ∧ (k = 2 → s.pcieMode = false) ∧ s.isolated (2 + k.val) = false ∧ s.combOff = false

theorem State.linkTrains.not_barred (trains : s.linkTrains k) : ¬ (s.dx.mode = 0 || (s.dx.mode == 2 && k.val != 0) ||
    (k.val == 2 && s.pcieMode) || s.isolated (2 + k.val) || s.combOff) = true := by
  obtain ⟨mode, pairLink, hostLink, joined, powered⟩ := trains
  have hostLink' : k.val = 2 → s.pcieMode = false := fun isTwo => hostLink (Fin.ext isTwo)
  simpa [mode, joined, powered] using ⟨pairLink, hostLink'⟩

variable (trains : s.linkTrains k)
include trains

theorem execBlLinkTraining_wrongSlot (wrong : peer.slot ≠ (s.ident.clusterId ^^^ (k.val + 1))) :
    execBlLinkTraining k peer s = .next (s.refuseTraining k 1 peer) :=
  congrArg done ((if_neg trains.not_barred).trans (if_pos wrong))

/-- The members of a pair that fit join. -/
theorem execBlLinkTraining_pair (slot : peer.slot = (s.ident.clusterId ^^^ (k.val + 1))) (mode : s.dx.mode = 2) (peerMode : peer.mode = 2)
    (member : s.ident.clusterId < 2) (variant : peer.variant = s.ident.variant)
    (version : peer.mirrorVersion = s.ident.mirrorVersion) :
    execBlLinkTraining k peer s = .next ((State.refreshCluster { s.setVal 0x8100 5 0 with
      dx := { s.dx with links := s.dx.links.set k { peer with up := true } } }).formPair peer) := by
  refine congrArg done ((if_neg trains.not_barred).trans ((if_neg (by simp [slot])).trans ((if_neg (by simp [mode, peerMode])).trans ?_)))
  refine (if_neg (by simp [mode])).trans ((if_neg (by simp [mode])).trans ((if_neg (by simp [mode])).trans ?_))
  exact (if_neg (by omega)).trans ((if_neg (by simp [variant])).trans (if_neg (by simp [version])))

end Training

theorem State.refuseTraining_gateway {s : State} (k : Fin 3) (reason : Nat) (peer : BoardLink) (mode : s.dx.mode = 3) :
    s.refuseTraining k reason peer = s.refuseLink reason peer.serial :=
  if_neg (by simp [mode])

theorem State.refuseTraining_pair {s : State} (reason : Nat) (peer : BoardLink) (mode : s.dx.mode = 2) :
    s.refuseTraining 0 reason peer = (s.refuseLink reason peer.serial).refusePair reason peer.serial :=
  if_pos (by simp [mode])

/-! ### The role of a member (R184) -/

theorem State.standby_iff {s : State} : s.standby = true ↔ s.val 0x8110 1 = 2 := beq_iff_eq

/-- A standby belongs to a pair that has formed. -/
theorem State.joined_of_standby {s : State} (standby : s.standby = true) : s.val 0x8110 1 ≠ 3 := by
  rw [State.standby_iff.1 standby]
  decide

theorem State.paired_of_standby {s : State} (standby : s.standby = true) : s.paired = true := by
  rw [State.paired, State.standby_iff.1 standby]
  rfl

theorem State.paired_of_primary {s : State} (primary : s.val 0x8110 1 = 1) : s.paired = true := by
  rw [State.paired, primary]
  rfl

theorem State.standby_of_primary {s : State} (primary : s.val 0x8110 1 = 1) : s.standby = false := by
  rw [State.standby, primary]
  rfl

/-! ### Messages of a pair (R90, R168) -/

section Message

variable {s : State} {payload : List Byte} {sub least most : Nat} (up : s.dx.links[0].up = true) (mode : s.dx.mode = 2)
  (subtype : beAt payload 0 1 = sub) (k : List Byte → State)
include up mode subtype

/-- A message of its LEN is taken, unless the pair was refused. -/
theorem State.takePair_taken (joined : s.val 0x8110 1 ≠ 3) (long : least ≤ payload.length) (short : payload.length ≤ most) :
    s.takePair payload sub least most k = k payload :=
  (if_neg (by simp [up, mode, subtype])).trans (if_neg (by simp [joined, long, short]))

theorem State.takePair_fixed {len : Nat} (joined : s.val 0x8110 1 ≠ 3) (whole : payload.length = len) :
    s.takePair payload sub len len k = k payload :=
  State.takePair_taken up mode subtype k joined whole.ge whole.le

/-- One of a wrong LEN is counted as a bad header of the port that BL0 stands for. -/
theorem State.takePair_wrongLength {len : Nat} (wrong : payload.length ≠ len) :
    s.takePair payload sub len len k = s.portBump s.pairPort 6 :=
  (if_neg (by simp [up, mode, subtype])).trans (if_pos (by
    rcases Nat.lt_or_gt_of_ne wrong with short | long <;> simp [*]))

end Message

/-! ### Takeover (R167, R169, R173) -/

theorem State.mayTakeOver_of_protected {s : State} (standby : s.standby = true) (protected_ : s.pairState = 1) (synced : s.dx.resync = false) :
    s.mayTakeOver = true := by
  simp [State.mayTakeOver, standby, protected_, synced]

theorem State.mayTakeOver_of_not_standby {s : State} (notStandby : s.standby = false) : s.mayTakeOver = false := by
  simp [State.mayTakeOver, notStandby]

/-- Slot 1 of a pair that never formed runs alone when its wait for the partner ends. -/
theorem execPartnerAbsentTimeout_alone {s : State} (due : s.due .partnerAbsent = true) (down : s.dx.links[0].up = false)
    (single : s.paired = false) : execPartnerAbsentTimeout s = .next (
      let t := State.setVal { s.disarm .partnerAbsent with dx := { s.dx with alone := true } } 0x8110 0xB 6
      ((t.bump 0x8110 0xA).setRole 3).raise 0x20 6 contained (withSerial 6 s.partnerSerial)) := by
  have single' : (s.disarm .partnerAbsent).paired = false := single
  exact congrArg done ((s.onDue_of_due _ _ due).trans (if_neg (by simp [down, single'])))

/-- The count of missed heartbeats says nothing about a takeover. -/
theorem State.mayTakeOver_bump_missed (s : State) : (s.bump 0x8110 0xE).mayTakeOver = s.mayTakeOver := by
  have others {j : Nat} (other : objKey 0x8110 j ≠ objKey 0x8110 0xE) : (s.bump 0x8110 0xE).val 0x8110 j = s.val 0x8110 j :=
    s.val_setVal_of_ne _ other
  rw [State.mayTakeOver, State.standby, State.pairState, others (by decide), others (by decide)]
  rfl

/-- The fourth heartbeat missed in a row: the standby takes over. -/
theorem execHeartbeatMiss_fourth {s : State} (due : s.due .heartbeatMiss = true) (up : s.dx.links[0].up = true) (standby : s.standby = true)
    (protected_ : s.pairState = 1) (synced : s.dx.resync = false) (missed : s.dx.missRun = 3) : execHeartbeatMiss s = .next (
      let t := s.disarm .heartbeatMiss
      let u := (State.bump { t with dx := { t.dx with missRun := 4 } } 0x8110 0xE).arm .heartbeatMiss (nsec 1100)
      (State.noteTest { u with dx := { u.dx with lastMiss := some s.uptime } } 7 false).takeOver 1) := by
  have standby' : (s.disarm .heartbeatMiss).standby = true := standby
  have missed' : (s.disarm .heartbeatMiss).dx.missRun = 3 := missed
  refine congrArg done ((s.onDue_of_due _ _ due).trans ((if_neg (by simp [up, State.paired_of_standby standby'])).trans ?_))
  dsimp only
  rw [if_pos standby', missed']
  refine if_pos (Bool.and_eq_true_iff.2 ⟨rfl, ?_⟩)
  exact (State.mayTakeOver_bump_missed { s.disarm .heartbeatMiss with dx := { s.dx with missRun := 4 } }).trans
    (State.mayTakeOver_of_protected standby protected_ synced)

/-- Settles O13: a link by what its partner reports, then the messages of a pair by their kind, and the alarms by what the member is. -/
theorem pairFormsAndFails : Obligations.PairFormsAndFails := by
  unfold Obligations.PairFormsAndFails
  refine ⟨?refused, ?refusedPair, ?forms, fun k s => rfl, fun k s down => if_pos (by simp [down]), fun s => execPartnerAbsentTimeout_alone,
    fun s due => congrArg done (s.onDue_of_due _ _ due), fun b s up => if_pos up, fun b s down => if_neg (by simp [down]), ?heartbeat,
    fun s => execHeartbeatMiss_fourth, ?takes, ?noted, ?probe, ?answer, ?timeout,
    fun payload s up mode joined subtype whole => congrArg done (State.takePair_fixed up mode subtype _ joined whole),
    fun payload s up mode subtype wrong => congrArg done (State.takePair_wrongLength up mode subtype _ wrong)⟩
  case refused =>
    intro k peer s mode wrong hostLink joined powered
    have trains : s.linkTrains k := ⟨by simp [mode], by simp [mode], hostLink, joined, powered⟩
    rw [← State.refuseTraining_gateway k 1 peer mode]
    exact execBlLinkTraining_wrongSlot trains wrong
  case refusedPair =>
    intro peer s mode wrong joined powered
    have trains : s.linkTrains 0 := ⟨by simp [mode], fun _ => rfl, by simp, joined, powered⟩
    rw [← State.refuseTraining_pair 1 peer mode]
    exact execBlLinkTraining_wrongSlot trains wrong
  case forms =>
    intro peer s mode slot peerMode joined powered member variant version
    have trains : s.linkTrains 0 := ⟨by simp [mode], fun _ => rfl, by simp, joined, powered⟩
    exact execBlLinkTraining_pair trains slot mode peerMode member variant version
  case heartbeat =>
    intro payload s up mode joined subtype whole
    exact congrArg done (State.takePair_fixed up mode subtype _ joined whole)
  case takes =>
    intro payload s up mode subtype whole standby protected_ synced
    have may : ({ s with dx := { s.dx with failSeen := true } } : State).mayTakeOver = true :=
      State.mayTakeOver_of_protected standby protected_ synced
    exact congrArg done ((State.takePair_fixed up mode subtype _ (State.joined_of_standby standby) whole).trans (if_pos may))
  case noted =>
    intro payload s up mode joined subtype whole notStandby
    have mayNot : ({ s with dx := { s.dx with failSeen := true } } : State).mayTakeOver = false :=
      State.mayTakeOver_of_not_standby notStandby
    exact congrArg done ((State.takePair_fixed up mode subtype _ joined whole).trans (if_neg (by simp [mayNot])))
  case probe =>
    intro p f s hears message mine
    exact congrArg done ((State.takeMsg_taken hears message _).trans (if_neg (by simp [mine])))
  case answer =>
    intro p f s hears message mine asked
    exact congrArg done ((State.takeMsg_taken hears message _).trans (if_neg (by simp [mine, asked])))
  case timeout =>
    intro s due asked may
    exact congrArg done ((s.onDue_of_due _ _ due).trans (if_pos (Bool.and_eq_true_iff.2 ⟨asked, may⟩)))

end Sys2Proof.Machine
end

section
/-!
The work of a pair that has formed (R167, R174 to R178, R241): mirrored changes, the comparison of digests, resyncs, planned swaps and
the tests of the standby.
-/

namespace Sys2Proof.Machine

/-! ### Mirroring (R167) -/

section Mirror

variable {s : State} {payload : List Byte}

/-- The standby applies a change of a known kind, and acknowledges it with its result. -/
theorem execMirror_applied {c : MirrorChange} (up : s.dx.links[0].up = true) (mode : s.dx.mode = 2) (subtype : beAt payload 0 1 = 0x12)
    (long : 8 ≤ payload.length) (short : payload.length ≤ 2048) (standby : s.standby = true) (known : mirrorOf payload = some c) :
    execMirror payload s = .next (((s.applyMirror c).1.noteTest 6 true).sendPair (beBytes 1 0x13 ++ beBytes 1 0 ++
      beBytes 2 (beAt payload 2 2) ++ beBytes 1 (s.applyMirror c).2.code ++ beBytes 3 0)) := by
  refine congrArg done ((State.takePair_taken up mode subtype _ (State.joined_of_standby standby) long short).trans ?_)
  refine (if_neg (by simp [standby])).trans ?_
  dsimp only
  rw [known]

theorem execMirrorAck_waited {w : MirrorWait} (up : s.dx.links[0].up = true) (mode : s.dx.mode = 2) (joined : s.val 0x8110 1 ≠ 3)
    (subtype : beAt payload 0 1 = 0x13) (whole : payload.length = 8) (waits : s.mirrorOut (beAt payload 2 2) = some w) :
    execMirrorAck payload s = .next (s.mirrorEnded w) := by
  refine congrArg done ((State.takePair_fixed up mode subtype _ joined whole).trans ?_)
  rw [waits]

/-- A window access is answered as soon as its own wait ends; dictionary requests keep their turn. -/
theorem State.mirrorEnded_window {w : MirrorWait} (window : 0x10000000 ≤ w.offset) :
    s.mirrorEnded w = (let t := s.disarm (.mirrorAck w.number)
      State.answerMirrored { t with dx := { t.dx with mirrorWait := t.dx.mirrorWait.filter fun x => x.number != w.number } } w) :=
  if_neg (Nat.not_lt.2 window)

theorem execMirrorTimeout_due {n : Fin 65536} {w : MirrorWait} (due : s.due (.mirrorAck n.val) = true)
    (waits : (s.disarm (.mirrorAck n.val)).mirrorOut n.val = some w) : execMirrorTimeout n s =
      .next (((((s.disarm (.mirrorAck n.val)).mirrorEnded w).setPairState 2).raise 0x20 7 contained
        (packArg [i32 n.val])).startResync) := by
  refine congrArg done ((s.onDue_of_due _ _ due).trans ?_)
  rw [waits]

end Mirror

/-! ### Digests (R175, R176) -/

/-- The results of a comparison that finds every shared channel well shared: outputs alike or not, and shares where there are any. -/
def State.noteComparison (s : State) (payload : List Byte) (same : Bool) : State :=
  if (s.sharedChannels s.dx.digest.2.2 (digestCurrents payload)).isEmpty then s.noteTest 0 same
  else (s.noteTest 0 same).noteTest 1 true

/-- The standby compares the digest of the same cycle; a difference counts as a divergence. -/
theorem execDigest_compared {s : State} {payload : List Byte} (up : s.dx.links[0].up = true) (mode : s.dx.mode = 2)
    (subtype : beAt payload 0 1 = 0x14) (whole : payload.length = 80) (standby : s.standby = true)
    (cycle : s.dx.digest.1 = beAt payload 2 4) (synced : s.dx.resync = false) (attached : s.pairState ≠ 4)
    (shares : s.badShares s.dx.digest.2.2 (digestCurrents payload) = []) :
    execDigest payload s = .next (if s.dx.digest.2.1 = beAt payload 6 4 then s.noteComparison payload true
      else (s.noteComparison payload false).diverge (beAt payload 2 4)) := by
  refine congrArg done ((State.takePair_fixed up mode subtype _ (State.joined_of_standby standby) whole).trans ?_)
  refine (if_neg (by simp [standby, cycle, synced, attached])).trans ?_
  simp only [shares, List.foldl_nil, List.isEmpty_nil]
  by_cases same : s.dx.digest.2.1 = beAt payload 6 4
  · rw [beq_iff_eq.2 same, if_pos rfl, if_pos same]
    rfl
  · rw [beq_eq_false_iff_ne.2 same, if_neg Bool.false_ne_true, if_neg same]
    rfl

/-! ### Resync (R167) -/

section Resync

variable {s : State}

theorem execResyncDone_running (running : s.dx.resync = true) (paired : s.paired = true) (attached : s.pairState ≠ 4)
    (up : s.dx.links[0].up = true) : execResyncDone s =
      .next (if s.standby then { s with dx := { s.dx with blocksDue := true } } else s.resyncEnd) :=
  congrArg done (if_neg (by simp [running, paired, attached, up]))

/-- At the boundary the blocks replace the shared state, and the resync has ended. -/
theorem State.resyncBoundary_due (blocksDue : s.dx.blocksDue = true) (running : s.dx.resync = true) (standby : s.standby = true)
    (nonempty : s.dx.blocks ≠ []) : s.resyncBoundary = (s.dx.blocks.foldl State.applyBlock (s.clearShared s.dx.blocks)).resyncEnd := by
  refine (if_pos (by simp [blocksDue, running, standby])).trans ?_
  rw [if_neg (by simp [nonempty])]

end Resync

/-! ### Planned swaps (R178) -/

section Swap

variable {s : State} {payload : List Byte}

section Message

variable (up : s.dx.links[0].up = true) (mode : s.dx.mode = 2) (subtype : beAt payload 0 1 = 0x15) (whole : payload.length = 16)
  {t : Nat} (time : t = s.nearTime (beAt payload 8 4) (beAt payload 12 4))
include up mode subtype whole time

/-- A standby that protects its primary accepts the swap it is asked for. -/
theorem execSwapMessage_request (kind : beAt payload 2 1 = 0) (standby : s.standby = true) (protected_ : s.pairState = 1)
    (synced : s.dx.resync = false) : execSwapMessage payload s =
      .next ((State.armRing { s with dx := { s.dx with swapAt := some t, swapAccepted := true } } .swapTime t).sendSwap 1 t) := by
  subst time
  refine congrArg done ((State.takePair_fixed up mode subtype _ (State.joined_of_standby standby) whole).trans ?_)
  dsimp only
  rw [kind]
  exact if_pos (by simp [State.mayTakeOver_of_protected standby protected_ synced, protected_])

/-- The primary waits for the time that its partner has accepted. -/
theorem execSwapMessage_accept (kind : beAt payload 2 1 = 1) (primary : s.val 0x8110 1 = 1) (asked : s.dx.swapAt = some t) :
    execSwapMessage payload s = .next (State.armRing { s with dx := { s.dx with swapAccepted := true } } .swapTime t) := by
  subst time
  refine congrArg done ((State.takePair_fixed up mode subtype _ (by simp [primary]) whole).trans ?_)
  dsimp only
  rw [kind]
  exact if_pos (by simp [primary, asked])

end Message

theorem execSwapTime_unaccepted (due : s.due .swapTime = true) (unaccepted : s.dx.swapAccepted = false) :
    execSwapTime s = .next (s.disarm .swapTime).cancelSwap :=
  congrArg done ((s.onDue_of_due _ _ due).trans (if_pos (by simp [unaccepted])))

/-- The primary that hands over becomes standby and checks its paths. -/
theorem execSwapTime_primary (due : s.due .swapTime = true) (accepted : s.dx.swapAccepted = true) (paired : s.paired = true)
    (notStandby : s.standby = false) : execSwapTime s = .next (
      let t := (s.disarm .swapTime).cancelSwap
      let u := State.arm { t with dx := { t.dx with verifying := true, txOpen := 0 } } .swapVerify (nsec (s.val 0x8110 6))
      (u.setRole 2).armTestOff) := by
  have paired' : (s.disarm .swapTime).paired = true := paired
  have notStandby' : (s.disarm .swapTime).standby = false := notStandby
  refine congrArg done ((s.onDue_of_due _ _ due).trans ((if_neg (by simp [accepted, paired'])).trans ?_))
  exact if_neg (by simp [notStandby'])

variable (verifying : s.dx.verifying = true)
include verifying

/-- The verification ends with no path failed: the paths that carried nothing stay open for their first transmission. -/
theorem execSwapVerifyEnd_passed (due : s.due .swapVerify = true) (carried : BitVec 24) {t : State}
    (noted : t = { s.disarm .swapVerify with dx := { s.dx with
      verifying := false, txOpen := 2 ^ 24 - 1 - carried.toNat, txSince := s.uptime } }) :
    execSwapVerifyEnd none carried s =
      .next (if s.standby then (t.raise 0x20 4 corrected (packArg [i64 s.partnerSerial])).pairSwapped else t.passPaths carried.toNat) := by
  subst noted
  exact congrArg done ((if_pos verifying).trans (s.onDue_of_due _ _ due))

theorem execSwapVerifyEnd_failed (p : Fin 24) (carried : BitVec 24) (standby : s.standby = true) :
    execSwapVerifyEnd (some p) carried s = .next (s.failPath p) :=
  congrArg done (if_pos (by simp [verifying, standby]))

end Swap

/-! ### Tests of the standby and stuck channels (R174, R176) -/

/-! What the field pads are driven to is no object. -/

@[simp] theorem State.objs_drive (s : State) (e : Emission) : (s.drive e).objs = s.objs := by
  unfold State.drive
  split <;> rfl

@[simp] theorem State.objs_syncDio (s : State) : s.syncDio.objs = s.objs := by
  unfold State.syncDio
  exact List.foldlRecOn (motive := fun t : State => t.objs = s.objs) _ _ rfl fun t same i _ => (State.objs_drive t _).trans same

section Test

variable {s : State}

theorem execTestOff_due {n : Nat} (due : s.due .testOff = true) (standby : s.standby = true) (next : s.nextOn 0 = some n) :
    execTestOff s = .next (State.openChannel { s.disarm .testOff with dx := { s.dx with testGuard := !s.dx.testGuard } } n) := by
  have standby' : (s.disarm .testOff).standby = true := standby
  have next' : (s.disarm .testOff).nextOn 0 = some n := next
  refine congrArg done ((s.onDue_of_due _ _ due).trans ((if_neg (by simp [standby'])).trans ?_))
  rw [next']
  rfl

/-- A hub that is no standby any more ends the test of its channel, and opens no further one. -/
theorem execTestOffEnd_notStandby (due : s.due .testOffEnd = true) (notStandby : s.standby = false) : execTestOffEnd true s =
    .next ((State.syncDio { s.disarm .testOffEnd with dx := { s.dx with testing := 0 } }).noteChannel
      (Fin.ofNat 32 (Nat.log2 s.dx.testing)) true) := by
  have notStandby' : ((State.syncDio { s.disarm .testOffEnd with dx := { s.dx with testing := 0 } }).noteChannel
      (Fin.ofNat 32 (Nat.log2 s.dx.testing)) true).standby = false :=
    (congrArg (· == 2) (State.val_congr (State.objs_syncDio _) 0x8110 1)).trans notStandby
  refine congrArg done ((s.onDue_of_due _ _ due).trans ?_)
  dsimp only
  split <;> exact if_neg (by simpa using notStandby')

theorem execStuckChannelCut_cut {n : Fin 32} (mode : s.dx.mode = 2) (off : (s.dio.latch &&& s.dioOutputs).testBit n.val = false)
    (closed : s.dx.guardOpen.testBit n.val = false) : execStuckChannelCut n s =
      .next (((State.syncDio { s with dx := { s.dx with
        guardOpen := putBit s.dx.guardOpen n.val true } }).markChannel n.val).raise 0x20 10 contained (packArg [i16 n.val, i16 0])) :=
  congrArg done (if_neg (by simp [mode, off, closed]))

end Test

/-- Settles O14 by what the members exchange: changes and their acknowledgement, digests, the blocks of a resync, the messages and times
of a swap; then the tests of the output channels. -/
theorem pairMirrorsAndSwaps : Obligations.PairMirrorsAndSwaps := by
  unfold Obligations.PairMirrorsAndSwaps
  refine ⟨fun payload c s => execMirror_applied, fun payload w s => execMirrorAck_waited, fun w s => State.mirrorEnded_window,
    fun n w s => execMirrorTimeout_due, fun s => rfl, ?alike, ?differs, ?resynced, ?blocksHere, ?boundary, ?rejoin,
    fun s attached => if_pos attached, ?swap, fun s due => congrArg done (s.onDue_of_due _ _ due), ?asked, ?accepted,
    fun s => execSwapTime_unaccepted, fun s => execSwapTime_primary, ?newPrimary, ?newStandby,
    fun p carried s verifying => execSwapVerifyEnd_failed verifying p carried, fun n s => execTestOff_due,
    fun s => execTestOffEnd_notStandby, fun n s => execStuckChannelCut_cut⟩
  case alike =>
    intro payload s up mode subtype whole standby cycle same synced attached shares
    exact (execDigest_compared up mode subtype whole standby cycle synced attached shares).trans (congrArg done (if_pos same))
  case differs =>
    intro payload s up mode subtype whole standby cycle differs synced attached shares
    exact (execDigest_compared up mode subtype whole standby cycle synced attached shares).trans (congrArg done (if_neg differs))
  case resynced =>
    intro s running primary attached up
    exact (execResyncDone_running running (State.paired_of_primary primary) attached up).trans
      (congrArg done (if_neg (by simp [State.standby_of_primary primary])))
  case blocksHere =>
    intro s running role attached up
    have standby : s.standby = true := State.standby_iff.2 role
    exact (execResyncDone_running running (State.paired_of_standby standby) attached up).trans (congrArg done (if_pos standby))
  case boundary =>
    intro s blocksDue running standby nonempty
    exact State.resyncBoundary_due blocksDue running standby nonempty
  case rejoin =>
    intro rq value s ok running
    exact congrArg done (s.objectWrite_accepted rq _ value _ ok running (.inl rfl))
  case swap =>
    intro rq value s ok running
    exact congrArg done (s.objectWrite_accepted rq _ value _ ok running (.inl rfl))
  case asked =>
    intro payload s up mode subtype whole kind standby protected_ synced t
    exact execSwapMessage_request up mode subtype whole rfl kind standby protected_ synced
  case accepted =>
    intro payload s up mode subtype whole kind primary t asked
    exact execSwapMessage_accept up mode subtype whole rfl kind primary asked
  case newPrimary =>
    intro carried s verifying due notStandby
    exact (execSwapVerifyEnd_passed verifying due carried rfl).trans (congrArg done (if_neg (by simp [notStandby])))
  case newStandby =>
    intro carried s verifying due standby
    exact (execSwapVerifyEnd_passed verifying due carried rfl).trans (congrArg done (if_pos standby))

end Sys2Proof.Machine
end

section
/-!
What an output may choose (R186, R187, R194): the head of a class that may start, no lower class before a higher one.
-/

namespace Sys2Proof.Machine

/-- Deficit round robin chooses C2 or C3, and only where that class may send (R188). -/
theorem drr_chooses {bytes : Nat → Option Nat} {ok : Nat → Bool} {k : Nat} {w : Nat × Nat} {turn d2 d3 c t e2 e3 : Nat}
    (chosen : drr k w turn bytes ok d2 d3 = some (c, t, e2, e3)) : (c = 2 ∨ c = 3) ∧ ok c = true := by
  induction k generalizing turn d2 d3 with
  | zero => cases chosen
  | succ k ih =>
    unfold drr at chosen
    extract_lets cls d at chosen
    split at chosen
    · cases chosen
    split at chosen
    case h_1 =>
      split at chosen
      case isTrue sends =>
        obtain rfl : cls = c := congrArg (·.1) (Option.some.inj chosen)
        exact ⟨by have : cls = 2 + turn % 2 := rfl; omega, (Bool.and_eq_true_iff.1 sends).1⟩
      case isFalse => split at chosen <;> exact ih chosen
    case h_2 => split at chosen <;> exact ih chosen

section Choose

variable {s : State} {o : Output}

/-- The head of a class, where it may start now. -/
def State.starter (s : State) (o : Output) (c : Fin 4) : Option (Bool × QFrame) :=
  ((s.egress o).headOf c).filter (s.mayStart o c)

theorem State.starter_eq_some_iff {c : Fin 4} {h : Bool × QFrame} :
    s.starter o c = some h ↔ (s.egress o).headOf c = some h ∧ s.mayStart o c h = true :=
  Option.filter_eq_some_iff

/-- What `choose` asks of C0 and of C1: the head that may start, and the output without it. -/
def State.attempt (s : State) (o : Output) (c : Fin 4) : Option (Choice × QFrame × Egress) :=
  match (s.egress o).headOf c with
  | some h => if s.mayStart o c h then some (⟨c, h.1⟩, h.2, (s.egress o).take c h.1) else none
  | none => none

theorem State.attempt_eq_map_starter (s : State) (o : Output) (c : Fin 4) :
    s.attempt o c = (s.starter o c).map fun h => (⟨c, h.1⟩, h.2, (s.egress o).take c h.1) := by
  unfold State.attempt State.starter
  cases (s.egress o).headOf c with
  | none => rfl
  | some h => by_cases may : s.mayStart o c h = true <;> simp [Option.filter, may]

theorem State.starter_of_attempt {cls : Fin 4} {c : Choice} {f : QFrame} {g : Egress}
    (chosen : s.attempt o cls = some (c, f, g)) : c.cls = cls ∧ s.starter o cls = some (c.transit, f) := by
  rw [State.attempt_eq_map_starter, Option.map_eq_some_iff] at chosen
  obtain ⟨h, start, same⟩ := chosen
  cases same
  exact ⟨rfl, start⟩

theorem State.starter_of_attempt_none {cls : Fin 4} (none_ : s.attempt o cls = none) : s.starter o cls = none := by
  rwa [State.attempt_eq_map_starter, Option.map_eq_none_iff] at none_

/-- What an output chooses may start, and where it is not of C0, or of C0 or C1, no head of these may. -/
theorem State.choose_cases {c : Choice} {f : QFrame} {g : Egress} (chosen : s.choose o = some (c, f, g)) :
    s.starter o c.cls = some (c.transit, f) ∧
      (c.cls = 0 ∨ s.starter o 0 = none ∧ (c.cls = 1 ∨ s.starter o 1 = none)) := by
  unfold State.choose at chosen
  dsimp only at chosen
  split at chosen
  case h_1 attempted =>
    cases chosen
    obtain ⟨cls, start⟩ := State.starter_of_attempt attempted
    exact ⟨cls ▸ start, .inl cls⟩
  case h_2 none0 attempted =>
    cases chosen
    obtain ⟨cls, start⟩ := State.starter_of_attempt attempted
    exact ⟨cls ▸ start, .inr ⟨State.starter_of_attempt_none none0, .inl cls⟩⟩
  case h_3 none0 none1 =>
    refine ⟨?_, .inr ⟨State.starter_of_attempt_none none0, .inr (State.starter_of_attempt_none none1)⟩⟩
    split at chosen
    case h_2 => cases chosen
    case h_1 turns =>
      obtain ⟨-, may⟩ := drr_chooses turns
      split at chosen
      case h_2 => cases chosen
      case h_1 head =>
        cases chosen
        rw [head] at may
        exact State.starter_eq_some_iff.2 ⟨head, may⟩

/-- Neither shaper nor fit test holds back C0 (R194, R197). -/
theorem State.mayStart_c0 (h : Bool × QFrame) : s.mayStart o 0 h = true := by
  simp [State.mayStart, State.fits]

/-- The fit test (R194) for C2 and C3: the window is open, and the frame and 64 bytes more end before the next boundary. -/
theorem State.fits_scheduled_iff {cls len : Nat} (scheduled : 2 ≤ cls) : s.fits o cls len = true ↔
    s.openStart ≤ s.ringTime ∧ s.ringTime + s.lineTime o (lineBytes len) + s.lineTime o 64 ≤ s.nextBoundary := by
  simp [State.fits, Nat.not_lt.2 scheduled]

theorem State.fits_of_mayStart {c : Fin 4} {transit : Bool} {f : QFrame} (may : s.mayStart o c (transit, f) = true)
    (gated : s.gated o = true) : s.fits o c.val f.payload.length = true := by
  have test := (Bool.and_eq_true_iff.1 may).2
  simpa [gated] using test

end Choose

/-- Settles O15 by what `choose` can answer: a head that may start, where no head of C0, then of C1, may. -/
theorem egressOrder : Obligations.EgressOrder := by
  unfold Obligations.EgressOrder
  intro o c f g s chosen
  obtain ⟨start, order⟩ := State.choose_cases chosen
  obtain ⟨head, may⟩ := State.starter_eq_some_iff.1 start
  refine ⟨head, may, ?first, ?second, ?window⟩
  case first =>
    intro waits
    obtain ⟨h, head0⟩ := Option.ne_none_iff_exists'.1 waits
    have start0 : s.starter o 0 = some h := State.starter_eq_some_iff.2 ⟨head0, State.mayStart_c0 h⟩
    simpa [start0] using order
  case second =>
    intro h head1 may1
    have start1 : s.starter o 1 = some h := State.starter_eq_some_iff.2 ⟨head1, may1⟩
    obtain c0 | ⟨-, c1 | none1⟩ := order
    · simp [c0]
    · simp [c1]
    · simp [start1] at none1
  case window =>
    intro gated scheduled
    exact (State.fits_scheduled_iff scheduled).1 (State.fits_of_mayStart may gated)

end Sys2Proof.Machine
end

section
/-!
The cycle, its marks, the age of queue heads, the wheel and the plan (R189 to R191, R196, R198, R202, R203).
-/

namespace Sys2Proof.Machine

variable {s : State}

/-! ### The cycle (R189, R191) -/

theorem State.realignNow_eq_none (none_ : s.cyc.realign = none) : s.realignNow = none := by
  rw [State.realignNow, none_, Option.filter_none]

/-- With neither a realigned mark nor a pending change, the next cycle follows by its number and its boundary. -/
theorem State.nextCycle_plain (noMark : s.cyc.realign = none) (noChange : s.cyc.change = none) : s.nextCycle =
    State.setVal { s with cyc := { s.cyc with current := s.nextBoundary } } 0x2200 4 ((s.cycleNumber + 1) % 2 ^ 32) := by
  unfold State.nextCycle
  rw [State.realignNow_eq_none noMark]
  dsimp only [State.setVal_cyc]
  rw [noChange]

/-! ### Marks (R190, R191) -/

section Mark

variable {p : RingPort} {f : TakenFrame} (hears : s.hears p = true) (typ : f.hdr.typ.toNat = typCycleMark)
  (whole : f.payload.length = 32)
include hears typ whole

theorem execCycleMark_taken (notKeeper : s.isKeeper = false) (notSource : s.isSource f.hdr = false)
    (unseen : s.cyc.lastMark ≠ some (beAt f.payload 0 4)) (noChange : (beAt f.payload 17 1).testBit 0 = false) {t : State}
    (noted : t = State.disarm { s with
      cyc := { s.cyc with lastMark := some (beAt f.payload 0 4) }, rs := { s.rs with markAwaited := false } } .lossGuard) :
    execCycleMark p f s = .next (State.atShedLevel (State.setVal
      (t.takeMark (beAt f.payload 0 4) (nsec (1000000000 * beAt f.payload 4 6 + beAt f.payload 10 4))
        (10000 * beAt f.payload 14 2) (beAt f.payload 16 1) none) 0x2200 7 (beAt f.payload 18 2)) (beAt f.payload 20 1)) := by
  subst noted
  refine congrArg done ((if_neg (by simp [hears, typ])).trans ((if_neg (by simp [whole])).trans ?_))
  refine (if_neg (by simp [notKeeper, notSource, unseen])).trans ?_
  dsimp only
  rw [if_neg (by simp [noChange])]

theorem execCycleMark_again (seen : s.cyc.lastMark = some (beAt f.payload 0 4)) : execCycleMark p f s = .next s :=
  congrArg done ((if_neg (by simp [hears, typ])).trans ((if_neg (by simp [whole])).trans (if_pos (by simp [seen]))))

end Mark

/-! ### Ageing (R196) -/

section Ageing

variable {o : Output} {f : QFrame} {l : List QFrame}

theorem execPromotion_transit (head : (s.egress o).transit[3] = f :: l) : execPromotion o true s = .next (
    if nsec (s.val 0x2210 3) ≤ s.uptime - f.since then
      (s.setEgress o { s.egress o with
        transit := ((s.egress o).transit.set 3 l).set 2 ((s.egress o).transit[2] ++ [f]) }).countPromotion o true
    else s) := by
  refine congrArg done ((if_pos rfl).trans ?_)
  rw [head]

theorem execPromotion_local (head : (s.egress o).local_[3] = f :: l)
    (aged : nsec (s.val 0x2210 3) + s.heldByShaper o 3 f.since ≤ s.uptime - f.since) : execPromotion o false s =
    .next ((s.setEgress o { s.egress o with
      local_ := ((s.egress o).local_.set 3 l).set 2 ((s.egress o).local_[2] ++ [f]) }).countPromotion o false) := by
  refine congrArg done ((if_neg Bool.false_ne_true).trans ?_)
  rw [head]
  exact if_pos aged

end Ageing

/-! ### The wheel (R198) -/

/-- The shaper that leaves the wheel is of no queue, so no head waits for it to be noted. -/
theorem execWheelSlot_notQueue {i : Fin 256} (due : s.due (.wheel i.val) = true) {t u : State}
    (credited : t = (s.disarm (.wheel i.val)).creditAge i.val)
    (gone : u = State.pump { t with sw := { t.sw with onWheel := t.sw.onWheel.filter fun k => k != i.val } })
    (notQueue : u.val (0x2300 + i.val) 1 ≠ 2) : execWheelSlot i s = .next u := by
  subst credited gone
  refine congrArg done ((s.onDue_of_due _ _ due).trans ?_)
  dsimp only
  split
  case h_1 => exact if_neg notQueue
  case h_2 => rfl

/-! ### The plan (R202, R203) -/

theorem execPlanDecision_notKeeper (loads : List HopLoad) (notKeeper : s.isKeeper = false) : execPlanDecision loads s = .next s :=
  congrArg done (if_pos (by simp [notKeeper]))

theorem execPlanDecision_restarting (loads : List HopLoad) (restarting : s.mgmt.restarting = true) :
    execPlanDecision loads s = .next s :=
  congrArg done (if_pos (by simp [restarting]))

/-- With no load of a slow hop to judge and nothing shed, the plan shows its figures and the level stays. -/
theorem execPlanDecision_noLoads (keeper : s.isKeeper = true) (planning : s.cyc.planning = true)
    (running : s.mgmt.restarting = false) (unshed : s.val 0x2200 8 = 0) : execPlanDecision [] s =
      .next (State.replanOn (State.showPlan { s with cyc := { s.cyc with planning := false, loads := [] } } [])) := by
  refine congrArg done ((if_neg (by simp [keeper, planning, running])).trans (congrArg State.replanOn ?_))
  exact if_pos unshed

theorem execReplanTimer_due (due : s.due .replan = true) (keeper : s.isKeeper = true) (running : s.mgmt.restarting = false) :
    execReplanTimer s = .next (State.replanOn { s.disarm .replan with cyc := { s.cyc with planning := true, planAt := s.uptime } }) := by
  have keeper' : (s.disarm .replan).isKeeper = true := keeper
  exact congrArg done ((if_neg (by simp [running])).trans ((s.onDue_of_due _ _ due).trans (if_pos keeper')))

/-- Settles O16 command by command: the boundary and the cycle that it opens, marks by what the hub has seen, heads by their queue and
age, the wheel, and the plan by who works it out. -/
theorem cycleAndPlan : Obligations.CycleAndPlan := by
  unfold Obligations.CycleAndPlan
  refine ⟨fun s due => congrArg done (s.onDue_of_due _ _ due), fun s => State.nextCycle_plain,
    fun s due => congrArg done (s.onDue_of_due _ _ due), fun s notDue => congrArg done (s.onDue_of_not_due _ _ notDue),
    ?taken, fun p f s => execCycleMark_again, ?aged, fun o f l s => execPromotion_local, ?young, ?wheel,
    fun loads s => execPlanDecision_notKeeper loads, fun s => execPlanDecision_noLoads,
    fun loads s => execPlanDecision_restarting loads, fun s => execReplanTimer_due⟩
  case taken =>
    intro p f s hears typ whole notKeeper notSource unseen noChange
    exact execCycleMark_taken hears typ whole notKeeper notSource unseen noChange rfl
  case aged =>
    intro o f l s head aged
    exact (execPromotion_transit head).trans (congrArg done (if_pos aged))
  case young =>
    intro o f l s head young
    exact (execPromotion_transit head).trans (congrArg done (if_neg (Nat.not_le.2 young)))
  case wheel =>
    intro i s due t u notQueue
    exact execWheelSlot_notQueue due rfl rfl notQueue

end Sys2Proof.Machine
end

section
/-!
The step and the time that passes (R212, R219, log entry 1): a command that waits runs and completes, and an empty queue lets core
ticks pass.
-/

namespace Sys2Proof.Machine

variable {s : State}

/-! ### The step -/

theorem step_of_cons {c : Instr} {rest : List Instr} (waits : s.pending = c :: rest) :
    step s = exec c { s with pending := rest } := by
  rw [step, waits]

theorem step_of_nil (empty : s.pending = []) : step s = .next s.coreTick := by
  rw [step, empty]

/-- No meaning of a command answers a fault or a refusal. -/
theorem exec_next (c : Instr) (s : State) : ∃ t, exec c s = .next t := by
  cases c <;> exact ⟨_, rfl⟩

theorem State.coreTick_of_noneDue (noneDue : (s.timeTick.wag.applies.any fun a => a.time ≤ s.timeTick.nowNs) = false) :
    s.coreTick = s.timeTick :=
  if_neg (by simp [noneDue])

/-- Settles O53: the two cases of a step, and one of `done` for each command. -/
theorem stepRunsTheFrontCommand : Obligations.StepRunsTheFrontCommand :=
  ⟨fun _ _ _ => step_of_cons, fun _ _ => step_of_cons rfl, exec_next, fun _ => step_of_nil,
    fun _ => State.coreTick_of_noneDue, State.coreTick_of_none, fun _ _ _ => rfl⟩

/-! ### Core ticks -/

@[simp] theorem State.pending_timeTick (s : State) : s.timeTick.pending = s.pending := by
  rw [State.timeTick_frame]

@[simp] theorem State.wag_timeTick (s : State) : s.timeTick.wag = s.wag := by
  rw [State.timeTick_frame]

/-- The rate correction may slow ring time down, but a tick never takes it back. -/
theorem State.ringTime_le_timeTick (s : State) : s.ringTime ≤ s.timeTick.ringTime := by
  unfold State.timeTick
  dsimp only
  split <;> exact Nat.le_add_right _ _

theorem TimeUnit.uncorrected_eq {u : TimeUnit} (noSlew : u.slew = 0) (noneHeld : u.held = 0) (noneLeft : u.acc = 0) :
    { u with slew := 0, held := 0, acc := 0 } = u := by
  cases u
  subst noSlew noneHeld noneLeft
  rfl

/-- With nothing to correct, ring time goes on at its nominal rate, as the hub's own time does (R212). -/
theorem State.timeTick_uncorrected (noSlew : s.tu.slew = 0) (noneHeld : s.tu.held = 0) (noneLeft : s.tu.acc = 0) :
    s.timeTick = { s with uptime := s.uptime + tickUnits, ringTime := s.ringTime + tickUnits } := by
  have sameUnit : { s.tu with slew := 0, held := 0, acc := 0 } = s.tu :=
    TimeUnit.uncorrected_eq noSlew noneHeld noneLeft
  simp [State.timeTick, noSlew, noneHeld, noneLeft, sameUnit]

/-! ### Ticks in a row -/

/-- All that ticks can change: the hub's own time, by a tick each, and ring time with the time unit that corrects it. -/
theorem State.iterate_timeTick_frame (n : Nat) (s : State) : State.timeTick^[n] s = { s with
    uptime := s.uptime + tickUnits * n, ringTime := (State.timeTick^[n] s).ringTime, tu := (State.timeTick^[n] s).tu } := by
  induction n with
  | zero => rfl
  | succ n ih =>
    rw [Function.iterate_succ_apply', State.timeTick_frame, State.uptime_timeTick, ih, Nat.mul_succ, Nat.add_assoc]

theorem State.ringTime_le_iterate_timeTick (n : Nat) (s : State) : s.ringTime ≤ (State.timeTick^[n] s).ringTime := by
  induction n with
  | zero => exact le_rfl
  | succ n ih =>
    rw [Function.iterate_succ_apply']
    exact ih.trans (State.ringTime_le_timeTick _)

theorem State.iterate_timeTick_uncorrected (n : Nat) (noSlew : s.tu.slew = 0) (noneHeld : s.tu.held = 0)
    (noneLeft : s.tu.acc = 0) : State.timeTick^[n] s =
      { s with uptime := s.uptime + tickUnits * n, ringTime := s.ringTime + tickUnits * n } := by
  induction n with
  | zero => rfl
  | succ n ih =>
    have sameUnit : (State.timeTick^[n] s).tu = s.tu := by rw [ih]
    rw [← sameUnit] at noSlew noneHeld noneLeft
    rw [Function.iterate_succ_apply', State.timeTick_uncorrected noSlew noneHeld noneLeft, ih]
    simp only [Nat.mul_succ, Nat.add_assoc]

/-- While no command and no mirrored write waits, every step is a tick, which brings neither. -/
theorem steps_idle (n : Nat) (s : State) (empty : s.pending = []) (noneMirrored : s.wag.applies = []) :
    steps n s = some (State.timeTick^[n] s) := by
  induction n generalizing s with
  | zero => rfl
  | succ n ih =>
    have tick : step s = .next s.timeTick := by rw [step_of_nil empty, s.coreTick_of_none noneMirrored]
    rw [steps, tick, Function.iterate_succ_apply]
    exact ih s.timeTick (by rw [State.pending_timeTick, empty]) (by rw [State.wag_timeTick, noneMirrored])

/-- Settles O55: idle steps are ticks in a row. -/
theorem timePasses : Obligations.TimePasses := by
  refine ⟨?always, ?uncorrected⟩
  case always =>
    intro n s empty noneMirrored
    refine ⟨_, steps_idle n s empty noneMirrored, ?_, s.ringTime_le_iterate_timeTick n, ?_⟩
    all_goals rw [State.iterate_timeTick_frame]
    exacts [rfl, ⟨empty, rfl, rfl, rfl, rfl, rfl, rfl⟩]
  case uncorrected =>
    intro n s empty noneMirrored noSlew noneHeld noneLeft
    rw [steps_idle n s empty noneMirrored, State.iterate_timeTick_uncorrected n noSlew noneHeld noneLeft]
    rfl

end Sys2Proof.Machine
end

section
/-!
Ring time (R218 to R222, R225, R227 to R230): the copies of a SYNC, holdover, outside time, PPS_OUT, captures and the whole second.
-/

namespace Sys2Proof.Machine

variable {s : State}

/-! ### SYNC (R218, R221, R225) -/

section Sync

variable {p : RingPort} {f : TakenFrame} (hears : s.hears p = true) (typ : f.hdr.typ.toNat = typSync)
  (whole : f.payload.length = 48)
include hears typ whole

/-- The keeper takes its own SYNC that comes back as a measure of the ring's closure. -/
theorem execSync_returned (keeper : s.isKeeper = true) (own : s.isSource f.hdr = true) :
    execSync p f s = .next (s.closeLoop p (beAt f.payload 12 4) (s.syncOffset p f)) :=
  congrArg done ((if_neg (by simp [hears, typ])).trans ((if_neg (by simp [whole])).trans (if_pos (by simp [keeper, own]))))

variable (notKeeper : s.isKeeper = false)
include notKeeper

theorem execSync_faulty {k : Nat} (faulty : s.syncFault p f = some k) : execSync p f s = .next (s.bump 0x3002 k) := by
  refine congrArg done ((if_neg (by simp [hears, typ])).trans ((if_neg (by simp [whole])).trans ?_))
  refine (if_neg (by simp [notKeeper])).trans ((if_neg (by simp [notKeeper])).trans ?_)
  rw [faulty]

/-- The first valid copy steps this hub to the keeper's time, so it joins its round with nothing left to correct. -/
theorem execSync_first {t : State} (sound : s.syncFault p f = none) (unset : s.timeState = 0)
    (stepped : t = (s.firstTime (s.syncOffset p f)).takeSyncFields f) (coarse : t.timeState = 1) (free : t.val 0x3000 4 ≠ 2) :
    execSync p f s = .next ((t.armHoldover.joinRound p (beAt f.payload 12 4) 0 (syncHops f)).wagRefresh) := by
  subst stepped
  refine congrArg done ((if_neg (by simp [hears, typ])).trans ((if_neg (by simp [whole])).trans ?_))
  refine (if_neg (by simp [notKeeper])).trans ((if_neg (by simp [notKeeper])).trans ?_)
  rw [sound]
  simp [unset, coarse, free]

end Sync

/-! ### Holdover (R220, R222) -/

theorem execHoldoverEnter_fine {t u : State} (due : s.due .holdover = true) (fine : s.timeState = 2)
    (late : t = s.disarm .holdover)
    (kept : u = { t with tu := { t.tu with holdEst := t.estError - t.leftPs, fineRun := 0, coarseRun := 0 } }) :
    execHoldoverEnter s = .next (((u.bump 0x3002 7).setTimeState .holdover).raise 0xB 2 contained
      (packArg [i16 (s.val 0x3000 4), s32 s.combined])).wagRefresh := by
  subst late kept
  have fineYet : (s.disarm .holdover).timeState = 2 := fine
  exact congrArg done ((s.onDue_of_due _ _ due).trans (if_pos (by simp [fineYet])))

/-! ### Outside time (R227) -/

theorem execPpsInEdge_counted (ns : Nat) {u : State} (rises : s.val 0x3020 1 = 0)
    (counted : u = (s.bump 0x3020 5).setVal 0x3020 4 (time80 (nsec ns))) (notKeeper : u.isKeeper = false) :
    execPpsInEdge true ns s = .next u := by
  subst counted
  exact congrArg done ((if_neg (by simp [rises])).trans (if_pos (by simp [notKeeper])))

theorem execPpsInEdge_wrongEdge (ns : Nat) (rises : s.val 0x3020 1 = 0) : execPpsInEdge false ns s = .next s :=
  congrArg done (if_pos (by simp [rises]))

theorem execExtLost_keeper (due : s.due .extLoss = true) (keeper : s.isKeeper = true) (reference : s.val 0x3010 1 ≠ 0) {t : State}
    (lost : t = (s.disarm .extLoss).setVal 0x3010 6 3) : execExtLost s = .next
      (t.raise 0xB 6 contained (packArg [i16 (s.val 0x3010 1), i32 (s.val 0x3010 7)])) := by
  subst lost
  have keeperYet : (s.disarm .extLoss).isKeeper = true := keeper
  exact congrArg done ((s.onDue_of_due _ _ due).trans (if_pos (by simp [keeperYet, reference])))

/-! ### PPS_OUT (R228) -/

theorem execPpsOutEdge_asserts (low : s.tu.pps = false) (on : s.ppsOn = true) (atPhase : s.ppsPhase < 2 * tickUnits) :
    execPpsOutEdge s = .next (s.drivePps true) :=
  congrArg done ((if_neg (by simp [low])).trans (if_pos (by simp [on, atPhase])))

theorem execPpsOutEdge_ends (high : s.tu.pps = true) (wide : nsec (s.val 0x3030 4) ≤ s.ppsPhase) :
    execPpsOutEdge s = .next (s.drivePps false) :=
  congrArg done ((if_pos high).trans (if_pos (by simp [wide])))

/-! ### Capture (R229, R230, R245) -/

section Capture

variable {pin : Fin 64} {rising : Bool} {ns : Nat}

theorem State.capture_selected (selected : (s.val 0x3040 (if rising then 1 else 2)).testBit pin.val = true) :
    s.capture pin rising ns = (s.storeCapture pin rising ns).wagCapture pin.val rising ns :=
  if_pos selected

theorem State.capture_unselected (unselected : (s.val 0x3040 (if rising then 1 else 2)).testBit pin.val = false) :
    s.capture pin rising ns = s :=
  if_neg (by simp [unselected])

/-- No other pad than those of the discrete channels has a level that the hub keeps. -/
theorem execCaptureEdge_noChannel (noChannel : 32 ≤ pin.val) :
    execCaptureEdge pin rising ns s = .next (s.capture pin rising ns) := by
  unfold execCaptureEdge
  rw [if_pos (by simp [noChannel])]
  rfl

theorem execCaptureEdge_channel {t : State} (channel : pin.val < 32) (on : s.combOff = false)
    (followed : t = { s with dio := { s.dio with
      inRaw := putBit s.dio.inRaw pin.val rising
      inState := if s.unfiltered pin.val then putBit s.dio.inState pin.val rising else s.dio.inState } }) :
    execCaptureEdge pin rising ns s = .next (if (s.val 0x3040 (if rising then 1 else 2)).testBit pin.val then
      (t.storeCapture pin rising ns).wagCapture pin.val rising ns else t) := by
  have sameObjs : t.objs = s.objs := by rw [followed]
  unfold execCaptureEdge
  rw [if_neg (by simp [channel, on]), ← followed]
  refine congrArg done ?_
  rw [State.capture, State.val_congr sameObjs]

end Capture

/-! ### The whole second (R127, R228, R396) -/

theorem execWholeSecond_new {t : State} (new : s.tu.second ≠ s.ringTime / secs 1)
    (noted : t = { s with tu := { s.tu with second := s.ringTime / secs 1 }, sw := { s.sw with gapRaised := false } }) :
    execWholeSecond s = .next ([0x5114, 0x5115, 0x5116, 0x5117].foldl State.applyGroup
      (if (s.group 0x3031).pending.isSome then (t.applySet 0x3031).drivePps s.tu.pps else t)) := by
  subst noted
  exact congrArg done (if_neg new)

theorem execWholeSecond_same (same : s.tu.second = s.ringTime / secs 1) : execWholeSecond s = .next s :=
  congrArg done (if_pos same)

/-- Settles O17 command by command: a SYNC by what it fails or who it reaches, timers that are due, writes that pass their checks,
and the edges of PPS_IN, PPS_OUT and the captured pads. -/
theorem ringTimeCommands : Obligations.RingTimeCommands := by
  unfold Obligations.RingTimeCommands
  refine ⟨?faulty, ?first, fun p f s => execSync_returned, ?holdover, ?hostOffset, ?setTime,
    fun v s => rfl, ?todNext, fun v s => rfl, ?ppsIn, fun ns s => execPpsInEdge_wrongEdge ns, ?extLost,
    fun s => execPpsOutEdge_asserts, fun s => execPpsOutEdge_ends, ?selected, ?channel, ?unselected, ?newSecond,
    fun s => execWholeSecond_same⟩
  case faulty =>
    intro p f k s hears typ whole notKeeper faulty
    exact execSync_faulty hears typ whole notKeeper faulty
  case first =>
    intro p f s hears typ whole notKeeper sound unset t coarse free
    exact execSync_first hears typ whole notKeeper sound unset rfl coarse free
  case holdover =>
    intro s due fine
    exact execHoldoverEnter_fine due fine rfl rfl
  case hostOffset | setTime | todNext =>
    intro rq value s checked awake
    exact congrArg done (s.objectWrite_accepted rq _ value _ checked awake (.inl rfl))
  case ppsIn =>
    intro ns s rises u notKeeper
    exact execPpsInEdge_counted ns rises rfl notKeeper
  case extLost =>
    intro s due keeper reference
    exact execExtLost_keeper due keeper reference rfl
  case selected =>
    intro pin rising ns s noChannel selected
    exact (execCaptureEdge_noChannel noChannel).trans (congrArg done (State.capture_selected selected))
  case channel =>
    intro pin rising ns s channel on
    exact execCaptureEdge_channel channel on rfl
  case unselected =>
    intro pin rising ns s noChannel unselected
    exact (execCaptureEdge_noChannel noChannel).trans (congrArg done (State.capture_unselected unselected))
  case newSecond =>
    intro s new
    exact execWholeSecond_new new rfl

end Sys2Proof.Machine
end

section
/-!
Waggles (R240, R241, R244, R246 to R248, R252, R255): writes of the waggle table, due entries and their actions, reports.
-/

namespace Sys2Proof.Machine

variable {s : State}

/-! ### Writes of the waggle table (R240, R241) -/

/-- Words in their bytes: four for each. -/
theorem flatten_leBytes_words_length {n : Nat} (words : Vector (BitVec 32) n) :
    (words.toList.map fun w => leBytes 4 w.toNat).flatten.length = 4 * n := by
  rw [List.length_flatten, List.map_map]
  simp [Function.comp_def, Nat.mul_comm]

section Write

variable {offset e : Nat} {bytes : List Byte} {l : List Nat}

theorem State.wagWrite_accepted (decoded : s.wagDecode offset bytes = (.ok, e, l)) (alone : s.mirroring = false) :
    s.wagWrite offset bytes = (s.wagApply e l, .ok) := by
  unfold State.wagWrite
  rw [decoded]
  exact if_neg (by simp [alone])

theorem State.wagWrite_range (decoded : s.wagDecode offset bytes = (.range, e, l)) :
    s.wagWrite offset bytes = (s.bump 0x3100 0xB, .range) := by
  unfold State.wagWrite
  rw [decoded]

end Write

/-! ### Due times (R244, R246) -/

section Due

variable {x : WagEntry} {d l : Nat}

theorem execWaggleFreeze_scheduled {e : Fin 4096} (due : (s.wagEntry e.val).due = some d) (scheduled : (s.wagEntry e.val).st = 2)
    (near : d ≤ s.nowNs + 1000) (free : s.wagHeld (s.wagEntry e.val) = false) :
    execWaggleFreeze e s = .next (s.putWag e.val { s.wagEntry e.val with st := 4 }) := by
  unfold execWaggleFreeze
  dsimp only
  rw [due]
  exact congrArg done (if_pos (by simp [scheduled, near, free]))

theorem State.verdict_scheduled (far : s.nowNs + 1000 ≤ d) : s.verdict x d = .at_ d d false := if_pos far

theorem State.verdict_frozen (ahead : s.nowNs ≤ d) (near : d < s.nowNs + 1000) :
    s.verdict x d = .at_ d (max d (s.nowNs + 200)) true :=
  (if_neg near.not_ge).trans (if_pos ahead)

/-- A due time that has passed is judged by the late limit of its entry. -/
theorem State.verdict_passed (passed : d < s.nowNs) (limit : s.lateLimit x = some l) :
    s.verdict x d = if s.nowNs - d < l then .at_ d s.nowNs true else .missed d (s.nowNs - d) := by
  refine (if_neg (by omega)).trans ((if_neg passed.not_ge).trans ?_)
  rw [limit]

end Due

/-! ### Execution (R248) -/

section Fire

variable {e action : Nat}

/-- The 16 executions of a tick are counted from its first. -/
theorem State.wagFire_due {u : State} {x : WagEntry} {d k : Nat} (refreshed : u = s.wagRefresh) (entry : x = u.wagEntry e)
    (count : k = if u.wag.tick = u.nowTick then u.wag.inTick else 0) (scheduled : x.due = some d) (due : u.wagDue x = true)
    (room : k < 16) (same : x.action = action) : s.wagFire e action =
      State.wagExecute { u with wag := { u.wag with tick := u.nowTick, inTick := k + 1 } } e x d := by
  subst refreshed entry count
  unfold State.wagFire
  dsimp only
  rw [scheduled]
  exact (if_neg (by simp [same, due])).trans (if_pos room)

theorem State.wagFire_other (other : (s.wagRefresh.wagEntry e).action ≠ action) : s.wagFire e action = s := by
  unfold State.wagFire
  dsimp only
  split
  · exact if_pos (by simp [other])
  · rfl

end Fire

section Execute

variable {e d late : Nat} {x : WagEntry}

theorem State.wagExecute_suppressed {cause : Nat} (suppressed : s.wagSuppress x.action = some cause) : s.wagExecute e x d =
    ((s.bump 0x3100 6).raise 0x14 3 corrected (packArg [i16 e, i16 cause])).wagAfter e
      { x with lastSuppressed := true, lastLate := false, lastMissed := false } d := by
  unfold State.wagExecute
  rw [suppressed]

theorem State.wagExecute_onTime (allowed : s.wagSuppress x.action = none) (onTime : s.ringTime ≤ nsec d) : s.wagExecute e x d =
    ((s.bump 0x3100 3).wagAfter e { x with
      fires := x.fires + 1, lastLate := false, lastMissed := false, lastSuppressed := false } d).wagAct e x d (s.nowNs - d) := by
  unfold State.wagExecute
  rw [allowed]
  simp [onTime.not_gt]

theorem State.wagAct_snapshot (action : x.action = 4) :
    s.wagAct e x d late = s.queueReport (reportRecord (s.reportFields e x d late)) := by
  unfold State.wagAct
  rw [action]
  rfl

theorem State.wagAct_supply (action : x.action = 6) : s.wagAct e x d late = s.switchSupply (x.w 6) (!(x.w 7).testBit 0) := by
  unfold State.wagAct
  rw [action]
  rfl

end Execute

/-- Settles O18: a write by its access check and then its entry's, an entry by its due time, its tick and its action, and a due time by
how far off it lies. -/
theorem waggles : Obligations.Waggles := by
  unfold Obligations.Waggles
  refine ⟨?table, ?control, fun offset bytes e l s => State.wagWrite_accepted, fun offset bytes e l s => State.wagWrite_range,
    fun e d s => execWaggleFreeze_scheduled, ?fires, ?otherAction, fun e x d cause s => State.wagExecute_suppressed,
    fun e x d s => State.wagExecute_onTime, fun e x d late s => State.wagAct_snapshot, fun e x d late s => State.wagAct_supply,
    fun x d s => State.verdict_scheduled, fun x d s => State.verdict_frozen, ?missed, ?late, ?pop, fun n s => rfl⟩
  case table =>
    intro rq e words s mine passed
    exact congrArg done (State.hwWrite_passed _ mine (flatten_leBytes_words_length words) passed)
  case control =>
    intro rq e word s mine passed
    exact congrArg done (State.hwWrite_passed _ mine (leBytes_length 4 _) passed)
  case fires =>
    intro e d s u x k r scheduled due room
    have fires (action : Nat) (same : x.action = action) : done (s.wagFire e.val action) = r :=
      congrArg done (State.wagFire_due rfl rfl rfl scheduled due room same)
    exact ⟨fires 0, fires 1, fires 2, fires 3, fires 4, fires 5, fires 6⟩
  case otherAction =>
    intro e s x other
    exact congrArg done (State.wagFire_other other)
  case missed =>
    intro x d l s passed limit tooLate
    exact (State.verdict_passed passed limit).trans (if_neg tooLate.not_gt)
  case late =>
    intro x d l s passed limit within
    exact (State.verdict_passed passed limit).trans (if_pos within)
  case pop =>
    intro rq value s checked awake
    exact congrArg done (s.objectWrite_accepted rq _ value _ checked awake (.inl rfl))

end Sys2Proof.Machine
end

section
/-!
Belt axes (R260, R262, R263): the samples of followed axes, and the preset of a published one.
-/

namespace Sys2Proof.Machine

variable {s : State}

/-! ### Axes followed (R262, R263) -/

section Axis

variable {p : RingPort} {f : TakenFrame} (hears : s.hears p = true) (typ : f.hdr.typ.toNat = typAxis)
  (foreign : s.isSource f.hdr = false)
include hears typ foreign

theorem execAxis_wrongLength (wrong : f.payload.length ≠ 40) : execAxis p f s = .next (s.portBump p 6) :=
  congrArg done ((if_neg (by simp [hears, typ, foreign])).trans (if_pos (by simp [wrong])))

/-- A whole frame of a followed axis is a sample where its sender is the axis's own source, and is counted from any other. -/
theorem execAxis_followed {i : Fin 16} (whole : f.payload.length = 40) (followed : s.followOf (beAt f.payload 0 1 % 64) = some i) :
    execAxis p f s = .next (if s.val (0x3210 + i.val) 2 = f.hdr.sNode.toNat then
      s.takeSample i (beAt f.payload 1 1) (beAt f.payload 4 8) (beAt f.payload 12 5)
        (1000000000 * beAt f.payload 20 6 + beAt f.payload 26 4) (beAt f.payload 32 4)
    else (s.bump (0x3210 + i.val) 0xA).raise 0x15 2 corrected
      (packArg [i16 (beAt f.payload 0 1 % 64), i16 f.hdr.sNode.toNat])) := by
  refine congrArg done ((if_neg (by simp [hears, typ, foreign])).trans ((if_neg (by simp [whole])).trans ?_))
  dsimp only
  rw [followed]

end Axis

theorem execAxisStale_due {i : Fin 16} (due : s.due (.axisStale i) = true) :
    execAxisStale i s = .next ((s.disarm (.axisStale i)).axisStale i).wagRefresh :=
  congrArg done (s.onDue_of_due _ _ due)

/-! ### Axes published (R260) -/

/-- PRESET is no setting that a commit of its publish entry stages. -/
theorem preset_not_staged (i : Fin 4) (r : ObjRow)
    (row : objRow? (objKey (0x3200 + i.val) 5 / 256) (objKey (0x3200 + i.val) 5 % 256) = some r) : (r.acc == .rws) = false := by
  revert i r
  decide

theorem State.preset_presetFx (i : Fin 4) (v : Nat) (s : State) : ((presetFx i v s).ax.pubs[i]).preset = some v := by
  simp [presetFx]

/-- Settles O19: an AXIS frame by its length and its sender, a deadline that has come, and a write that passes its checks. -/
theorem axes : Obligations.Axes := by
  unfold Obligations.Axes
  refine ⟨?ownSource, ?otherSource, fun p f s => execAxis_wrongLength, fun i s => execAxisStale_due, fun i s notYet => if_neg notYet,
    ?preset, State.preset_presetFx⟩
  case ownSource =>
    intro p f i s hears typ foreign whole followed own
    exact (execAxis_followed hears typ foreign whole followed).trans (congrArg done (if_pos own))
  case otherSource =>
    intro p f i s hears typ foreign whole followed other
    exact (execAxis_followed hears typ foreign whole followed).trans (congrArg done (if_neg other))
  case preset =>
    intro rq i value s checked awake
    exact congrArg done (s.objectWrite_accepted rq _ value _ checked awake (.inr (preset_not_staged i)))

end Sys2Proof.Machine
end

section
/-!
Discrete channels (R249, R250, R370, R371, R376): what a change of the output latches leaves, the order of the changes in a tick, and
the deliveries and pulse ends that change them.
-/

namespace Sys2Proof.Machine

variable {s : State}

@[simp] theorem testBit_bitsWithout (a b i : Nat) : (bitsWithout a b).testBit i = (a.testBit i && !b.testBit i) := by
  rw [bitsWithout, Nat.testBit_xor, Nat.testBit_and]
  cases a.testBit i <;> simp

/-! ### A new value of the latches (R250, R373, R375, R378, R422) -/

/-- A pad that is driven shows outside the hub alone. -/
theorem State.drive_eq (s : State) (e : Emission) : ∃ out, s.drive e = { s with out := out } := by
  unfold State.drive
  split
  · exact ⟨_, rfl⟩
  · exact ⟨_, rfl⟩

/-- The switches follow what is wanted of them, and nothing else in the hub changes. -/
theorem State.syncDio_eq (s : State) :
    ∃ out, s.syncDio = { s with out := out, dio := { s.dio with driven := s.dioWanted } } := by
  have driven (l : List Nat) : ∃ out, l.foldl (fun t i => t.drive (.pad i (s.dioWanted.testBit i))) s = { s with out := out } :=
    List.foldlRecOn (motive := fun t : State => ∃ out, t = { s with out := out }) l _ ⟨_, rfl⟩ fun t only i _ => by
      obtain ⟨out, rfl⟩ := only
      exact State.drive_eq _ _
  obtain ⟨out, only⟩ := driven (changedBits 32 s.dio.driven s.dioWanted)
  unfold State.syncDio
  dsimp only
  exact ⟨out, by rw [only]⟩

/-- The discrete channels once their latches have a new value, before the switches follow. -/
def State.latched (s : State) (new : Nat) : Dio :=
  let cleared := bitsWithout s.dio.latch new
  { s.dio with
    latch := new
    tripped := bitsWithout s.dio.tripped cleared
    cut := bitsWithout s.dio.cut cleared
    testing := bitsWithout s.dio.testing (s.dio.latch ^^^ new)
    pulseEnd := s.dio.pulseEnd.filter fun p => !cleared.testBit p.1 }

theorem State.setLatch_isolated (new : Nat) (isolated : s.isolated 32 = true) : s.setLatch new = s := if_pos isolated

/-- A change of the latches reaches the channels, the alarms of those that change, and the pads. -/
theorem State.setLatch_eq (new : Nat) (free : s.isolated 32 = false) : ∃ alarms out, s.setLatch new =
    { s with alarms := alarms, out := out, dio := { s.latched new with driven := State.dioWanted { s with dio := s.latched new } } } := by
  have disarmed (l : List (Fin 32)) (retries tests : Nat) : ∃ alarms, l.foldl (fun t (i : Fin 32) =>
      let t1 := if retries.testBit i.val then t.disarm (.outRetry i) else t
      if tests.testBit i.val then t1.disarm (.testEnd i) else t1) s = { s with alarms := alarms } :=
    List.foldlRecOn (motive := fun t : State => ∃ alarms, t = { s with alarms := alarms }) l _ ⟨_, rfl⟩ fun t only i _ => by
      obtain ⟨alarms, rfl⟩ := only
      dsimp only
      split <;> split <;> exact ⟨_, rfl⟩
  obtain ⟨alarms, only⟩ := disarmed (List.finRange 32) (bitsWithout s.dio.latch new) (s.dio.latch ^^^ new)
  obtain ⟨out, synced⟩ := State.syncDio_eq { s with alarms := alarms, dio := s.latched new }
  refine ⟨alarms, out, (if_neg (by simp [free])).trans ?_⟩
  dsimp only
  rw [only]
  exact synced

theorem State.latch_setLatch (new : Nat) (free : s.isolated 32 = false) : (s.setLatch new).dio.latch = new := by
  obtain ⟨alarms, out, set⟩ := s.setLatch_eq new free
  rw [set]
  rfl

/-- The pads of a state whose latches were just set are driven as wanted. -/
theorem State.driven_setLatch (new : Nat) (free : s.isolated 32 = false) : (s.setLatch new).dio.driven = (s.setLatch new).dioWanted := by
  obtain ⟨alarms, out, set⟩ := s.setLatch_eq new free
  rw [set]
  rfl

/-- A latch that is cleared ends the protection, the budget cut and the pulse test of its channel. -/
theorem State.setLatch_clears (new i : Nat) (free : s.isolated 32 = false) (wasSet : s.dio.latch.testBit i = true)
    (clear : new.testBit i = false) : (s.setLatch new).dio.tripped.testBit i = false ∧ (s.setLatch new).dio.cut.testBit i = false ∧
      (s.setLatch new).dio.testing.testBit i = false := by
  obtain ⟨alarms, out, set⟩ := s.setLatch_eq new free
  rw [set]
  simp [State.latched, wasSet, clear]

/-! ### Changes within one tick (R249) -/

/-- A place decides the channels that no later place has decided. -/
theorem State.testBit_turnMask (m place i : Nat) :
    (s.turnMask m place).testBit i = (m.testBit i && !s.turnsNow.any fun p => p.1 == i && place < p.2) := by
  unfold State.turnMask
  induction s.turnsNow generalizing m with
  | nil => simp
  | cons p l ih =>
    rw [List.foldl_cons, ih, List.any_cons]
    by_cases later : place < p.2
    · simp [later, Nat.testBit_two_pow, Bool.and_assoc, beq_eq_decide]
    · simp [later]

/-! ### Writes of the latches (R371, R376) -/

section Write

variable {mask v ign i : Nat}

/-- Counting the ignored bits isolates no block. -/
theorem State.isolated_noteTurn_addVal (m place n b : Nat) : ((s.noteTurn m place).addVal 0x4310 0xA n).isolated b = s.isolated b :=
  congrArg (·.testBit b) (State.val_setVal_of_ne _ _ (by decide))

theorem State.latch_writeLatch_isolated (isolated : s.isolated 32 = true) : (s.writeLatch mask v ign).dio.latch = s.dio.latch := by
  unfold State.writeLatch
  dsimp only
  rw [State.setLatch_isolated _ ((State.isolated_noteTurn_addVal ..).trans isolated)]
  rfl

/-- A write changes the latches that it decides, which are among the outputs of its mask. -/
theorem State.testBit_latch_writeLatch (free : s.isolated 32 = false) : (s.writeLatch mask v ign).dio.latch.testBit i =
    if (s.turnMask (mask &&& s.dioOutputs) 0).testBit i then v.testBit i else s.dio.latch.testBit i := by
  unfold State.writeLatch
  dsimp only
  rw [State.latch_setLatch _ ((State.isolated_noteTurn_addVal ..).trans free)]
  cases decided : (s.turnMask (mask &&& s.dioOutputs) 0).testBit i <;> simp [decided]

theorem State.testBit_latch_writeLatch_first (free : s.isolated 32 = false) (first : s.turnsNow = []) :
    (s.writeLatch mask v ign).dio.latch.testBit i =
      if mask.testBit i && s.dioOutputs.testBit i then v.testBit i else s.dio.latch.testBit i := by
  rw [State.testBit_latch_writeLatch free, State.testBit_turnMask, first]
  simp

/-- What a waggle has changed in this tick, a write leaves. -/
theorem State.testBit_latch_writeLatch_decided {place : Nat} (turn : (i, place) ∈ s.turnsNow) (waggle : 0 < place) :
    (s.writeLatch mask v ign).dio.latch.testBit i = s.dio.latch.testBit i := by
  cases isolated : s.isolated 32 with
  | true => rw [State.latch_writeLatch_isolated isolated]
  | false =>
    have decided : (s.turnsNow.any fun p => p.1 == i && 0 < p.2) = true :=
      List.any_eq_true.2 ⟨(i, place), turn, by simp [waggle]⟩
    rw [State.testBit_latch_writeLatch isolated, State.testBit_turnMask, decided]
    simp

end Write

/-! ### Deliveries (R371, R376) -/

section Deliver

variable {p : List Byte}

theorem execDioDeliver_wrongLength (wrong : p.length ≠ 8) :
    execDioDeliver p s = .next { s with dio := { s.dio with discards := (s.dio.discards + 1) % 2 ^ 32 } } :=
  congrArg done (if_pos (by simp [wrong]))

variable (whole : p.length = 8)
include whole

theorem execDioDeliver_safe (safe : s.safe = true) : execDioDeliver p s = .next (s.bump 0x4310 0xA) :=
  congrArg done ((if_neg (by simp [whole])).trans (if_pos safe))

theorem execDioDeliver_written (notSafe : s.safe = false) :
    execDioDeliver p s = .next (s.writeLatch (beAt p 0 4) (beAt p 4 4) (beAt p 0 4)) :=
  congrArg done ((if_neg (by simp [whole])).trans (if_neg (by simp [notSafe])))

end Deliver

/-! ### Pulse ends (R249, R250) -/

section Pulse

variable {n : Fin 32}

theorem execPulseEnd_none (none_ : aget s.dio.pulseEnd n.val = none) : execPulseEnd n s = .next s := by
  unfold execPulseEnd
  rw [none_]
  rfl

theorem execPulseEnd_due {t : Nat} (pulse : aget s.dio.pulseEnd n.val = some t) (due : t ≤ s.nowNs)
    (unchanged : (s.turnsNow.any fun p => p.1 == n.val) = false) :
    execPulseEnd n s = .next (s.setLatch (putBit s.dio.latch n.val false)) := by
  unfold execPulseEnd
  rw [pulse]
  exact congrArg done ((if_neg due.not_gt).trans (if_neg (by simp [unchanged])))

end Pulse

/-- Settles O32: window writes are their operations by definition, a write of the latches by the turns of its tick, a delivery by its
length and the safe state, and a pulse end by whether it is due. -/
theorem discreteOutputs : Obligations.DiscreteOutputs := by
  unfold Obligations.DiscreteOutputs
  refine ⟨fun rq v s => rfl, fun rq v s => rfl, fun rq v s => rfl, fun mask v ign i s => State.testBit_latch_writeLatch_first,
    fun mask v ign i place s => State.testBit_latch_writeLatch_decided, fun new s => State.driven_setLatch new,
    fun new i s => State.setLatch_clears new i, ?written, ?safe, fun p s => execDioDeliver_wrongLength,
    fun n t s => execPulseEnd_due, fun n s => execPulseEnd_none, fun rq n v s => rfl, fun rq v s => rfl, fun pin k s => rfl,
    fun n l s on => congrArg done (if_neg (by simp [on]))⟩
  case written =>
    intro p s whole notSafe
    exact execDioDeliver_written whole notSafe
  case safe =>
    intro p s whole safe
    exact execDioDeliver_safe whole safe

end Sys2Proof.Machine
end

section
/-!
Tickets and the queue of waiters (R294, R296): age is the order of one number, so it is total, and a waiter that joins keeps the queue
in it.
-/

namespace Sys2Proof.Machine

/-! ### Age (R294) -/

/-- A ticket as one number: its issue time, then ring, node and number of its master, each at its width. -/
def Ticket.rank (x : Ticket) : Nat :=
  2 ^ 21 * x.issue + 2 ^ 17 * x.master.ring.val + 2 ^ 4 * x.master.node.val + x.master.num.val

theorem Ticket.older_iff_rank_lt {x y : Ticket} : x.older y = true ↔ x.rank < y.rank := by
  obtain ⟨i, ⟨ring, node, num⟩⟩ := x
  obtain ⟨i', ⟨ring', node', num'⟩⟩ := y
  simp only [Ticket.older, Ticket.rank, Bool.or_eq_true, Bool.and_eq_true, decide_eq_true_eq, beq_iff_eq, Fin.ext_iff]
  omega

theorem Ticket.older_eq_false_iff {x y : Ticket} : x.older y = false ↔ y.rank ≤ x.rank := by
  rw [← Bool.not_eq_true, Ticket.older_iff_rank_lt, Nat.not_lt]

theorem Ticket.rank_injective : Function.Injective Ticket.rank := by
  rintro ⟨i, ⟨ring, node, num⟩⟩ ⟨i', ⟨ring', node', num'⟩⟩ same
  simp only [Ticket.rank] at same
  simp only [Ticket.mk.injEq, MasterId.mk.injEq, Fin.ext_iff]
  omega

/-! ### The queue of waiters (R296) -/

/-- No waiter of the list stands behind a younger one. -/
def OldestFirst (l : List (Ticket × Nat × Requester)) : Prop := l.Pairwise fun a b => b.1.older a.1 = false

theorem insertWaiter_eq_orderedInsert (w : Ticket × Nat × Requester) (l : List (Ticket × Nat × Requester)) :
    insertWaiter w l = l.orderedInsert (fun a b => a.1.older b.1 = true) w := by
  induction l with
  | nil => rfl
  | cons x l ih => rw [insertWaiter, List.orderedInsert_cons, ih]

theorem mem_insertWaiter {w x : Ticket × Nat × Requester} {l : List (Ticket × Nat × Requester)} :
    x ∈ insertWaiter w l ↔ x = w ∨ x ∈ l := by
  rw [insertWaiter_eq_orderedInsert, List.mem_orderedInsert]

/-- By recursion on the queue: the new waiter stands before the first one that it is older than. -/
theorem oldestFirst_insertWaiter (w : Ticket × Nat × Requester) {l : List (Ticket × Nat × Requester)} (sorted : OldestFirst l) :
    OldestFirst (insertWaiter w l) := by
  induction l with
  | nil => exact List.pairwise_singleton _ w
  | cons x l ih =>
    obtain ⟨behind, rest⟩ := List.pairwise_cons.1 sorted
    rw [insertWaiter]
    split
    case isTrue older =>
      have first : ∀ y ∈ x :: l, y.1.older w.1 = false := by
        have ahead := Ticket.older_iff_rank_lt.1 older
        refine List.forall_mem_cons.2 ⟨Ticket.older_eq_false_iff.2 ahead.le, fun y mem => ?_⟩
        exact Ticket.older_eq_false_iff.2 (ahead.le.trans (Ticket.older_eq_false_iff.1 (behind y mem)))
      exact List.pairwise_cons.2 ⟨first, sorted⟩
    case isFalse notOlder =>
      refine List.pairwise_cons.2 ⟨fun y mem => ?_, ih rest⟩
      obtain rfl | old := mem_insertWaiter.1 mem
      · exact Bool.eq_false_iff.2 notOlder
      · exact behind y old

/-- Settles O23: different tickets have different ranks, and the queue is built by recursion on its waiters. -/
theorem locksAreExclusive : Obligations.LocksAreExclusive := by
  unfold Obligations.LocksAreExclusive
  refine ⟨?total, ?trans, fun w l => oldestFirst_insertWaiter w, fun w l x => mem_insertWaiter⟩
  case total =>
    intro x y different
    have ranks := Ticket.rank_injective.ne different
    rw [Ticket.older_iff_rank_lt, Ticket.older_eq_false_iff]
    exact ⟨le_of_lt, fun le => lt_of_le_of_ne le ranks⟩
  case trans =>
    intro x y z
    simp only [Ticket.older_iff_rank_lt]
    exact lt_trans

end Sys2Proof.Machine
end

section
/-!
Requests at their target (R50, R273 to R284): a request for this hub's slot is served here, one for a slot without a hub has no target;
writes by their length, fences by the fence state of their master.
-/

namespace Sys2Proof.Machine

variable {s : State} {f : TakenFrame}

/-! ### The slot that a request names (R20, R160, R163) -/

/-- Outside a pair every request for the hub's own slot is its own. -/
theorem State.atSlot_here (rq : Requester) (k : State → State) (here : beAt f.payload 4 1 % 4 = s.val 0x1001 3)
    (unpaired : s.paired = false) : s.atSlot f rq k = s.sharedAt (beAt f.payload 0 4) k :=
  (if_pos here).trans (if_pos (by simp [State.actsOn, unpaired]))

/-- A narrow node has no board link over which another slot could be reached. -/
theorem State.atSlot_noTarget (rq : Requester) (k : State → State) (elsewhere : beAt f.payload 4 1 % 4 ≠ s.val 0x1001 3)
    (narrow : s.dx.mode = 0) : s.atSlot f rq k = s.answer rq (beAt f.payload 0 4) (beAt f.payload 6 2) .noTarget [] :=
  (if_neg elsewhere).trans (if_neg (by simp [narrow]))

/-! ### Fences (R283, R284) -/

theorem State.touchFence_live {m : MasterId} {x : FenceState}
    (live : (s.bridge.fences.filter s.fenceLive).find? (fun y => y.master == m) = some x) :
    s.touchFence m = ({ s with bridge := { s.bridge with fences :=
      ((s.bridge.fences.filter s.fenceLive).filter fun y => y.master != m) ++ [{ x with lastUse := s.uptime }] } }, true, false) := by
  rw [State.touchFence, live]

/-- Using a fence state changes the fence states only. -/
theorem State.touchFence_dx (m : MasterId) : (s.touchFence m).1.dx = s.dx := by
  rw [State.touchFence]
  split
  · rfl
  · dsimp only
    split
    · rfl
    · split
      · split <;> rfl
      · rfl

/-- A FENCE finds its master's posted writes complete where none waits for a standby. -/
theorem State.serveFence_clear {rq : Requester} (noneWaits : s.dx.mirrorWait = []) (granted : (s.touchFence rq.master).2.1 = true) :
    s.serveFence rq = (s.touchFence rq.master).1.answerFence rq (s.touchFence rq.master).2.2 := by
  have clear : (s.touchFence rq.master).1.fenceClear rq.master = true := by
    rw [State.fenceClear, State.touchFence_dx, noneWaits]
    rfl
  exact (if_neg (by simp [granted])).trans (if_pos clear)

/-! ### Requests for this hub (R50, R273, R277, R280) -/

section Here

variable (here : beAt f.payload 4 1 % 4 = s.val 0x1001 3)
include here

/-- A READ_REQ at offset 0 with a length carries a dictionary transfer. -/
theorem execReadReq_transfer (atZero : beAt f.payload 0 4 = 0) (long : beAt f.payload 6 2 ≠ 0) : execReadReq f s =
    .next (s.serveTransfer (frameRequester f .transfer) f.hdr (beAt f.payload 6 2) (f.payload.drop 8)) :=
  congrArg done ((if_pos (by simp [atZero, long])).trans (if_pos here))

variable (unpaired : s.paired = false)
include unpaired

theorem execReadReq_window (window : beAt f.payload 0 4 ≠ 0 ∨ beAt f.payload 6 2 = 0) :
    execReadReq f s = .next (s.sharedAt (beAt f.payload 0 4) fun t =>
      t.serveRead (frameRequester f .window) (beAt f.payload 0 4) (beAt f.payload 6 2)) := by
  have noTransfer : ¬(beAt f.payload 0 4 = 0 && beAt f.payload 6 2 ≠ 0) := by
    simpa [imp_iff_not_or] using window
  exact congrArg done ((if_neg noTransfer).trans (State.atSlot_here _ _ here unpaired))

theorem execWriteAcked_served {d : List Byte} (data : writeData f = some d) : execWriteAcked f s =
    .next (s.sharedAt (beAt f.payload 0 4) fun t => t.serveWrite (frameRequester f .window) (beAt f.payload 0 4) d) := by
  rw [execWriteAcked, State.atSlot_here _ _ here unpaired, data]
  rfl

theorem execWriteAcked_wrongLength (wrong : writeData f = none) : execWriteAcked f s =
    .next (s.sharedAt (beAt f.payload 0 4) fun t =>
      t.answer (frameRequester f .window) (beAt f.payload 0 4) (beAt f.payload 6 2) .typeLength []) := by
  rw [execWriteAcked, State.atSlot_here _ _ here unpaired, wrong]
  rfl

theorem execWritePosted_served {d : List Byte} (data : writeData f = some d) : execWritePosted f s =
    .next (s.sharedAt (beAt f.payload 0 4) fun t => t.servePosted (frameRequester f .posted) (beAt f.payload 0 4) d) := by
  rw [execWritePosted, State.atSlot_here _ _ here unpaired, data]
  rfl

end Here

/-- Settles O20: a request by the slot it names and whether it is well formed, a fence by the fence state of its master. -/
theorem requestsServed : Obligations.RequestsServed := by
  unfold Obligations.RequestsServed
  refine ⟨fun f s => execReadReq_window, fun f s here _ => execReadReq_transfer here, ?noTarget,
    fun f d s here unpaired => execWriteAcked_served here unpaired, fun f s => execWriteAcked_wrongLength,
    fun f d s here unpaired => execWritePosted_served here unpaired, ?compareSwap, ?fetchAdd, ?fence,
    fun m x s => State.touchFence_live, fun rq s => State.serveFence_clear⟩
  case noTarget => exact fun f s elsewhere narrow => congrArg done (State.atSlot_noTarget _ _ elsewhere narrow)
  case compareSwap => exact fun f s here unpaired => congrArg done (State.atSlot_here _ _ here unpaired)
  case fetchAdd => exact fun f s here unpaired => congrArg done (State.atSlot_here _ _ here unpaired)
  case fence => exact fun f s here unpaired => congrArg done (State.atSlot_here _ _ here unpaired)

end Sys2Proof.Machine
end

section
/-!
Requests of this hub's masters (R19, R273, R279 to R282), the far-error log and the replay of tunnels (R290, R291).
-/

namespace Sys2Proof.Machine

variable {s : State}

/-! ### Where a request goes (R19, R273, R274) -/

theorem State.forPrimary_of_not_standby (num : Fin 16) (offset : Nat) (a : FabricAsk) (notStandby : s.standby = false) :
    s.forPrimary num offset a = false := by
  simp [State.forPrimary, notStandby]

section Ask

variable {addr : Nat} (num : Fin 16) (tag : Fin 65536) (via : Via) (cls : Nat) (aperture : Option (Fin 16)) (a : FabricAsk)

/-- An address with a reserved bit set names no target. -/
theorem State.ask_reserved (reserved : bitField addr 46 34 ≠ 0) : s.ask num tag via cls aperture addr a = s.deliver
    { num := num, tag := tag, via := via, typ := askTyp a, ring := bitField addr 63 60, node := bitField addr 59 47
      offset := addr % 2 ^ 32, length := askLen a, payload := askPayload a (addr % 2 ^ 32) (bitField addr 33 32), cls := cls
      aperture := aperture } .noTarget [] :=
  if_pos reserved

variable (legal : bitField addr 46 34 = 0)
include legal

/-- Node 0 and slot 0 are this hub itself, whatever its numbers. -/
theorem State.ask_local (node : bitField addr 59 47 = 0) (slot : bitField addr 33 32 = 0) (notStandby : s.standby = false) :
    s.ask num tag via cls aperture addr a = s.serveLocal
      { num := num, tag := tag, via := via, typ := askTyp a, ring := bitField addr 63 60, node := 0, offset := addr % 2 ^ 32
        length := askLen a, payload := askPayload a (addr % 2 ^ 32) 0, cls := cls, aperture := aperture } a := by
  refine (if_neg (by simp [legal])).trans ((if_neg (by simp [State.forPrimary_of_not_standby num _ a notStandby])).trans ?_)
  refine (if_pos (by simp [node, slot])).trans ?_
  rw [node, slot]

/-- A request for a reachable node of the own ring is issued. -/
theorem State.ask_reachable (far : bitField addr 59 47 ≠ 0) (oneNode : bitField addr 59 47 ≠ 8191)
    (other : bitField addr 59 47 ≠ s.node) (sameRing : bitField addr 63 60 = s.ring) (awake : s.bench = false)
    (reached : s.reachesNode (bitField addr 59 47) = true) : s.ask num tag via cls aperture addr a = s.issue
      { num := num, tag := tag, via := via, typ := askTyp a, ring := s.ring, node := bitField addr 59 47
        offset := addr % 2 ^ 32, length := askLen a, payload := askPayload a (addr % 2 ^ 32) (bitField addr 33 32), cls := cls
        aperture := aperture } := by
  refine (if_neg (by simp [legal])).trans ((if_neg (by simp [far, other])).trans ((if_neg (by simp [far, other])).trans ?_))
  refine (if_neg (by simp [far, other])).trans ((if_neg oneNode).trans ((if_neg (by simp [awake, reached])).trans ?_))
  rw [if_neg far, if_neg far, sameRing]

end Ask

/-! ### How a request ends (R275, R279) -/

theorem State.finish_reported {p : Pending} (res : Result) (data : List Byte) (noLock : p.typ ≠ typLock) (heard : p.silent = false) :
    s.finish p res data = ((s.untrack p).deliver p res data).issueWaiting := by
  simp [State.finish, noLock, heard]

section ReadResp

variable {f : TakenFrame}

/-- A completion hands on its data as it stands; only a fence's has its flags before it. -/
theorem execReadResp_completes {p : Pending} {res : Result}
    (asked : s.pendingOf f.hdr.dMaster.toNat f.hdr.tag.toNat f.hdr.sRing.toNat f.hdr.sNode.toNat = some p)
    (noRead : p.typ ≠ typReadReq) (code : Result.ofCode (beAt f.payload 0 1) = some res) :
    execReadResp f s = .next ((s.finish p res (f.payload.drop 8)).pushNext p res (f.payload.drop 8)) := by
  simp [execReadResp, asked, noRead, code, done]

theorem execReadResp_unasked
    (unasked : s.pendingOf f.hdr.dMaster.toNat f.hdr.tag.toNat f.hdr.sRing.toNat f.hdr.sNode.toNat = none) :
    execReadResp f s = .next (s.bump 0x8300 5) := by
  rw [execReadResp, unasked]
  rfl

end ReadResp

/-- Where no request waits, none is taken from those that wait. -/
theorem State.clearWaiting_of_nil {t : State} (noneWaits : t.bridge.waiting = []) :
    { t with bridge := { t.bridge with waiting := [] } } = t := by
  rw [← noneWaits]

/-- Of the requests in flight only the one that was due has timed out. -/
theorem execReqTimeout_only {num : Fin 16} {tag : Fin 65536} {p : Pending} (due : s.due (.reqTimeout num tag) = true)
    (noneWaits : s.bridge.waiting = []) (inFlight : s.bridge.outstanding = [p]) (ofMaster : p.num = num) (tagged : p.tag = tag) :
    execReqTimeout num tag s =
      .next ((((s.disarm (.reqTimeout num tag)).bump 0x8300 4).finish p .farTimeout []).pushNext p .farTimeout []) := by
  refine congrArg done ((s.onDue_of_due _ _ due).trans ?_)
  replace noneWaits : (s.disarm (.reqTimeout num tag)).bridge.waiting = [] := noneWaits
  replace inFlight : (s.disarm (.reqTimeout num tag)).bridge.outstanding = [p] := inFlight
  generalize s.disarm (.reqTimeout num tag) = t at noneWaits inFlight ⊢
  simp only [noneWaits, List.filter_nil, List.foldl_nil, State.clearWaiting_of_nil noneWaits]
  simp [inFlight, ofMaster, tagged]

/-! ### Tunnels (R290, R291) -/

section Tunnel

variable {n : Fin 32} {f : TakenFrame}

theorem execTunnel_unbound (unbound : s.val (0x8200 + n.val) 1 = 0) : execTunnel n f s = .next (s.bump (0x8200 + n.val) 9) :=
  congrArg done (if_pos unbound)

theorem execTunnel_can {x : CanFrame} (can : s.val (0x8200 + n.val) 1 = 1) (replays : s.val (0x8200 + n.val) 4 ≠ 0)
    (sameKind : beAt f.payload 0 1 = 1)
    (permitted : s.permits { master := s.localMaster 9, tag := 0, via := .posted, cls := Fin.ofNat 4 f.hdr.cls.toNat }
      ((targetOf (s.tunnelPort n)).getD 0) .write (s.tunnelPort n) (s.tunnelPort n) = true)
    (whole : tunnelFrame f.payload = some x) :
    execTunnel n f s = .next (s.queueReplay n f.hdr.sNode.toNat f.payload) := by
  refine congrArg done ((if_neg (by simp [can])).trans ((if_neg (by simpa using permitted)).trans ?_))
  exact (if_neg (by simp [can, sameKind, replays])).trans ((if_pos can).trans (if_pos (by simp [whole])))

variable {x : Replay} {l : List Replay} (first : s.bridge.endpoints[n.val].replay = x :: l)
include first

theorem execReplayStart_notYet (early : s.nowNs < x.at_) : execReplayStart n s = .next s := by
  have first' : s.bridge.endpoints[n].replay = x :: l := first
  rw [execReplayStart]
  simp only [first']
  exact congrArg done (if_pos early)

/-- The oldest frame is offered to its CAN port, as the next of the port's requests. -/
theorem execReplayStart_can (come : x.at_ ≤ s.nowNs) (can : s.val (0x8200 + n.val) 1 = 1) : execReplayStart n s = .next (
    let q : Fin 8 := Fin.ofNat 8 (s.val (0x8200 + n.val) 2)
    (s.setEndpoint n { s.bridge.endpoints[n.val] with
      replay := l, offered := s.bridge.endpoints[n.val].offered ++ [((s.canPort q).next, x)] }).updCan q fun p =>
        { p with next := p.next + 1 }) := by
  have first' : s.bridge.endpoints[n].replay = x :: l := first
  rw [execReplayStart]
  simp only [first', can, if_true]
  exact congrArg done (if_neg come.not_gt)

end Tunnel

/-- Settles O21: a request by the address it names, its end by what is in flight, and a tunnelled frame by its endpoint's
set and time. -/
theorem requestsMade : Obligations.RequestsMade := by
  unfold Obligations.RequestsMade
  refine ⟨?reserved, ?local_, ?reachable, fun f p res s => execReadResp_completes, fun f s => execReadResp_unasked,
    fun p res data s => State.finish_reported res data, fun num tag p s => execReqTimeout_only, fun f s => rfl, ?pop,
    fun n f s => execTunnel_unbound, fun n f x s => execTunnel_can, fun n x l s => execReplayStart_can,
    fun n x l s => execReplayStart_notYet⟩
  case reserved =>
    intro num tag cls addr a s reserved
    exact congrArg done (State.ask_reserved num tag .window cls.val none a reserved)
  case local_ =>
    intro num tag cls addr a s legal node slot notStandby
    exact congrArg done (State.ask_local num tag .window cls.val none a legal node slot notStandby)
  case reachable =>
    intro num tag cls addr a s legal far oneNode other sameRing awake reached
    exact congrArg done (State.ask_reachable num tag .window cls.val none a legal far oneNode other sameRing awake reached)
  case pop => exact fun rq value s checked awake => congrArg done (s.objectWrite_accepted rq _ value _ checked awake (.inl rfl))

end Sys2Proof.Machine
end

section
/-!
Locks of this hub's buses (R294 to R299, R505): what becomes of an ACQUIRE, a RENEW and a RELEASE, and how a wait, a lease and a
back-off end.
-/

namespace Sys2Proof.Machine

variable {s : State}

/-! ### The access checker of a bus (R505) -/

section LockAccess

variable {rq : Requester} {b : Fin 16} (mine : s.notMine rq = false)
include mine

theorem State.lockAccess_refused (k : State → State)
    (refused : s.permits rq (b.val + 1) .atomicLock (busOffset b) (busOffset b) = false) :
    s.lockAccess rq b k = (s.refuse rq (b.val + 1) (busOffset b)).answer rq (busOffset b) 8 .accessDenied [] :=
  (if_neg (by simp [mine])).trans (if_neg (by simp [refused]))

variable (permitted : s.permits rq (b.val + 1) .atomicLock (busOffset b) (busOffset b) = true)
include permitted

theorem State.lockAccess_permitted (k : State → State) : s.lockAccess rq b k = k s :=
  (if_neg (by simp [mine])).trans (if_pos permitted)

/-! ### ACQUIRE (R296) -/

section Acquire

variable {issue wait : Nat} (bounded : wait ≤ 1000000)
include bounded

theorem State.acquire_free (free : s.bridge.buses[b.val].holder = none) :
    s.acquire rq b issue 0 wait = s.grantLock rq b ⟨issue, rq.master⟩ s.leaseDefault := by
  refine (State.lockAccess_permitted mine permitted _).trans ((if_neg (by simp [bounded])).trans ?_)
  simp only [Fin.getElem_fin, free]
  rfl

variable {h : Ticket} {g : Nat} (held : s.bridge.buses[b.val].holder = some (h, g)) (other : h ≠ ⟨issue, rq.master⟩)
include held other

/-- What an ACQUIRE meets at a bus that another ticket holds is decided by the ages of the two, and by the room for waiters. -/
theorem State.acquire_held : s.acquire rq b issue 0 wait =
    if (Ticket.older ⟨issue, rq.master⟩ h && decide (s.bridge.buses[b.val].waiters.length < 8)) = true then
      (s.setBus b { s.bridge.buses[b.val] with
        waiters := insertWaiter (⟨issue, rq.master⟩, s.leaseDefault, rq) s.bridge.buses[b.val].waiters }).arm
          (.lockWait b.val rq.master) (usec wait)
    else s.refuseLock rq b 0 := by
  refine (State.lockAccess_permitted mine permitted _).trans ((if_neg (by simp [bounded])).trans ?_)
  simp only [Fin.getElem_fin, held]
  exact if_neg other

end Acquire

/-! ### RENEW and RELEASE (R296) -/

theorem State.renew_free (free : s.bridge.buses[b.val].holder = none) :
    s.renew rq b = s.answer rq (busOffset b) 8 .lockExpired [] := by
  refine (State.lockAccess_permitted mine permitted _).trans ?_
  simp only [Fin.getElem_fin, free]

variable {h : Ticket} {g : Nat} (held : s.bridge.buses[b.val].holder = some (h, g)) (own : h.master = rq.master)
include held own

theorem State.renew_own : s.renew rq b = (s.arm (.lease b.val) (usec g)).lockOk rq b 2 h.issue g := by
  refine (State.lockAccess_permitted mine permitted _).trans ?_
  simp only [Fin.getElem_fin, held]
  exact if_pos own

/-- Of a far master's lock this hub keeps nothing but the bus. -/
theorem State.release_own_far (far : s.isLocal rq.master = false) :
    s.release rq b = (s.freeBus b).lockOk rq b 3 h.issue 0 := by
  refine (State.lockAccess_permitted mine permitted _).trans ?_
  simp only [Fin.getElem_fin, held]
  refine (if_pos own).trans ?_
  rw [if_neg (by simp [far])]

end LockAccess

/-! ### The ends of a wait and of a lease (R296, R298) -/

theorem State.freeBus_waited {b : Fin 16} {t : Ticket} {lease : Nat} {rq : Requester} {l : List (Ticket × Nat × Requester)}
    (waiters : s.bridge.buses[b.val].waiters = (t, lease, rq) :: l) :
    s.freeBus b = ((s.setBus b { holder := none, waiters := l }).disarm (.lockWait b.val t.master)).grantLock rq b t lease := by
  simp only [State.freeBus, Fin.getElem_fin, waiters]

theorem execLockWaitExpiry_due {b : Fin 16} {m : MasterId} {t : Ticket} {lease : Nat} {rq : Requester}
    (due : s.due (.lockWait b.val m) = true)
    (waits : s.bridge.buses[b.val].waiters.find? (fun w => w.1.master == m) = some (t, lease, rq)) :
    execLockWaitExpiry b m s = .next (((s.disarm (.lockWait b.val m)).setBus b { s.bridge.buses[b.val] with
      waiters := s.bridge.buses[b.val].waiters.filter fun w => w.1.master != m }).refuseLock rq b lease) := by
  refine congrArg done ((s.onDue_of_due _ _ due).trans ?_)
  have waitsYet : (s.disarm (.lockWait b.val m)).bridge.buses[b].waiters.find? (fun w => w.1.master == m) = some (t, lease, rq) :=
    waits
  simp only [waitsYet]
  rfl

theorem execLockExpired_far {b : Fin 16} {h : Ticket} {g : Nat} (due : s.due (.lease b.val) = true)
    (held : s.bridge.buses[b.val].holder = some (h, g)) (far : s.isLocal h.master = false) :
    execLockExpired b s = .next ((((s.disarm (.lease b.val)).bump 0x8400 6).raise 0x1A 2 contained
      (packArg [i16 b.val, i32 h.master.word])).freeBus b) := by
  refine congrArg done ((s.onDue_of_due _ _ due).trans ?_)
  have heldYet : (s.disarm (.lease b.val)).bridge.buses[b].holder = some (h, g) := held
  have farYet : (s.disarm (.lease b.val)).isLocal h.master = false := far
  simp only [heldYet, farYet]
  rfl

/-! ### The end of a back-off (R294, R299) -/

theorem State.issueWaiting_of_nil {t : State} (noneWaits : t.bridge.waiting = []) : t.issueWaiting = t := by
  rw [State.issueWaiting, State.clearWaiting_of_nil noneWaits, noneWaits]
  rfl

theorem execBackoffEnd_noneWaits {n : Fin 16} (due : s.due (.backoff n) = true) (noneWaits : s.bridge.waiting = []) :
    execBackoffEnd n s = .next (
      let t := s.disarm (.backoff n)
      let q := (t.ownTicket n).quantum
      (t.updTicket n fun x => { x with backingOff := false, grace := true }).arm (.ticketGrace n)
        (usec (if q = 0 then t.leaseDefault else q))) :=
  congrArg done ((s.onDue_of_due _ _ due).trans (State.issueWaiting_of_nil noneWaits))

/-- Settles O22: a request by its rights and by who holds the bus, an end of time by what was due. -/
theorem locks : Obligations.Locks := by
  unfold Obligations.Locks
  refine ⟨?free, ?younger, ?older, ?renewOwn, ?renewFree, ?releaseOwn, ?releaseRefused,
    fun b m t lease rq s => execLockWaitExpiry_due, fun b h g s => execLockExpired_far,
    fun b t lease rq l s => State.freeBus_waited, fun n s => execBackoffEnd_noneWaits⟩
  case free =>
    intro rq b issue lease wait s mine permitted free noLease bounded
    change done (s.acquire rq b issue lease.toNat wait.toNat) = _
    rw [noLease, State.acquire_free mine permitted bounded free]
    rfl
  case younger =>
    intro rq b issue lease wait h g s mine permitted held other younger noLease bounded
    change done (s.acquire rq b issue lease.toNat wait.toNat) = _
    rw [noLease, State.acquire_held mine permitted bounded held other, if_neg (by simp [younger])]
    rfl
  case older =>
    intro rq b issue lease wait h g s mine permitted held other older room noLease bounded
    change done (s.acquire rq b issue lease.toNat wait.toNat) = _
    rw [noLease, State.acquire_held mine permitted bounded held other, if_pos (by simp [older, room])]
    rfl
  case renewOwn => exact fun rq b h g s mine permitted held own => congrArg done (State.renew_own mine permitted held own)
  case renewFree => exact fun rq b s mine permitted free => congrArg done (State.renew_free mine permitted free)
  case releaseOwn =>
    exact fun rq b h g s mine permitted held own far => congrArg done (State.release_own_far mine permitted held own far)
  case releaseRefused => exact fun rq b s mine refused => congrArg done (State.lockAccess_refused mine _ refused)

end Sys2Proof.Machine
end

section
/-!
The host link (R301 to R309): BAR accesses, the host window, the DMA rings, and the resets and the state of the link.
-/

namespace Sys2Proof.Machine

variable {s : State}

/-! ### BAR2 (R302, R304, R305) -/

section Bar2

variable (offset : Fin 16777216) (len : Fin 4097) (tag : Fin 65536) (bytes : List Byte) (live : s.hostLive = true)
include live

theorem execBar2Read_miss (off : s.flag (0x8510 + (s.aperture offset).1.val) 4 = false) :
    execBar2Read offset len tag s = .next (s.hostMiss tag 1 (s.aperture offset).2 len.val) :=
  congrArg done ((if_neg (by simp [live])).trans (if_neg (by simp [off])))

variable (on : s.flag (0x8510 + (s.aperture offset).1.val) 4 = true)
include on

theorem execBar2Read_asks : execBar2Read offset len tag s = .next ((s.bump (0x8510 + (s.aperture offset).1.val) 5).hostRead tag
    (s.val (0x8510 + (s.aperture offset).1.val) 2) (s.aperture offset).2 len.val) :=
  congrArg done ((if_neg (by simp [live])).trans (if_pos on))

/-- The aperture's mode decides whether a write waits for its response. -/
theorem execBar2Write_asks : execBar2Write offset bytes tag s = .next (
    if s.val (0x8510 + (s.aperture offset).1.val) 3 = 0 then
      (s.bump (0x8510 + (s.aperture offset).1.val) 5).ask 1 tag (.host 2) (s.val (0x8510 + (s.aperture offset).1.val) 2) none
        (s.aperture offset).2 (.writePosted bytes)
    else
      (s.bump (0x8510 + (s.aperture offset).1.val) 5).ask 1 tag (.host 2) (s.val (0x8510 + (s.aperture offset).1.val) 2)
        (some (s.aperture offset).1) (s.aperture offset).2 (.writeAcked bytes)) :=
  congrArg done ((if_neg (by simp [live])).trans (if_neg (by simp [on])))

end Bar2

/-! ### The host window (R303, R305) -/

theorem wordsOf_of_length_four {bytes : List Byte} (four : bytes.length = 4) : wordsOf bytes = [leAt bytes 0 4] := by
  rw [wordsOf, four]
  rfl

theorem State.hostWord_zero : s.hostWord 0 = some (s.openWord 0) := rfl

theorem State.hostWordWrite_zero (w : Nat) : s.hostWordWrite 0 w = s.setTail 0 w := rfl

/-- The first word of the host window is the tail of ring 0. -/
theorem execHostWindowAccess_tail (tag : Fin 65536) {bytes : List Byte} (live : s.hostLive = true) (four : bytes.length = 4) :
    execHostWindowAccess 0 tag (.write bytes) s = .next (s.setTail 0 (leAt bytes 0 4)) := by
  refine congrArg done ((if_neg (by simp [live])).trans ?_)
  simp [wordsOf_of_length_four four, State.hostWord_zero, State.hostWordWrite_zero]

/-- Behind the MSI-X table and its pending bits the window holds nothing. -/
theorem execHostWindowAccess_hole (tag : Fin 65536) {len : Fin 4097} (live : s.hostLive = true) (four : len.val = 4) :
    execHostWindowAccess 0x4000 tag (.read len) s = .next (s.hostMiss tag 1 0x4000 4) := by
  refine congrArg done ((if_neg (by simp [live])).trans ?_)
  simp only [four]
  rfl

/-! ### DMA rings (R307, R309) -/

section Ring

variable {c : Fin 4}

/-- Rings of one direction are served in their order: nothing stands before a ring that no ring ahead of it is ready with. -/
theorem noneReadyAhead {ready : Fin 4 → Bool} (ahead : ∀ k, k < c → ready k = false) :
    ((List.finRange 4).any fun k => decide (k < c) && ready k) = false := by
  simpa [List.any_eq_false] using ahead

theorem execTxDescriptorFetch_unknownFlow {flow : Fin 65536} (flags : BitVec 8) (payload : List Byte) (ready : s.txReady c = true)
    (ahead : ∀ k, k < c → s.txReady k = false) (unknown : s.lookup s.ring s.flowNode flow.val = none) :
    execTxDescriptorFetch c flow flags payload s = .next (((s.bump 0x2150 0x15).bump (0x8530 + c.val) 9).ringDone
      (Fin.ofNat 8 c.val) (flags.toNat.testBit 0)) := by
  refine congrArg done ((if_neg (by simp [ready, noneReadyAhead ahead])).trans ?_)
  simp only [unknown]
  rfl

theorem execRxDescriptorWrite_delivers (addr : BitVec 64) {f : QFrame} {d : Desc} {l : List QFrame} (ready : s.rxReady c = true)
    (ahead : ∀ k, k < c → s.rxReady k = false) (first : (s.egress .bl2).local_[c.val] = f :: l) (entry : f.entry = some d) :
    execRxDescriptorWrite c addr s = .next (
      let r : Fin 8 := Fin.ofNat 8 (4 + c.val)
      let data := headerBytes f.hdr ++ f.payload
      let t := ((s.updEgress .bl2 fun g => { g with local_ := g.local_.set c l }).chargeQueue .bl2 ⟨c, false⟩ f).emit
        (.dma addr.toNat data)
      let u := t.emit (.dma (s.val (0x8534 + c.val) 2 + 16 * s.host.rings[r].head + 8)
        (leBytes 2 data.length ++ leBytes 1 1 ++ leBytes 1 0 ++ leBytes 2 d.entry ++ leBytes 2 0))
      (((u.freeCells f).noteDrain .bl2).bump (0x8534 + c.val) 8).ringDone r false) := by
  refine congrArg done ((if_neg (by simp [ready, noneReadyAhead ahead])).trans ?_)
  simp only [Fin.getElem_fin, first, entry]

theorem execDmaFault_live {r : Fin 8} (addr : BitVec 64) (live : s.ringLive r = true) : execDmaFault r addr s = .next (
    ((((s.setFlag (0x8530 + r.val) 1 false).bump 0x8500 7).raise 0x1B 2 contained
      (2 ^ 48 * r.val + addr.toNat % 2 ^ 48)).hostDrain)) :=
  congrArg done (if_neg (by simp [live]))

end Ring

/-! ### Resets and the link (R301, R309) -/

section Link

variable (pcie : s.pcieMode = true)
include pcie

theorem execHostReset_perst : execHostReset (.perst true) s = .next (
    (((State.setVal { s.resetHost with host := { s.resetHost.host with perst := true } } 0x8500 2 1).setVal
      0x8500 3 0).hostDrain).powerCheck) :=
  congrArg done (if_neg (by simp [pcie]))

theorem execHostLinkDown_up (up : 3 ≤ s.val 0x8500 2) : execHostLinkDown s = .next
    (((s.setVal 0x8500 2 2).setVal 0x8500 3 0).raise 0x1B 1 contained (packArg [i16 2])) :=
  congrArg done (if_pos (by simp [pcie, up]))

variable (released : s.host.perst = false)
include released

theorem execHostReset_flr : execHostReset .flr s = .next (s.resetHost.bump 0x8500 5).hostDrain :=
  congrArg done ((if_neg (by simp [pcie])).trans (if_neg (by simp [released])))

theorem execHostLinkUp_trained (speed : Fin 3) (busMaster : Bool) (training : s.val 0x8500 2 = 2) (joined : s.isolated 5 = false) :
    execHostLinkUp speed busMaster s =
      .next (((s.setVal 0x8500 2 3).setVal 0x8500 3 (speed.val + 1)).setFlag 0x8500 4 busMaster) :=
  congrArg done (if_pos (by simp [pcie, released, training, joined]))

end Link

/-- Settles O24: an access by whether the host reaches the hub and what it names, a ring by whether it is ready and its turn has come, a
reset and a change of the link by the link's state. -/
theorem hostLink : Obligations.HostLink := by
  unfold Obligations.HostLink
  refine ⟨?tail, ?tailDead, fun offset len tag s => execBar2Read_asks offset len tag,
    fun offset len tag s => execBar2Read_miss offset len tag, ?posted, ?acked, ?pageRead, ?pageWrite,
    fun tag bytes s => execHostWindowAccess_tail tag, fun tag len s => execHostWindowAccess_hole tag,
    fun c flow flags payload s => execTxDescriptorFetch_unknownFlow flags payload,
    fun c addr f d l s => execRxDescriptorWrite_delivers addr, fun r s due => congrArg done (s.onDue_of_due _ _ due),
    fun r addr s => execDmaFault_live addr, fun s => execHostReset_perst, fun s => execHostReset_flr,
    fun speed bm s pcie released => execHostLinkUp_trained pcie released speed bm, fun s => execHostLinkDown_up⟩
  case tail => exact fun r value s live => congrArg done (if_pos live)
  case tailDead => exact fun r value s dead => congrArg done (if_neg (by simp [dead]))
  case posted =>
    intro offset bytes tag s live on posted
    exact (execBar2Write_asks offset tag bytes live on).trans (congrArg done (if_pos posted))
  case acked =>
    intro offset bytes tag s live on acked
    exact (execBar2Write_asks offset tag bytes live on).trans (congrArg done (if_neg acked))
  case pageRead => exact fun page offset tag len s live => congrArg done (if_neg (by simp [live]))
  case pageWrite => exact fun page offset tag bytes s live => congrArg done (if_neg (by simp [live]))

end Sys2Proof.Machine
end

section
/-!
RS-485 transmit slots (R354 to R356, R358, R359): what a request, a cancel and a delivery make of a slot by its status, and what
a frame that starts, ends or collides leaves of the port.
-/

namespace Sys2Proof.Machine

variable {s : State} {n : Fin 8}

/-! ### The ports and their slots -/

@[simp] theorem State.serPort_updSer_self (s : State) (n : Fin 8) (f : SerPort → SerPort) :
    (s.updSer n f).serPort n = f (s.serPort n) := by
  simp [State.serPort, State.updSer, State.setSer]

@[simp] theorem State.serPort_setSer_self (s : State) (n : Fin 8) (p : SerPort) : (s.setSer n p).serPort n = p := by
  simp [State.serPort, State.setSer]

@[simp] theorem SerPort.slots_upd_self (p : SerPort) (b : Fin 4) (f : SerSlot → SerSlot) : (p.upd b f).slots[b] = f p.slots[b] := by
  simp [SerPort.upd]

/-! ### The control words (R354 to R356) -/

section Slot

variable {b : Fin 4}

theorem State.serLenOk_iff {len : Nat} :
    s.serLenOk n len = true ↔ 0 < len ∧ len ≤ 2048 ∧ (s.nineBit n = true → len % 2 = 0) := by
  cases nine : s.nineBit n <;> simp [State.serLenOk, nine, and_assoc]

/-- A length that no slot may send: nothing, more than the slot's 2048 bytes, or half a character. -/
theorem State.serLenOk_eq_false_iff {len : Nat} :
    s.serLenOk n len = false ↔ len = 0 ∨ 2048 < len ∨ s.nineBit n = true ∧ len % 2 = 1 := by
  rw [← Bool.not_eq_true, State.serLenOk_iff]
  cases s.nineBit n with
  | false => simp; omega
  | true => simp; omega

section Request

variable (notPending : (s.serPort n).slots[b].status ≠ 1) (notActive : (s.serPort n).slots[b].status ≠ 2)
include notPending notActive

theorem State.requestSlot_held (owner : Option MasterId) (ok : s.serLenOk n (s.serPort n).slots[b].len = true) :
    s.requestSlot n owner b = s.updSer n fun p =>
      { (p.upd b fun x => { x with status := 1, order := p.next, owner := owner }) with next := p.next + 1 } :=
  (if_neg (by simpa using ⟨notPending, notActive⟩)).trans (if_pos ok)

theorem State.requestSlot_invalid (owner : Option MasterId) (bad : s.serLenOk n (s.serPort n).slots[b].len = false) :
    s.requestSlot n owner b = (s.updSer n fun p => { p with txInvalid := (p.txInvalid + 1) % 2 ^ 32 }).finishSlot n b 7 :=
  (if_neg (by simpa using ⟨notPending, notActive⟩)).trans (if_neg (Bool.eq_false_iff.1 bad))

/-- A cancel finds a slot that holds no request. -/
theorem State.cancelSlot_idle : s.cancelSlot n b = s := by
  unfold State.cancelSlot
  split
  case h_1 pending => exact absurd pending notPending
  case h_2 active => exact absurd active notActive
  case h_3 => rfl

end Request

theorem State.cancelSlot_pending (pending : (s.serPort n).slots[b].status = 1) : s.cancelSlot n b = s.finishSlot n b 5 := by
  unfold State.cancelSlot
  rw [pending]
  rfl

theorem State.cancelSlot_active (active : (s.serPort n).slots[b].status = 2) :
    s.cancelSlot n b = s.updSer n fun p => p.upd b fun x => { x with cancel := true } := by
  unfold State.cancelSlot
  rw [active]
  rfl

end Slot

/-! ### Deliveries (R356) -/

section Deliver

variable {b : Fin 4} {p : List Byte}

theorem execSerDeliver_refused (bad : p.length < 17 ∨ 2064 < p.length) : execSerDeliver n b p s = .next (s.serCount n 0xC) := by
  have refused : s.serLenOk n (p.drop 16).length = false := by
    rw [State.serLenOk_eq_false_iff, List.length_drop]
    omega
  exact congrArg done (if_pos (by rw [refused]; rfl))

variable (header : 17 ≤ p.length) (fits : p.length ≤ 2064) (eightBit : s.nineBit n = false)
include header fits eightBit

theorem State.serLenOk_payload : s.serLenOk n (p.drop 16).length = true := by
  rw [State.serLenOk_iff, List.length_drop, eightBit]
  exact ⟨by omega, by omega, by simp⟩

theorem execSerDeliver_held (notPending : (s.serPort n).slots[b].status ≠ 1) (notActive : (s.serPort n).slots[b].status ≠ 2) :
    execSerDeliver n b p s = .next (s.updSer n fun q => { (q.upd b fun y =>
      { y with img := leNat (p.drop 16), len := p.length - 16, status := 1, order := q.next, owner := none }) with
      next := q.next + 1 }) := by
  have sendable := State.serLenOk_payload header fits eightBit
  rw [← List.length_drop]
  exact congrArg done ((if_neg (by rw [sendable]; decide)).trans ((if_neg notActive).trans
    (congrArg (fun t : State => t.updSer n _) (if_neg notPending))))

theorem execSerDeliver_shadowed (active : (s.serPort n).slots[b].status = 2) (noShadow : (s.serPort n).slots[b].shadow = none) :
    execSerDeliver n b p s = .next (s.updSer n fun q => q.upd b fun y => { y with shadow := some (p.drop 16) }) := by
  have sendable := State.serLenOk_payload header fits eightBit
  exact congrArg done ((if_neg (by rw [sendable]; decide)).trans ((if_pos active).trans
    (congrArg (fun t : State => t.updSer n _) (if_neg (by simpa using noShadow)))))

end Deliver

/-! ### A frame is started (R354, R358, R359) -/

section Start

variable {b : Fin 4}

theorem State.serMaySend_iff : s.serMaySend n = true ↔ (s.lineState n = 1 ∨ s.lineState n = 2) ∧ s.serCfg n 4 = 0 := by
  simp [State.serMaySend]

theorem execSerTxStart_fullDuplex (full : s.halfDuplex n = false) (may : s.serMaySend n = true) (first : s.serNext n = some (.slot b)) :
    execSerTxStart n s = .next ((s.updSer n fun p =>
      SerPort.upd { p with active := some (.slot b) } b fun x => { x with status := 2, stamp := s.nowNs }).serSettle n) := by
  simp [execSerTxStart, full, may, first, done]

/-- On a half-duplex line the gap has passed, and the driver leads the first start bit. -/
theorem execSerTxStart_halfDuplex {t : State} (half : s.halfDuplex n = true)
    (quiet : t = (s.updSer n fun p => { p with receiving := false }).serSettle n) (stillHalf : t.halfDuplex n = true)
    (may : t.serMaySend n = true) (first : t.serNext n = some (.slot b)) :
    execSerTxStart n s = .next ((t.updSer n fun p =>
      SerPort.upd { p with active := some (.slot b) } b fun x => { x with
        status := 2, stamp := t.nowNs + 1000000000 * t.serFrm n 8 / max 1 (t.serFrm n 2) }).serSettle n) := by
  simp [execSerTxStart, half, ← quiet, stillHalf, may, first, done]

theorem execSerTxStart_idle (full : s.halfDuplex n = false) (idle : s.serMaySend n = false ∨ s.serNext n = none) :
    execSerTxStart n s = .next s := by
  rcases idle with held | empty
  · simp [execSerTxStart, full, held, done]
  · simp [execSerTxStart, full, empty, done]

end Start

/-! ### A frame ends (R354, R355) -/

section End

variable {b : Fin 4} (sending : (s.serPort n).active = some (.slot b))
include sending

theorem State.serSending_slot : s.serSending n = (s.serPort n).slots[b].bytes := by
  simp [State.serSending, sending]

/-- The frame has left the line whole, and its slot is not yet finished. -/
def State.frameSent (s : State) (n : Fin 8) (b : Fin 4) : State :=
  ((s.drive (.bus (8 + n.val) (s.serPort n).slots[b].bytes)).serCount n 3).updSer n fun p =>
    { p with active := none, trailing := s.halfDuplex n }

/-- The frame has stopped after character `k`, and its slot is not yet finished. -/
def State.frameCut (s : State) (n : Fin 8) (b : Fin 4) (k : Nat) : State :=
  (((s.drive (.bus (8 + n.val)
    ((s.serPort n).slots[b].bytes.take (if s.nineBit n then 2 * (k + 1) else k + 1)))).serCount n 9).raise
    (0x48 + n.val) 2 corrected (packArg [i16 n.val, i16 b.val])).updSer n fun p => { p with active := none, trailing := true }

theorem execSerTxSent_kept (kept : (s.serPort n).slots[b].cancel = false) :
    execSerTxSent n s = .next (((s.frameSent n b).finishSlot n b 3).serSettle n) := by
  unfold execSerTxSent
  rw [State.serSending_slot sending, sending]
  exact congrArg (fun t : State => done (t.serSettle n)) (if_neg (by rw [kept]; exact Bool.false_ne_true))

theorem execSerTxSent_cancelled (cancelled : (s.serPort n).slots[b].cancel = true) :
    execSerTxSent n s = .next ((((s.frameSent n b).serCount n 0xA).finishSlot n b 4).serSettle n) := by
  unfold execSerTxSent
  rw [State.serSending_slot sending, sending]
  exact congrArg (fun t : State => done (t.serSettle n)) (if_pos cancelled)

/-- A slot that was cancelled ends as cancelled where its frame collides. -/
theorem execSerCollision_slot (k : Nat) (half : s.halfDuplex n = true) : execSerCollision n k s = .next (
    ((s.frameCut n b k).finishSlot n b (if (s.serPort n).slots[b].cancel then 5 else 8)).serSettle n) := by
  unfold execSerCollision
  rw [State.serSending_slot sending, sending]
  exact congrArg done (if_neg (by simp [half]))

end End

theorem execSerDriverRelease_trailing (trailing : (s.serPort n).trailing = true) :
    execSerDriverRelease n s = .next ((s.updSer n fun p => { p with trailing := false }).serSettle n) :=
  congrArg done (if_pos trailing)

/-- Settles O29: a control word is its operation by definition, a slot answers by its status and length, and a frame starts and ends
by the duplex of its line. -/
theorem serialSlots : Obligations.SerialSlots := by
  unfold Obligations.SerialSlots
  refine ⟨fun rq n m s => rfl, fun rq n m s => rfl, fun rq n m s => rfl, fun rq n v s => rfl, ?held, ?invalid,
    fun n b s => State.cancelSlot_pending, fun n b s => State.cancelSlot_active, fun n b s => State.cancelSlot_idle,
    fun n b p s => execSerDeliver_refused, fun n b p s => execSerDeliver_held, fun n b p s => execSerDeliver_shadowed, ?full,
    fun n b t s => execSerTxStart_halfDuplex, ?idle, fun n b s => execSerTxSent_kept, ?collided, fun n s => execSerDriverRelease_trailing⟩
  case held =>
    intro n owner b s notPending notActive some_ fits whole
    rw [State.requestSlot_held notPending notActive owner (State.serLenOk_iff.2 ⟨some_, fits, whole⟩)]
    exact State.serPort_updSer_self ..
  case invalid =>
    exact fun n owner b s notPending notActive bad =>
      State.requestSlot_invalid notPending notActive owner (State.serLenOk_eq_false_iff.2 bad)
  case full =>
    exact fun n b s line mode first full => execSerTxStart_fullDuplex full (State.serMaySend_iff.2 ⟨.inl line, mode⟩) first
  case idle =>
    intro n s full held
    refine execSerTxStart_idle full ?_
    rw [← Bool.not_eq_true, State.serMaySend_iff]
    rcases held with ⟨notIdle, notReceiving⟩ | receiveOnly | empty
    · exact .inl fun may => may.1.elim notIdle notReceiving
    · exact .inl fun may => by simp [receiveOnly] at may
    · exact .inr empty
  case collided =>
    intro n b k s sending half eightBit
    refine (execSerCollision_slot sending k half).trans ?_
    rw [State.frameCut, eightBit]
    rfl

end Sys2Proof.Machine
end

section
/-!
Cancels of RS-485 slots (R355), from the request's slot to the end of its frame: what a finished slot shows, and what stays of it
as the port settles (R357).
-/

namespace Sys2Proof.Machine

variable {s : State} {n : Fin 8} {b : Fin 4}

/-! ### What leaves the ports as they are -/

@[simp] theorem State.drive_ser (s : State) (e : Emission) : (s.drive e).ser = s.ser := by
  obtain ⟨out, driven⟩ := s.drive_eq e
  rw [driven]

@[simp] theorem State.raise_ser (s : State) (source kind cls arg : Nat) : (s.raise source kind cls arg).ser = s.ser := by
  obtain ⟨_, _, _, _, raised⟩ := s.raise_eq source kind cls arg
  rw [raised]

theorem State.serPort_congr {t : State} (same : t.ser = s.ser) (n : Fin 8) : t.serPort n = s.serPort n := by
  unfold State.serPort
  simp only [same]

@[simp] theorem State.serPort_drive (s : State) (e : Emission) (n : Fin 8) : (s.drive e).serPort n = s.serPort n :=
  State.serPort_congr (State.drive_ser s e) n

@[simp] theorem State.serPort_raise (s : State) (source kind cls arg : Nat) (n : Fin 8) :
    (s.raise source kind cls arg).serPort n = s.serPort n := State.serPort_congr (State.raise_ser s source kind cls arg) n

@[simp] theorem State.serPort_addVal (s : State) (i j v : Nat) (n : Fin 8) : (s.addVal i j v).serPort n = s.serPort n := rfl
@[simp] theorem State.serPort_serCount (s : State) (m : Fin 8) (j : Nat) (n : Fin 8) : (s.serCount m j).serPort n = s.serPort n := rfl

/-! ### A set that waits leaves the ports as they are (R47, R357) -/

@[simp] theorem State.noteSave_ser (s : State) : s.noteSave.ser = s.ser := by
  unfold State.noteSave
  dsimp only
  split <;> split <;> rfl

@[simp] theorem State.storeSet_ser (s : State) (set : List (Nat × Nat)) : (s.storeSet set).ser = s.ser :=
  List.foldlRecOn (motive := fun t : State => t.ser = s.ser) set _ rfl fun _ same _ _ => same

@[simp] theorem State.applySet_ser (s : State) (g : Nat) : (s.applySet g).ser = s.ser := by
  unfold State.applySet
  split
  case h_1 => rfl
  case h_2 =>
    dsimp only
    split
    · exact (State.noteSave_ser _).trans (State.storeSet_ser ..)
    · exact State.storeSet_ser ..

theorem State.applySet_of_none {g : Nat} (noSet : (s.group g).pending = none) : s.applySet g = s := by
  unfold State.applySet
  rw [noSet]

@[simp] theorem State.serPort_serSettle (s : State) (n m : Fin 8) : (s.serSettle n).serPort m = s.serPort m := by
  refine State.serPort_congr ?_ m
  unfold State.serSettle
  dsimp only
  rw [State.setVal_ser]
  split
  · exact State.applySet_ser ..
  · rfl

/-- With no set waiting, a port that settles changes nothing but LINE_STATE. -/
theorem State.serSettle_of_none (noSet : (s.group (0x4110 + n.val)).pending = none) :
    s.serSettle n = s.setVal (0x4118 + n.val) 1 (s.lineState n) := by
  unfold State.serSettle
  dsimp only
  rw [State.applySet_of_none noSet, ite_self]

/-! ### A slot at its final status (R354 to R356) -/

theorem State.slots_finishSlot (status : Nat) (noShadow : (s.serPort n).slots[b].shadow = none) :
    ((s.finishSlot n b status).serPort n).slots[b] = { (s.serPort n).slots[b] with status := status, cancel := false } := by
  have kept : ((s.serPort n).upd b fun x => { x with status := status, cancel := false }).slots[b].shadow = none := by
    rw [SerPort.slots_upd_self]
    exact noShadow
  rw [State.finishSlot, State.serPort_updSer_self]
  dsimp only
  simp only [kept]
  exact SerPort.slots_upd_self ..

theorem State.val_finishSlot (s : State) (n : Fin 8) (b : Fin 4) (status i j : Nat) : (s.finishSlot n b status).val i j = s.val i j :=
  rfl

theorem State.group_finishSlot (s : State) (n : Fin 8) (b : Fin 4) (status g : Nat) : (s.finishSlot n b status).group g = s.group g :=
  rfl

theorem State.group_serCount (s : State) (n : Fin 8) (j g : Nat) : (s.serCount n j).group g = s.group g := rfl

@[simp] theorem State.slots_frameSent (s : State) (n : Fin 8) (b : Fin 4) :
    ((s.frameSent n b).serPort n).slots = (s.serPort n).slots := by
  simp [State.frameSent]

@[simp] theorem State.slots_frameCut (s : State) (n : Fin 8) (b : Fin 4) (k : Nat) :
    ((s.frameCut n b k).serPort n).slots = (s.serPort n).slots := by
  simp [State.frameCut]

/-- The counters of SER_STATUS are 32 bits wide. -/
theorem objBits_serCancelsLate (n : Fin 8) : objBits (objKey (0x4118 + n.val) 0xA) = 32 := by revert n; decide

/-- A late cancel is counted once, whatever else the end of its frame counts. -/
theorem State.val_frameSent_cancelsLate (s : State) (n : Fin 8) (b : Fin 4) :
    ((s.frameSent n b).serCount n 0xA).val (0x4118 + n.val) 0xA = (s.val (0x4118 + n.val) 0xA + 1) % 2 ^ 32 := by
  have before : (s.frameSent n b).val (0x4118 + n.val) 0xA = s.val (0x4118 + n.val) 0xA :=
    (State.val_setVal_of_ne _ _ (by simp [objKey])).trans (State.val_congr (State.objs_drive ..) ..)
  rw [State.serCount, State.bump, State.addVal, State.val_setVal_self, objBits_serCancelsLate, before]

theorem State.group_frameSent (s : State) (n : Fin 8) (b : Fin 4) (g : Nat) : (s.frameSent n b).group g = s.group g := by
  obtain ⟨out, driven⟩ := s.drive_eq (.bus (8 + n.val) (s.serPort n).slots[b].bytes)
  rw [State.frameSent, driven]
  rfl

/-! ### The end of a frame whose slot was cancelled -/

section Late

variable (sending : (s.serPort n).active = some (.slot b)) (cancelled : (s.serPort n).slots[b].cancel = true)
  (noShadow : (s.serPort n).slots[b].shadow = none)
include sending cancelled noShadow

theorem execSerTxSent_late (noSet : (s.group (0x4110 + n.val)).pending = none) :
    Runs (.serTxSent n) s fun t => (t.serPort n).slots[b].status = 4 ∧
      t.val (0x4118 + n.val) 0xA = (s.val (0x4118 + n.val) 0xA + 1) % 2 ^ 32 := by
  refine ⟨_, execSerTxSent_cancelled sending cancelled, ?_, ?_⟩
  · rw [State.serPort_serSettle, State.slots_finishSlot]
    simpa using noShadow
  · rw [State.serSettle_of_none]
    · rw [State.val_setVal_of_ne _ _ (by simp [objKey]), State.val_finishSlot, State.val_frameSent_cancelsLate]
    · rw [State.group_finishSlot, State.group_serCount, State.group_frameSent]
      exact noSet

theorem execSerCollision_cancelled (k : Nat) (half : s.halfDuplex n = true) :
    Runs (.serCollision n k) s fun t => (t.serPort n).slots[b].status = 5 := by
  have collided := execSerCollision_slot sending k half
  rw [if_pos cancelled] at collided
  refine ⟨_, collided, ?_⟩
  beta_reduce
  rw [State.serPort_serSettle, State.slots_finishSlot]
  simpa using noShadow

end Late

/-- Settles O51: a cancel by the status it finds, then a slot cancelled while ACTIVE by how its frame ends. -/
theorem serialCancellation : Obligations.SerialCancellation := by
  unfold Obligations.SerialCancellation
  refine ⟨?pending, ?active, fun n b s => execSerTxSent_late, fun n b k s sending cancelled noShadow =>
    execSerCollision_cancelled sending cancelled noShadow k, ?empty, ?final⟩
  case pending =>
    intro n b s pending noShadow
    rw [State.cancelSlot_pending pending]
    exact congrArg SerSlot.status (State.slots_finishSlot 5 noShadow)
  case active =>
    intro n b s active
    rw [State.cancelSlot_active active, State.serPort_updSer_self]
    have slot := SerPort.slots_upd_self (s.serPort n) b fun x => { x with cancel := true }
    exact ⟨(congrArg SerSlot.status slot).trans active, congrArg SerSlot.cancel slot, rfl⟩
  case empty =>
    intro n b s empty
    exact State.cancelSlot_idle (fun pending => absurd (empty.symm.trans pending) (by decide))
      fun active => absurd (empty.symm.trans active) (by decide)
  case final =>
    intro n b s final
    exact State.cancelSlot_idle (fun pending => absurd (pending ▸ final) (by decide))
      fun active => absurd (active ▸ final) (by decide)

end Sys2Proof.Machine
end

section
/-!
Reception on the RS-485 ports (R352, R353): a frame by whether the port hears it, whom it addresses and what room its queue has.
-/

namespace Sys2Proof.Machine

variable {s : State} {n : Fin 8}

/-! ### Characters as stored -/

theorem length_serBytes (nine : Bool) (l : List (BitVec 9)) : (serBytes nine l).length = (if nine then 2 else 1) * l.length := by
  induction l with
  | nil => simp [serBytes]
  | cons c l ih =>
    have stored : serBytes nine (c :: l) = (if nine then beBytes 2 c.toNat else beBytes 1 c.toNat) ++ serBytes nine l := by
      simp [serBytes]
    rw [stored, List.length_append, ih, List.length_cons]
    cases nine with
    | false => simp [Nat.add_comm]
    | true => simp [Nat.mul_add, Nat.add_comm]

/-! ### A frame without errors is counted and numbered -/

/-- The counters of parity and framing errors, once a frame without any has ended. -/
def State.serClean (s : State) (n : Fin 8) : State := (s.addVal (0x4118 + n.val) 4 0).addVal (0x4118 + n.val) 5 0

/-- The frame is counted and has its number, and is not yet anywhere. -/
def State.serTaken (s : State) (n : Fin 8) : State :=
  ((s.serClean n).serCount n 2).updSer n fun p => { p with seq := (p.seq + 1) % 65536 }

theorem State.serPort_serTaken (s : State) (n : Fin 8) :
    (s.serTaken n).serPort n = { s.serPort n with seq := ((s.serPort n).seq + 1) % 65536 } :=
  State.serPort_updSer_self ..

/-- No object of SER_STATUS tells whether and how a port hears its line. -/
theorem State.lineState_serClean (s : State) (n : Fin 8) : (s.serClean n).lineState n = s.lineState n := by
  have other {i j : Nat} (hi : i < 0x4118 ∨ 0x4120 ≤ i) (hj : j < 256) : (s.serClean n).val i j = s.val i j :=
    (State.val_setVal_of_ne _ _ (by unfold objKey; omega)).trans (State.val_setVal_of_ne _ _ (by unfold objKey; omega))
  have cfg : (s.serClean n).serCfg n 1 = s.serCfg n 1 := other (.inl (by omega)) (by decide)
  have isolated : (s.serClean n).isolated (16 + n.val) = s.isolated (16 + n.val) :=
    congrArg (·.testBit (16 + n.val)) (other (.inr (by decide)) (by decide))
  have safe : (s.serClean n).safe = s.safe := congrArg (· == 1) (other (.inr (by decide)) (by decide))
  have role : (s.serClean n).val 0x8110 1 = s.val 0x8110 1 := other (.inr (by decide)) (by decide)
  have drives : (s.serClean n).drives = s.drives := by
    unfold State.drives
    rw [role]
    rfl
  have port : (s.serClean n).serPort n = s.serPort n := rfl
  simp only [State.lineState, cfg, isolated, safe, drives, port]

/-- Only a duplex standby looks for its own frames on the line. -/
theorem State.serSeen_of_notStandby (data : List Byte) (ns : Nat) (line : s.lineState n = 1) : s.serSeen n data ns = none :=
  if_pos (by simp [line])

theorem State.serReceive_off (l : List (BitVec 9)) (parity framing ns : Nat) (brk : Bool) (off : s.serCfg n 1 = 0) :
    s.serReceive n l parity framing ns brk = s :=
  if_pos (by simp [off])

/-! ### A frame that the port hears -/

section Heard

variable {l : List (BitVec 9)} {ns : Nat} (on : s.serCfg n 1 ≠ 0) (joined : s.isolated (16 + n.val) = false)
  (line : s.lineState n = 1)
include on joined line

/-- The first character names no address of this hub (R353). -/
theorem State.serReceive_skipped {c : BitVec 9} (nineBit : s.nineBit n = true) (filtered : s.serFrm n 6 = 1)
    (addressed : s.serCfg n 7 ≠ 0xFFFF) (noAddress : c.toNat.testBit 8 = false) (fits : l.length < 4096) :
    s.serReceive n (c :: l) 0 0 ns false = (s.serClean n).serCount n 0xD := by
  have short : ¬ 8192 < (serBytes true (c :: l)).length := by
    rw [length_serBytes, List.length_cons, if_pos rfl]
    omega
  simp [State.serReceive, on, joined, line, nineBit, short, filtered, addressed, noAddress, State.serClean]

section Queue

variable (eightBit : s.nineBit n = false) (unfiltered : s.serFrm n 6 = 0) (toQueue : s.serCfg n 5 = 1) (fits : l.length ≤ 8192)
include eightBit unfiltered toQueue fits

theorem State.serReceive_toQueue : s.serReceive n l 0 0 ns false =
    if 32 ≤ (s.serPort n).rx.length ∨ 8192 < ((s.serPort n).rx.map fun r => r.data.length).sum + l.length then
      ((s.serTaken n).serCount n 7).raise (0x48 + n.val) 1 corrected (packArg [i16 n.val])
    else (s.serTaken n).setSer n { (s.serTaken n).serPort n with
      rx := (s.serPort n).rx ++ [⟨serBytes false l, if ns < (s.serPort n).cutAt then 16 else 0, ns⟩] } := by
  have length : (serBytes false l).length = l.length := by simp [length_serBytes]
  have whole : (serBytes false l).take 8192 = serBytes false l := List.take_of_length_le (by omega)
  have unseen : ((s.addVal (0x4118 + n.val) 4 0).addVal (0x4118 + n.val) 5 0).serSeen n (serBytes false l) ns = none :=
    State.serSeen_of_notStandby _ _ ((s.lineState_serClean n).trans line)
  obtain ⟨noFlow, noTunnel⟩ : Nat.testBit 1 1 = false ∧ Nat.testBit 1 2 = false := by decide
  simp [State.serReceive, State.serTaken, State.serClean, on, joined, line, eightBit, fits.not_gt, unfiltered, toQueue, noFlow,
    noTunnel, whole, unseen, length]

theorem State.serReceive_queued (uncut : (s.serPort n).cutAt ≤ ns) (slotFree : (s.serPort n).rx.length < 32)
    (bytesFree : ((s.serPort n).rx.map fun r => r.data.length).sum + l.length ≤ 8192) :
    (s.serReceive n l 0 0 ns false).serPort n = { s.serPort n with
      rx := (s.serPort n).rx ++ [⟨serBytes false l, 0, ns⟩]
      seq := ((s.serPort n).seq + 1) % 65536 } := by
  rw [State.serReceive_toQueue on joined line eightBit unfiltered toQueue fits,
    if_neg (not_or.2 ⟨slotFree.not_ge, bytesFree.not_gt⟩), if_neg uncut.not_gt, State.serPort_setSer_self, State.serPort_serTaken]

theorem State.serReceive_overrun (full : (s.serPort n).rx.length = 32) : s.serReceive n l 0 0 ns false =
    ((s.serTaken n).serCount n 7).raise (0x48 + n.val) 1 corrected (packArg [i16 n.val]) := by
  rw [State.serReceive_toQueue on joined line eightBit unfiltered toQueue fits, if_pos (.inl full.ge)]

end Queue

end Heard

/-- Settles O30: a frame received by definition, then by whether the port is on, by its address and by the room in the queue. -/
theorem serialReception : Obligations.SerialReception := by
  unfold Obligations.SerialReception
  refine ⟨fun n l p f ns s => rfl, fun n l p f ns s => rfl, fun n l p f ns brk s => State.serReceive_off l p f ns brk, ?queued,
    fun n l ns s => State.serReceive_overrun, fun n c l ns s on joined line => State.serReceive_skipped on joined line⟩
  case queued =>
    intro n l ns s on joined line eightBit unfiltered toQueue fits slotFree uncut bytesFree
    rw [State.serReceive_queued on joined line eightBit unfiltered toQueue fits uncut slotFree bytesFree]
    exact ⟨rfl, rfl, rfl⟩

end Sys2Proof.Machine
end

section
/-!
SDCI ports (R361 to R368, R383): process data and events of an M-sequence, deliveries, ISDUs by the one in progress, and what is lost,
tried again and tripped.
-/

namespace Sys2Proof.Machine

variable {s : State} {n : Fin 8}

/-! ### The ports -/

@[simp] theorem State.sdciPort_setSdci_self (s : State) (n : Fin 8) (p : SdciPort) : (s.setSdci n p).sdciPort n = p := by
  simp [State.sdciPort, State.setSdci]

@[simp] theorem State.sdciPort_updSdci_self (s : State) (n : Fin 8) (f : SdciPort → SdciPort) :
    (s.updSdci n f).sdciPort n = f (s.sdciPort n) := State.sdciPort_setSdci_self ..

@[simp] theorem State.sdciPort_sdciCount (s : State) (n m : Fin 8) (j : Nat) : (s.sdciCount m j).sdciPort n = s.sdciPort n := rfl

/-! ### M-sequences (R363, R365) -/

theorem execMSequenceStart_operate (operate : s.sdciState n = 6) (drives : s.drives = true) : execMSequenceStart n s = .next
    ((s.setSdci n { s.sdciPort n with taken := some ((s.sdciPort n).pdOut, (s.sdciPort n).outValid && !s.safe) }).drive
      (.bus (16 + n.val) (leBytes (s.sdciStat n 7) (s.sdciPort n).pdOut ++
        [if (s.sdciPort n).outValid && !s.safe then 1#8 else 0#8]))) :=
  congrArg done ((if_pos (by simp [operate])).trans (if_pos (by simp [operate, drives])))

theorem execMSequenceStart_lost (lost : s.sdciState n = 7) : execMSequenceStart n s = .next s :=
  congrArg done (if_neg (by simp [lost]))

/-- With PD_FLOW_MODE 0 process data comes into the port and no further. -/
theorem State.takePdIn_noFlow (data : Nat) (valid cyclic : Bool) (ns : Nat) (noFlow : s.sdciSet n 3 = 0) :
    s.takePdIn n data valid cyclic ns = s.setSdci n { s.sdciPort n with pdIn := data, inValid := valid, inNs := ns } :=
  if_neg (by simp [noFlow])

/-! ### The event log (R365) -/

/-- No object of SDCI_STATUS binds a tunnel endpoint. -/
theorem State.val_endpoint_logEvent (s : State) (n : Fin 8) (qualifier flags code node ns : Nat) (k : Fin 32) {j : Nat} (hj : j < 256) :
    (s.logEvent n qualifier flags code node ns).val (0x8200 + k.val) j = s.val (0x8200 + k.val) j := by
  have counted {t : State} {c : Nat} (hc : c < 256) : (t.sdciCount n c).val (0x8200 + k.val) j = t.val (0x8200 + k.val) j :=
    State.val_setVal_of_ne _ _ (by unfold objKey; omega)
  unfold State.logEvent
  dsimp only
  split
  · exact counted (by decide)
  · exact counted (by decide)

theorem State.endpointOf_logEvent (s : State) (n : Fin 8) (qualifier flags code node ns kind port : Nat) :
    (s.logEvent n qualifier flags code node ns).endpointOf kind port = s.endpointOf kind port := by
  simp [State.endpointOf, State.val_endpoint_logEvent]

theorem State.log_logEvent (qualifier flags code node ns : Nat) (room : (s.sdciPort n).log.length < 16) :
    ((s.logEvent n qualifier flags code node ns).sdciPort n).log = (s.sdciPort n).log ++ [leNat (leBytes 4 (ns % 1000000000) ++
      leBytes 6 (ns / 1000000000) ++ leBytes 1 qualifier ++ leBytes 1 flags ++ leBytes 2 code ++ leBytes 2 node)] := by
  unfold State.logEvent
  rw [if_neg room.not_ge]
  exact congrArg SdciPort.log (State.sdciPort_setSdci_self ..)

theorem State.restart_logEvent (s : State) (n : Fin 8) (qualifier flags code node ns : Nat) :
    ((s.logEvent n qualifier flags code node ns).sdciPort n).restart = (s.sdciPort n).restart := by
  unfold State.logEvent
  dsimp only
  split
  · rfl
  · rw [State.sdciPort_sdciCount, State.sdciPort_setSdci_self]

/-- An event of a device whose port has no tunnel endpoint goes to the log alone. -/
theorem State.sdciEvent_unbound (qualifier code ns : Nat) (unbound : s.endpointOf 3 n.val = none) :
    s.sdciEvent n qualifier false code ns = s.logEvent n qualifier 0 code 0 ns := by
  have stillUnbound := (s.endpointOf_logEvent n qualifier 0 code 0 ns 3 n.val).trans unbound
  simp [State.sdciEvent, stillUnbound]

section Operate

variable (operate : s.sdciState n = 6) (noRestart : (s.sdciPort n).restart = false)
include operate noRestart

theorem execMSequenceEnd_data (ns : Nat) (b : List Byte) (v : Bool) (noFlow : s.sdciSet n 3 = 0) :
    execMSequenceEnd n ns (some (b, v)) none none s = .next ((s.updSdci n fun p => { p with taken := none }).setSdci n
      { s.sdciPort n with taken := none, pdIn := leNat (b.take (s.sdciStat n 6)), inValid := v, inNs := ns }) := by
  have phase : s.sdciPhase n = 6 := (if_neg (by simp [operate])).trans operate
  have taken := State.takePdIn_noFlow (s := s.updSdci n fun p => { p with taken := none }) (n := n) (leNat (b.take (s.sdciStat n 6)))
    v true ns noFlow
  rw [State.sdciPort_updSdci_self] at taken
  simp [execMSequenceEnd, operate, phase, taken, noRestart, done]

theorem execMSequenceEnd_event (ns : Nat) (q : BitVec 8) (c : BitVec 16) (unbound : s.endpointOf 3 n.val = none) :
    execMSequenceEnd n ns none (some (q, c)) none s =
      .next ((s.updSdci n fun p => { p with taken := none }).logEvent n q.toNat 0 c.toNat 0 ns) := by
  have logged := State.sdciEvent_unbound (s := s.updSdci n fun p => { p with taken := none }) (n := n) q.toNat c.toNat ns unbound
  simp [execMSequenceEnd, operate, logged, State.restart_logEvent, noRestart, done]

end Operate

/-! ### Deliveries (R363, R368) -/

section Deliver

variable {p : List Byte}

theorem execPdOutDeliver_taken (notSafe : s.safe = false) (len : beAt p 12 1 = s.sdciStat n 7)
    (whole : p.length = 16 + s.sdciStat n 7) : execPdOutDeliver n p s = .next ((s.updSdci n fun q =>
      { q with pdOut := leNat (p.drop 16), outValid := (beAt p 11 1).testBit 0 }).syncCq n) :=
  congrArg done (if_neg (by simp [notSafe, len, whole]))

theorem execPdOutDeliver_discarded (bad : s.safe = true ∨ beAt p 12 1 ≠ s.sdciStat n 7) :
    execPdOutDeliver n p s = .next (s.sdciCount n 0xF) := by
  refine congrArg done (if_pos ?_)
  rcases bad with safe | len
  · simp [safe]
  · simp [len]

end Deliver

/-! ### ISDUs (R364) -/

section Isdu

theorem State.startIsdu_running (v : Nat) (running : (s.sdciPort n).isdu = 1) : s.startIsdu n v = (s, .inUse) := if_pos running

theorem State.startIsdu_read {v : Nat} (free : (s.sdciPort n).isdu ≠ 1) (operate : s.sdciState n = 6) (read : v.testBit 7 = false) :
    s.startIsdu n v = (((s.drive (.bus (16 + n.val) (beBytes 4 (v - v % 128)))).setSdci n { s.sdciPort n with
      isdu := 1, isduCmd := v - v % 128, isduLen := 0, isduErr := 0 }).arm (.isdu n) (secs 5), .ok) := by
  simp [State.startIsdu, free, operate, read]

variable (running : (s.sdciPort n).isdu = 1)
include running

theorem execIsduDone_error (e : BitVec 16) (d : List Byte) : execIsduDone n (some e) d s = .next
    ((s.updSdci n fun p => { p with isdu := 3, isduErr := e.toNat }).disarm (.isdu n)) := congrArg done (if_pos running)

theorem execIsduDone_response (d : List Byte) : execIsduDone n none d s = .next
    ((s.updSdci n fun p => { p with isdu := 2, isduLen := min 232 d.length, isduData := leNat (d.take 232) }).disarm (.isdu n)) :=
  congrArg done (if_pos running)

theorem execIsduTimeout_due (due : s.due (.isdu n) = true) : execIsduTimeout n s = .next
    ((s.disarm (.isdu n)).updSdci n fun p => { p with isdu := 4 }) :=
  congrArg done ((s.onDue_of_due _ _ due).trans (if_pos running))

end Isdu

/-! ### Loss of communication, trips of L+ and data storage (R361, R366, R367) -/

theorem State.abortIsdu_of_ne (free : (s.sdciPort n).isdu ≠ 1) : s.abortIsdu n = s := if_neg free

theorem execSdciCommLost_operate (operate : s.sdciState n = 6) (free : (s.sdciPort n).isdu ≠ 1) : execSdciCommLost n s = .next
    (((((((s.updSdci n fun p => { p with taken := none, inValid := false }).setSdciStat n 1 7).sdciCount n 0xB).raise
      (0x50 + n.val) 1 contained (packArg [i16 n.val])).masterEvent n 0xFF10)).arm (.sdciRetry n) (secs 1)) := by
  have aborted := State.abortIsdu_of_ne free
  simp [execSdciCommLost, operate, aborted, done]

theorem execSdciStartupRetry_lost (due : s.due (.sdciRetry n) = true) (lost : s.sdciState n = 7) :
    execSdciStartupRetry n s = .next ((s.disarm (.sdciRetry n)).setSdciStat n 1 4) :=
  congrArg done ((s.onDue_of_due _ _ due).trans (if_pos lost))

theorem execSdciLTrip_driven {t : State} (driven : (s.sdciPort n).driven = true)
    (tripped : t = (((((s.updSdci n fun p => { p with trip := true }).sdciStart n).sdciCount n 0xE).raise (0x50 + n.val) 3 contained
      (packArg [i16 n.val])).masterEvent n 0xFF12)) :
    execSdciLTrip n s = .next (t.arm (.lRetry n) (nsec (t.sdciSet n 4))) := by
  subst tripped
  exact congrArg done (if_pos driven)

theorem execLRetry_on (due : s.due (.lRetry n) = true) (on : s.sdciSet n 1 = 1) : execLRetry n s = .next
    (((s.disarm (.lRetry n)).updSdci n fun p => { p with trip := false }).sdciStart n) :=
  congrArg done ((s.onDue_of_due _ _ due).trans (if_pos on))

theorem execDsUploadDeferred_waiting (due : s.due (.dsUpload n) = true) (waiting : s.sdciStat n 0xA = 3) :
    execDsUploadDeferred n s = .next
      (((s.disarm (.dsUpload n)).updSdci n fun p => { p with dsLast := some s.uptime }).setSdciStat n 0xA 2) :=
  congrArg done ((s.onDue_of_due _ _ due).trans (if_pos waiting))

theorem execSioDiChange_noFlow (level : Bool) (ns : Nat) (di : s.sdciState n = 2) (noFlow : s.sdciSet n 3 = 0) :
    execSioDiChange n level ns s = .next
      (s.setSdci n { s.sdciPort n with pdIn := if level then 1 else 0, inValid := true, inNs := ns }) :=
  congrArg done ((if_pos di).trans (State.takePdIn_noFlow _ _ _ _ noFlow))

/-- Settles O31: an M-sequence by what it carries, a delivery by its length, an ISDU by the one in progress, and a loss, a retry, a trip
and the data storage by the state of the port. -/
theorem sdciPorts : Obligations.SdciPorts := by
  unfold Obligations.SdciPorts
  refine ⟨fun n s => execMSequenceStart_operate, fun n s => execMSequenceStart_lost, ?data, ?event, ?delivered,
    fun n p s => execPdOutDeliver_discarded, fun rq n w s => rfl, fun n v s => State.startIsdu_running v,
    fun n v s => State.startIsdu_read, fun n e d s running => execIsduDone_error running e d,
    fun n d s running => execIsduDone_response running d, fun n s due running => execIsduTimeout_due running due, fun rq n w s => rfl,
    fun n v s => rfl, fun n s => execSdciCommLost_operate, fun n s => execSdciStartupRetry_lost, fun n t s => execSdciLTrip_driven,
    fun n s => execLRetry_on, fun n s => execDsUploadDeferred_waiting, fun rq n v s => rfl,
    fun n l ns s => execSioDiChange_noFlow l ns⟩
  case data => exact fun n ns b v s operate noRestart noFlow => execMSequenceEnd_data operate noRestart ns b v noFlow
  case event =>
    intro n ns q c s operate noRestart unbound room
    refine ⟨_, execMSequenceEnd_event operate noRestart ns q c unbound, ?_⟩
    beta_reduce
    rw [State.log_logEvent _ _ _ _ _ (by simpa using room), State.sdciPort_updSdci_self]
  case delivered => exact fun n p s notSafe _ len whole => execPdOutDeliver_taken notSafe len whole

end Sys2Proof.Machine
end

section
/-!
The field outputs (R373 to R375, R377 to R379): protection and diagnosis of a channel, pulse tests, budgets and the member they cut,
sensor supplies, and reduced mode.
-/

namespace Sys2Proof.Machine

variable {s : State}

/-! ### Protection and diagnosis (R373, R374) -/

section Channel

variable {n : Fin 32}

section Trip

variable (hot : Bool) (driven : s.dio.driven.testBit n.val = true)
include driven

/-- The switch of an output in limit goes off; OUT_RETRY 0 leaves it off. -/
theorem execDioOvercurrent_driven : execDioOvercurrent n hot s = .next (
    let t := State.syncDio { s with dio := { s.dio with tripped := s.dio.tripped ||| 2 ^ n.val } }
    (if s.val 0x4308 3 = 0 then t else t.arm (.outRetry n) (nsec (s.val 0x4308 3))).latchDiag n (if hot then 2 else 1)) :=
  congrArg done (if_neg (by simp [driven]))

theorem execDioOvercurrent_retried (retry : s.val 0x4308 3 ≠ 0) : execDioOvercurrent n hot s = .next ((
    (State.syncDio { s with dio := { s.dio with tripped := s.dio.tripped ||| 2 ^ n.val } }).arm (.outRetry n)
      (nsec (s.val 0x4308 3))).latchDiag n (if hot then 2 else 1)) :=
  (execDioOvercurrent_driven hot driven).trans (congrArg (fun t : State => done (t.latchDiag n _)) (if_neg retry))

theorem execDioOvercurrent_latched (noRetry : s.val 0x4308 3 = 0) : execDioOvercurrent n hot s = .next (
    (State.syncDio { s with dio := { s.dio with tripped := s.dio.tripped ||| 2 ^ n.val } }).latchDiag n (if hot then 2 else 1)) :=
  (execDioOvercurrent_driven hot driven).trans (congrArg (fun t : State => done (t.latchDiag n _)) (if_pos noRetry))

end Trip

theorem State.latchDiag_again {bit : Nat} (latched : (s.dio.diag[n]).testBit bit = true) : s.latchDiag n bit = s := if_pos latched

theorem State.latchDiag_new {bit : Nat} {t : State} (clear : (s.dio.diag[n]).testBit bit = false)
    (latched : t = { s with dio := { s.dio with diag := s.dio.diag.set n.val (s.dio.diag[n] + 2 ^ bit) } }) :
    s.latchDiag n bit = t.raise 0x58 1 corrected (packArg [i16 n.val, i32 (t.diagWord n)]) := by
  subst latched
  exact if_neg (Bool.eq_false_iff.1 clear)

theorem execDioDiag_open (on : s.combOff = false) (watched : (s.dioMask 7).testBit n.val = true)
    (driven : s.dio.driven.testBit n.val = true) : execDioDiag n false s = .next (s.latchDiag n 0) := by
  simp [execDioDiag, on, watched, driven, done]

theorem execDioDiag_stuck (on : s.combOff = false) (simplex : s.paired = false) (off : s.dio.latch.testBit n.val = false)
    (output : s.dioOutputs.testBit n.val = true) : execDioDiag n true s = .next (s.latchDiag n 4) := by
  simp [execDioDiag, on, simplex, off, output, done]

/-! ### Pulse tests (R375) -/

theorem execPulseTestStart_allowed
    (rested : (aget s.dio.tested n.val).getD 0 + secs (s.val 0x4308 1) ≤ s.uptime) (untested : s.dio.testing.testBit n.val = false)
    (allowed : s.pulseOk n.val = true) : execPulseTestStart n s = .next
      ((State.syncDio { s with dio := { s.dio with
        testing := s.dio.testing ||| 2 ^ n.val
        tested := aput s.dio.tested n.val s.uptime } }).arm (.testEnd n) (nsec (s.val 0x4308 2))) :=
  congrArg done (if_neg (by simp [rested, untested, allowed]))

theorem State.pulseOk_eq_false {i : Nat} (held : s.dio.reduced = true ∨ s.safe = true ∨ s.paired = true ∨
    (aget s.dio.pulseEnd i).isSome = true ∨ s.wagNear i = true) : s.pulseOk i = false := by
  rcases held with reduced | safe | paired | pulse | near
  · simp [State.pulseOk, reduced]
  · simp [State.pulseOk, safe]
  · simp [State.pulseOk, paired]
  · simp [State.pulseOk, Option.isSome_iff_ne_none.1 pulse]
  · simp [State.pulseOk, near]

theorem execPulseTestStart_held (held : s.pulseOk n.val = false) : execPulseTestStart n s = .next s :=
  congrArg done (if_pos (by simp [held]))

end Channel

/-! ### Budgets (R5, R378) -/

/-- A budget cuts the highest channel that is on. -/
theorem topBit_eq_some_iff {k mask i : Nat} :
    topBit k mask = some i ↔ mask.testBit i = true ∧ i < k ∧ ∀ j, i < j → j < k → mask.testBit j = false := by
  induction k with
  | zero => simp [topBit]
  | succ k ih =>
    have top : topBit (k + 1) mask = if mask.testBit k then some k else topBit k mask := by
      simp only [topBit, List.range_succ, List.reverse_append, List.reverse_singleton, List.singleton_append, List.find?_cons]
      cases mask.testBit k <;> rfl
    rw [top]
    cases on : mask.testBit k with
    | true =>
      rw [if_pos rfl]
      constructor
      · rintro ⟨⟩
        exact ⟨on, Nat.lt_succ_self _, fun j above below => absurd (Nat.lt_succ_iff.1 below) above.not_ge⟩
      · rintro ⟨_, below, none_⟩
        rcases (Nat.lt_succ_iff.1 below).lt_or_eq with less | same
        · exact absurd (none_ k less k.lt_succ_self) (by simp [on])
        · rw [same]
    | false =>
      rw [if_neg Bool.false_ne_true, ih]
      constructor
      · rintro ⟨set, below, none_⟩
        refine ⟨set, below.trans k.lt_succ_self, fun j above under => ?_⟩
        rcases (Nat.lt_succ_iff.1 under).lt_or_eq with less | same
        · exact none_ j above less
        · rw [same, on]
      · rintro ⟨set, below, none_⟩
        have other : i ≠ k := fun same => absurd (same ▸ set) (by simp [on])
        exact ⟨set, (Nat.lt_succ_iff.1 below).lt_of_ne other, fun j above under => none_ j above (under.trans k.lt_succ_self)⟩

section Budget

variable {k : Fin 8} {sum : Fin 65536}

theorem execBudgetCut_within (within : sum.val ≤ s.budgetLimit k) : execBudgetCut k sum s = .next s :=
  congrArg done (if_pos (by simp [within]))

theorem execBudgetCut_over {m : Nat} {t : State} (on : s.combOff = false) (above : s.budgetLimit k < sum.val)
    (member : s.budgetMember k = some (m, t)) : execBudgetCut k sum s = .next
      ((t.bump 0x4310 0xB).raise 0x5A 1 contained (packArg [i16 (Config.budgetNumber k).toNat, i16 m])) := by
  simp [execBudgetCut, on, above, member, done]

theorem State.budgetLimit_full (k : Fin 8) (full : s.ident.variant ≠ 1) :
    s.budgetLimit k = if k.val = 4 then 6000 else if k.val = 7 then 12000 else 2000 := if_neg full

theorem State.budgetLimit_reduced (k : Fin 8) (reduced : s.ident.variant = 1) :
    s.budgetLimit k = (if k.val = 4 then 6000 else if k.val = 7 then 12000 else 2000) * 3 / 4 := if_pos reduced

theorem State.budgetMember_group (group : k.val < 4) :
    s.budgetMember k = (topBit 32 (s.dio.driven &&& (0xFF * 2 ^ (8 * k.val)))).map fun i => (i, s.cutDio i) := by
  unfold State.budgetMember
  dsimp only
  split
  case h_5 => rfl
  all_goals omega

theorem State.budgetMember_outputs (i : Nat) : s.budgetMember 4 = some (i, s.cutDio i) ↔ s.dio.driven.testBit i = true ∧ i < 32 ∧
    ∀ j, i < j → j < 32 → s.dio.driven.testBit j = false := by
  have channel {j : Nat} (hj : j < 32) : (s.dio.driven &&& 0xFFFFFFFF).testBit j = s.dio.driven.testBit j := by
    rw [show 0xFFFFFFFF = 2 ^ 32 - 1 from rfl, Nat.testBit_and, Nat.testBit_two_pow_sub_one, decide_eq_true hj, Bool.and_true]
  have member : s.budgetMember 4 = some (i, s.cutDio i) ↔ topBit 32 (s.dio.driven &&& 0xFFFFFFFF) = some i := by
    change (topBit 32 (s.dio.driven &&& 0xFFFFFFFF)).map (fun i => (i, s.cutDio i)) = _ ↔ _
    rw [Option.map_eq_some_iff]
    exact ⟨fun ⟨j, top, same⟩ => (Prod.mk.inj same).1 ▸ top, fun top => ⟨i, top, rfl⟩⟩
  rw [member, topBit_eq_some_iff]
  constructor
  · exact fun ⟨on, below, none_⟩ => ⟨channel below ▸ on, below, fun j above under => channel under ▸ none_ j above under⟩
  · exact fun ⟨on, below, none_⟩ =>
      ⟨(channel below).trans on, below, fun j above under => (channel under).trans (none_ j above under)⟩

end Budget

/-! ### Sensor supplies (R377) -/

/-- The supply outputs follow what is wanted of them, and nothing else in the hub changes. -/
theorem State.syncSupply_eq (s : State) :
    ∃ out driven, s.syncSupply = { s with out := out, dio := { s.dio with supplyDriven := driven } } := by
  have switched (l : List Nat) (new : Nat) : ∃ out, l.foldl (fun t i => t.drive (.pad (64 + i) (new.testBit i))) s =
      { s with out := out } :=
    List.foldlRecOn (motive := fun t : State => ∃ out, t = { s with out := out }) l _ ⟨_, rfl⟩ fun t only i _ => by
      obtain ⟨out, rfl⟩ := only
      exact State.drive_eq _ _
  unfold State.syncSupply
  dsimp only
  obtain ⟨out, only⟩ := switched (changedBits 4 s.dio.supplyDriven _) _
  exact ⟨out, _, by rw [only]⟩

@[simp] theorem State.raise_dio (s : State) (source kind cls arg : Nat) : (s.raise source kind cls arg).dio = s.dio := by
  obtain ⟨_, _, _, _, raised⟩ := s.raise_eq source kind cls arg
  rw [raised]

section Supply

variable {i : Fin 4}

theorem execSupplyTrip_retried (driven : s.dio.supplyDriven.testBit i.val = true) (retry : s.val 0x4400 0xE ≠ 0) :
    execSupplyTrip i s = .next ((((State.syncSupply { s with
      dio := { s.dio with supplyTrip := s.dio.supplyTrip ||| 2 ^ i.val } }).bump 0x4400 0xD).raise 0x59 1 contained
      (packArg [i16 i.val])).arm (.supplyRetry i) (nsec (s.val 0x4400 0xE))) :=
  congrArg done ((if_neg (by simp [driven])).trans (if_neg retry))

end Supply

/-! ### Reduced mode (R379) -/

theorem State.sdciCfg_syncL (s : State) (n m : Fin 8) {j : Nat} (hj : j < 256) : (s.syncL n).sdciCfg m j = s.sdciCfg m j := by
  unfold State.syncL
  dsimp only
  refine (State.val_setVal_of_ne _ _ (by unfold objKey; omega)).trans (State.val_congr ?_ _ _)
  split
  · rfl
  · exact State.objs_drive ..

/-- Without a port in SDCI mode, reduced mode changes what L+ shows and logs nothing. -/
theorem State.foldl_syncL_of_noSdci (l : List (Fin 8)) (noSdci : ∀ n, s.sdciCfg n 1 ≠ 1) :
    l.foldl (fun (t : State) n => if (t.syncL n).sdciCfg n 1 = 1 then (t.syncL n).masterEvent n 0xFF13 else t.syncL n) s =
      l.foldl State.syncL s := by
  induction l generalizing s with
  | nil => rfl
  | cons n l ih =>
    have kept (m : Fin 8) : (s.syncL n).sdciCfg m 1 ≠ 1 := by
      rw [State.sdciCfg_syncL _ _ _ (by decide)]
      exact noSdci m
    rw [List.foldl_cons, List.foldl_cons, if_neg (kept n), ih kept]

theorem execVinReducedEnter_noSdci (full : s.dio.reduced = false) (noSdci : ∀ n : Fin 8, s.sdciCfg n 1 ≠ 1) :
    execVinReducedEnter s = .next (((((List.finRange 8).foldl (fun (t : State) n => t.syncL n)
      { s with dio := { s.dio with reduced := true } }).setVal 0x4310 9 1).raise 0x5A 2 corrected
      (packArg [i16 (Config.reducedArgument true).toNat]))) := by
  have synced := State.foldl_syncL_of_noSdci (s := { s with dio := { s.dio with reduced := true } }) (List.finRange 8) noSdci
  unfold execVinReducedEnter
  dsimp only
  rw [if_neg (by simp [full]), synced]
  rfl

/-- Settles O33: an alarm that is due has its effect by definition, a channel by what it drives and is allowed, a budget by the highest
channel that is on, and reduced mode by whether it holds. -/
theorem outputProtection : Obligations.OutputProtection := by
  unfold Obligations.OutputProtection
  refine ⟨fun n hot s => execDioOvercurrent_retried hot, fun n hot s => execDioOvercurrent_latched hot,
    fun n s due => congrArg done (s.onDue_of_due _ _ due), fun n bit s => State.latchDiag_again, fun n bit t s => State.latchDiag_new,
    fun n s => execDioDiag_open, fun n s => execDioDiag_stuck, fun n s => execPulseTestStart_allowed,
    fun n s held => execPulseTestStart_held (State.pulseOk_eq_false held), fun n s due => congrArg done (s.onDue_of_due _ _ due),
    fun n s due => congrArg done (s.onDue_of_due _ _ due), ?fullLimits, ?reducedLimits, fun k sum s => execBudgetCut_within,
    fun k sum m t s => execBudgetCut_over, fun i s => State.budgetMember_outputs i, ?group, fun rq i v s => rfl, ?trip,
    fun i s due => congrArg done (s.onDue_of_due _ _ due), fun s => execVinReducedEnter_noSdci, ?leave, ?again⟩
  case fullLimits =>
    intro s full
    simp [State.budgetLimit_full _ full]
  case reducedLimits =>
    intro s reduced
    simp [State.budgetLimit_reduced _ reduced]
  case group =>
    intro k i s group top
    rw [State.budgetMember_group group, top]
    rfl
  case trip =>
    intro i s driven retry
    refine ⟨_, execSupplyTrip_retried driven retry, State.armed_arm_self .., ?_⟩
    obtain ⟨out, levels, synced⟩ := State.syncSupply_eq { s with dio := { s.dio with supplyTrip := s.dio.supplyTrip ||| 2 ^ i.val } }
    rw [State.arm_dio, State.raise_dio, State.bump_dio, synced]
  case leave => exact fun s reduced => congrArg done (if_neg (by simp [reduced]))
  case again => exact fun s reduced => congrArg done (if_pos reduced)

end Sys2Proof.Machine
end

section
/-!
Loss and return of VIN (R380, R437, R470): what the loss drops and keeps, what the return brings back, and what NOR holds when hold-up
expires.
-/

namespace Sys2Proof.Machine

variable {s : State}

/-! ### Loss of VIN (R380, R470) -/

theorem execVinLost_holdUp (holdUp : s.val 0x7000 3 = 4) : execVinLost s = .next s := congrArg done (if_pos holdUp)

theorem execVinLost_powered {t u : State} (powered : s.val 0x7000 3 ≠ 4)
    (off : t = (State.syncSupply (State.syncDio { s.sendFail 1 with
      dio := { (s.sendFail 1).dio with fieldOff := true } })).syncLs)
    (dropped : u = ((((((t.raise 0x5A 3 contained 0).openShadow vinShadowCodes 0 0 (eventCode 0x5A 3)).disarm
      (.shadow t.coll.nextShadow)).dropDomains).bump 0x6211 6).raise 3 2 contained (packArg [i16 (s.val 0x7000 3)])).enterPower 4) :
    execVinLost s = .next { u with
      pw := { u.pw with before := s.val 0x7000 3, heldAt := u.uptime, since := Vector.replicate 3 none } } := by
  unfold execVinLost
  rw [if_neg powered]
  dsimp only
  rw [← off, ← dropped]
  rfl

theorem State.dioWanted_fieldOff (off : s.dio.fieldOff = true) : s.dioWanted = 0 := if_pos off

/-- Objects of a record that go back to their defaults. -/
theorem State.foldl_setVal_default_eq (s : State) (i : Nat) (js : List Nat) :
    ∃ objs, js.foldl (fun u j => u.setVal i j (objDefault (objKey i j))) s = { s with objs := objs } :=
  List.foldlRecOn (motive := fun t : State => ∃ objs, t = { s with objs := objs }) js _ ⟨_, rfl⟩ fun t only j _ => by
    obtain ⟨objs, rfl⟩ := only
    exact ⟨_, rfl⟩

/-- A reset of the host interface reaches its objects, its alarms and its own state (R301). -/
theorem State.resetHost_eq (s : State) : ∃ objs alarms host, s.resetHost = { s with objs := objs, alarms := alarms, host := host } := by
  have rings (l : List Nat) : ∃ objs alarms, l.foldl (fun (t : State) r => ([1, 2, 3, 4, 5, 6, 7].foldl (fun u j =>
      u.setVal (0x8530 + r) j (objDefault (objKey (0x8530 + r) j))) t).disarm (.coalesce r)) s =
        { s with objs := objs, alarms := alarms } :=
    List.foldlRecOn (motive := fun t : State => ∃ objs alarms, t = { s with objs := objs, alarms := alarms }) l _ ⟨_, _, rfl⟩
      fun t only r _ => by
        obtain ⟨objs, alarms, rfl⟩ := only
        obtain ⟨back, set⟩ := State.foldl_setVal_default_eq { s with objs := objs, alarms := alarms } (0x8530 + r) [1, 2, 3, 4, 5, 6, 7]
        rw [set]
        exact ⟨_, _, rfl⟩
  have apertures (l : List Nat) (t : State) : ∃ objs, l.foldl (fun (t : State) a => [1, 2, 3, 4].foldl (fun u j =>
      u.setVal (0x8510 + a) j (objDefault (objKey (0x8510 + a) j))) t) t = { t with objs := objs } :=
    List.foldlRecOn (motive := fun u : State => ∃ objs, u = { t with objs := objs }) l _ ⟨_, rfl⟩ fun u only a _ => by
      obtain ⟨objs, rfl⟩ := only
      exact State.foldl_setVal_default_eq { t with objs := objs } (0x8510 + a) [1, 2, 3, 4]
  obtain ⟨ringObjs, alarms, reset⟩ := rings (List.range 8)
  obtain ⟨objs, closed⟩ := apertures (List.range 16) { s with objs := ringObjs, alarms := alarms }
  unfold State.resetHost
  dsimp only
  rw [reset, closed]
  exact ⟨_, _, _, rfl⟩

/-- The cluster shows its members in objects alone (R183). -/
theorem State.refreshCluster_eq (s : State) : ∃ objs, s.refreshCluster = { s with objs := objs } := by
  unfold State.refreshCluster
  split
  · exact ⟨_, rfl⟩
  · exact ⟨_, rfl⟩

/-- What PD1 to PD9 held is gone. -/
def State.Dropped (s : State) : Prop :=
  s.sessions = [] ∧ s.sw.waiting = [] ∧ s.wu.prog = [] ∧ s.wu.pinDir = 0 ∧ s.can = Vector.replicate 8 {} ∧
    s.ser = Vector.replicate 8 {}

theorem State.Dropped.setVal (dropped : s.Dropped) (i j v : Nat) : (s.setVal i j v).Dropped := dropped

theorem State.Dropped.refreshCluster (dropped : s.Dropped) : s.refreshCluster.Dropped := by
  obtain ⟨objs, refreshed⟩ := s.refreshCluster_eq
  rw [refreshed]
  exact dropped

theorem State.Dropped.resetHost (dropped : s.Dropped) : s.resetHost.Dropped := by
  obtain ⟨objs, alarms, host, reset⟩ := s.resetHost_eq
  rw [reset]
  exact dropped

theorem State.dropped_dropDomains (s : State) : s.dropDomains.Dropped := by
  unfold State.dropDomains
  dsimp only
  refine State.Dropped.refreshCluster ?_
  split
  · refine ((State.Dropped.resetHost ?_).setVal _ _ _).setVal _ _ _
    exact ⟨rfl, rfl, rfl, rfl, rfl, rfl⟩
  · exact ⟨rfl, rfl, rfl, rfl, rfl, rfl⟩

/-! ### Return of VIN (R380, R470) -/

theorem execVinReturn_powered (powered : s.val 0x7000 3 ≠ 4) : execVinReturn s = .next s :=
  congrArg done (if_pos (by simp [powered]))

theorem execVinReturn_holdUp {t u v : State} (holdUp : s.val 0x7000 3 = 4)
    (woken : t = (s.setPower s.pw.before).raise 3 3 corrected (packArg [i32 (inNs (s.uptime - s.pw.heldAt))]))
    (fieldBack : u = (State.syncSupply (State.syncDio { t with
      dio := { t.dio with fieldOff := false }
      wu := { t.wu with prog := t.savedProg } })).syncLs)
    (hostBack : v = if u.host.pcie && !u.host.perst then u.setVal 0x8500 2 2 else u) :
    execVinReturn s = .next
      (v.newEpochs ((v.sw.flow.filter fun p => p.2.isDeliver && p.2.lossless).map fun p => p.1)).startFieldPorts.endVinShadow := by
  unfold execVinReturn
  rw [if_neg (by simp [holdUp])]
  dsimp only
  rw [← woken, ← fieldBack, ← hostBack]
  rfl

/-! ### The end of hold-up (R437, R470) -/

theorem State.cutSave_of_notWriting (idle : s.settings.writing = none) :
    s.cutSave.copyA = s.settings.copyA ∧ s.cutSave.copyB = s.settings.copyB := by
  simp [State.cutSave, idle]

/-- Settles O47: a loss and a return by whether the hub is in hold-up, the domains by what their loss leaves of them, and the end of
hold-up by definition. -/
theorem holdUp : Obligations.HoldUp := by
  unfold Obligations.HoldUp
  refine ⟨fun s => execVinLost_holdUp, fun t u s => execVinLost_powered, fun s => State.dioWanted_fieldOff, ?dropped,
    fun s => execVinReturn_powered, fun t u v s => execVinReturn_holdUp, fun s holdUp => congrArg done (if_pos holdUp),
    fun s powered => congrArg done (if_neg powered), fun s => ⟨rfl, rfl, rfl, rfl, rfl, rfl, rfl⟩,
    fun s => State.cutSave_of_notWriting⟩
  case dropped =>
    intro s
    obtain ⟨sessions, waiting, prog, pinDir, can, ser⟩ := s.dropped_dropDomains
    refine ⟨sessions, waiting, prog, pinDir, fun n => ?_, fun n => ?_⟩
    · simp [can]
    · simp [ser]

end Sys2Proof.Machine
end

section
/-!
The collector's queue (R417) and the recorder's areas (R434 to R439): where a message and a record go, and what they leave.
-/

namespace Sys2Proof.Machine

/-! ### The queue of the collector (R417) -/

theorem mem_insertMsg (l : List Msg) (m x : Msg) : x ∈ insertMsg l m ↔ x = m ∨ x ∈ l := by
  induction l with
  | nil => simp [insertMsg]
  | cons y l ih =>
    unfold insertMsg
    split
    · simp
    · simp only [List.mem_cons, ih]
      tauto

theorem length_insertMsg (l : List Msg) (m : Msg) : (insertMsg l m).length = l.length + 1 := by
  induction l with
  | nil => rfl
  | cons y l ih =>
    unfold insertMsg
    split
    · rfl
    · simp [ih]

/-- The messages but the one inserted keep their order. -/
theorem filter_insertMsg (l : List Msg) (m : Msg) (n : Nat) :
    (insertMsg l m).filter (fun x => x.source == n && x != m) = l.filter (fun x => x.source == n && x != m) := by
  induction l with
  | nil => simp [insertMsg]
  | cons y l ih =>
    unfold insertMsg
    split
    · simp [List.filter_cons]
    · rw [List.filter_cons, List.filter_cons, ih]

/-- The order of R417: by tick, and by SOURCE within one. -/
def Msg.waitsBefore (a b : Msg) : Bool :=
  a.time / tickUnits < b.time / tickUnits || (a.time / tickUnits == b.time / tickUnits && a.source ≤ b.source)

theorem queueOk_cons_cons (a b : Msg) (l : List Msg) : queueOk (a :: b :: l) = (a.waitsBefore b && queueOk (b :: l)) := rfl

/-- A message that arrives no earlier than another goes behind it, unless its SOURCE is lower within the tick. -/
theorem Msg.waitsBefore_of_arrival {x m : Msg} (arrival : x.time / tickUnits ≤ m.time / tickUnits)
    (behind : ¬(x.time / tickUnits == m.time / tickUnits && m.source < x.source) = true) : x.waitsBefore m = true := by
  simp only [Bool.and_eq_true, beq_iff_eq, decide_eq_true_eq, not_and, not_lt] at behind
  simp only [Msg.waitsBefore, Bool.or_eq_true, Bool.and_eq_true, beq_iff_eq, decide_eq_true_eq]
  rcases Nat.lt_or_eq_of_le arrival with earlier | same
  · exact .inl earlier
  · exact .inr ⟨same, behind same⟩

/-- Behind a message that waits stands either the new one or the one that stood there. -/
theorem queueOk_cons_insertMsg {x m : Msg} {l : List Msg} (ordered : queueOk (x :: l) = true) (last : x.waitsBefore m = true)
    (inserted : queueOk (insertMsg l m) = true) : queueOk (x :: insertMsg l m) = true := by
  cases l with
  | nil => simp [insertMsg, queueOk_cons_cons, last, queueOk]
  | cons y l =>
    rw [queueOk_cons_cons, Bool.and_eq_true] at ordered
    unfold insertMsg at inserted ⊢
    split at inserted <;> rename_i place
    · rw [if_pos place, queueOk_cons_cons, last, inserted, Bool.and_self]
    · rw [if_neg place, queueOk_cons_cons, ordered.1, inserted, Bool.and_self]

theorem queueOk_of_cons {x : Msg} {l : List Msg} (ordered : queueOk (x :: l) = true) : queueOk l = true := by
  cases l with
  | nil => rfl
  | cons y l => exact ((Bool.and_eq_true _ _).mp (queueOk_cons_cons x y l ▸ ordered)).2

theorem queueOk_insertMsg (l : List Msg) (m : Msg) (ordered : queueOk l = true)
    (arrival : ∀ x ∈ l, x.time / tickUnits ≤ m.time / tickUnits) : queueOk (insertMsg l m) = true := by
  induction l with
  | nil => rfl
  | cons x l ih =>
    have inserted := ih (queueOk_of_cons ordered) fun y mem => arrival y (List.mem_cons_of_mem x mem)
    unfold insertMsg
    split <;> rename_i place
    · obtain ⟨tick, lower⟩ : x.time / tickUnits = m.time / tickUnits ∧ m.source < x.source := by simpa using place
      rw [queueOk_cons_cons, ordered]
      simp [Msg.waitsBefore, tick, lower.le]
    · exact queueOk_cons_insertMsg ordered (Msg.waitsBefore_of_arrival (arrival x List.mem_cons_self) place) inserted

section Queue

variable {s : State} (source kind cls arg : Nat)

theorem State.length_queue_raise_le (held : s.coll.queue.length ≤ 256) : (s.raise source kind cls arg).coll.queue.length ≤ 256 := by
  rw [State.coll_raise]
  split
  · exact held
  · unfold State.queueMsg
    split <;> rename_i room
    · exact (length_insertMsg ..).trans_le room
    · exact held

theorem State.queueMsg_full (full : s.coll.queue.length = 256) : s.queueMsg source kind cls arg =
    { s.bump 0x6000 9 with coll := { s.coll with overrunRun := s.coll.overrunRun + 1 } } :=
  if_neg (by omega)

theorem State.queue_raise_full (full : s.coll.queue.length = 256) (powered : s.val 0x2420 5 ≠ 7) :
    (s.raise source kind cls arg).coll.queue = s.coll.queue := by
  rw [State.coll_raise, if_neg powered, State.queueMsg_full _ _ _ _ full]

theorem State.val_raise_full (full : s.coll.queue.length = 256) (powered : s.val 0x2420 5 ≠ 7) (i j : Nat) :
    (s.raise source kind cls arg).val i j = (s.bump 0x6000 9).val i j := by
  refine State.val_congr ?_ i j
  rw [State.objs_raise, if_neg powered, State.queueMsg_full _ _ _ _ full]

end Queue

/-! ### The areas of the recorder (R435) -/

theorem length_lastOf_le {α : Type} (n : Nat) (l : List α) : (lastOf n l).length ≤ n := by
  unfold lastOf
  rw [List.length_drop]
  omega

/-- The last of a list is kept where any of it is. -/
theorem lastOf_concat {α : Type} {n : Nat} (l : List α) (a : α) (some_ : 0 < n) :
    lastOf n (l ++ [a]) = l.drop (l.length + 1 - n) ++ [a] := by
  unfold lastOf
  rw [List.length_append, List.length_singleton, List.drop_append_of_le_length (by omega)]

section Areas

variable {s : State} (r : Rec)

/-- BRINE takes a record as a circle, whatever CRYSTAL holds. -/
theorem State.putBrine_rcd : (s.putBrine r).rcd = { s.rcd with
    brine := lastOf 3840 (s.rcd.brine ++ [r])
    brineCount := s.rcd.brineCount + 1
    norBrine := if (s.rcd.brineCount + 1) % 16 = 0 then lastOf 3840 (s.rcd.brine ++ [r]) else s.rcd.norBrine } := rfl

@[simp] theorem State.putBrine_crystal : (s.putBrine r).rcd.crystal = s.rcd.crystal := by rw [State.putBrine_rcd]
@[simp] theorem State.putBrine_headSeq : (s.putBrine r).rcd.headSeq = s.rcd.headSeq := by rw [State.putBrine_rcd]
@[simp] theorem State.putBrine_brine : (s.putBrine r).rcd.brine = lastOf 3840 (s.rcd.brine ++ [r]) := by rw [State.putBrine_rcd]

theorem State.getLast?_brine_putBrine : (s.putBrine r).rcd.brine.getLast? = some r := by
  rw [State.putBrine_brine, lastOf_concat _ _ (by decide), List.getLast?_concat]

/-- A record as CRYSTAL holds it: flag bit 4 is set (R434). -/
def Rec.inCrystal (r : Rec) : Rec := { r with flags := r.flags + 16 }

/-- CRYSTAL takes a record that it has room for, and NOR with it (R437). -/
def State.putCrystal (s : State) (r : Rec) : State :=
  { s.bump 0x6010 7 with
    rcd := { s.rcd with crystal := s.rcd.crystal ++ [r.inCrystal], norCrystal := s.rcd.crystal ++ [r.inCrystal] } }

theorem State.storeRec_closed (closed : s.crystalOpen = false) : s.storeRec r = s.putBrine r := if_neg (by simp [closed])

theorem State.storeRec_open (open_ : s.crystalOpen = true) (room : s.rcd.crystal.length ≠ 255) : s.storeRec r = s.putCrystal r :=
  (if_pos open_).trans (if_neg (by simpa using room))

theorem State.storeRec_last (open_ : s.crystalOpen = true) (last : s.rcd.crystal.length = 255) :
    s.storeRec r = (s.putCrystal r).ownRecord 2 0 false :=
  (if_pos open_).trans (if_pos (by simp [last]))

/-- CRYSTAL_FULL goes to BRINE and takes a number of its own. -/
theorem State.ownRecord_full (s : State) : s.ownRecord 2 0 false = s.takeSeq.2.putBrine
    { seq := s.rcd.headSeq, time := s.ringTime, code := eventCode 1 2, flags := corrected + s.unstableBit, arg := 0, suppressed := 0,
      link := 0 } := rfl

theorem State.crystal_storeRec_open (open_ : s.crystalOpen = true) : (s.storeRec r).rcd.crystal = s.rcd.crystal ++ [r.inCrystal] := by
  by_cases last : s.rcd.crystal.length = 255
  · rw [State.storeRec_last r open_ last, State.ownRecord_full, State.putBrine_crystal]
    rfl
  · rw [State.storeRec_open r open_ last]
    rfl

theorem State.crystalOpen_iff : s.crystalOpen = true ↔ s.rcd.clearing = none ∧ s.rcd.crystal.length < 256 := by
  simp [State.crystalOpen]

theorem State.crystal_prefix_storeRec (s : State) : s.rcd.crystal <+: (s.storeRec r).rcd.crystal := by
  cases place : s.crystalOpen
  · rw [State.storeRec_closed r place, State.putBrine_crystal]
  · rw [State.crystal_storeRec_open r place]
    exact List.prefix_append ..

theorem State.areasOk_iff : s.areasOk = true ↔ s.rcd.crystal.length ≤ 256 ∧ s.rcd.brine.length ≤ 3840 := by
  simp [State.areasOk]

theorem State.areasOk_putBrine (held : s.areasOk = true) : (s.putBrine r).areasOk = true :=
  State.areasOk_iff.2 ⟨by simpa using (State.areasOk_iff.1 held).1, by simpa using length_lastOf_le 3840 _⟩

theorem State.areasOk_putCrystal (held : s.areasOk = true) (room : s.rcd.crystal.length < 256) : (s.putCrystal r).areasOk = true :=
  State.areasOk_iff.2 ⟨by simpa [State.putCrystal] using room, (State.areasOk_iff.1 held).2⟩

theorem State.areasOk_storeRec (held : s.areasOk = true) : (s.storeRec r).areasOk = true := by
  cases place : s.crystalOpen
  · rw [State.storeRec_closed r place]
    exact State.areasOk_putBrine r held
  · have kept := State.areasOk_putCrystal r held (State.crystalOpen_iff.1 place).2
    by_cases last : s.rcd.crystal.length = 255
    · rw [State.storeRec_last r place last, State.ownRecord_full]
      exact State.areasOk_putBrine _ kept
    · rwa [State.storeRec_open r place last]

theorem State.mem_brine_storeRec (closed : s.crystalOpen = false) : r ∈ (s.storeRec r).rcd.brine := by
  rw [State.storeRec_closed r closed]
  exact List.mem_of_getLast? (State.getLast?_brine_putBrine r)

theorem State.crystalOpen_storeRec_last (open_ : s.crystalOpen = true) (last : s.rcd.crystal.length = 255) :
    (s.storeRec r).crystalOpen = false := by
  rw [Bool.eq_false_iff, Ne, State.crystalOpen_iff, State.crystal_storeRec_open r open_]
  simp [last]

end Areas

/-- Settles O58: the place of a message by induction along the queue, the place of a record by whether CRYSTAL is open to it. -/
theorem messagesAndRecords : Obligations.MessagesAndRecords := by
  unfold Obligations.MessagesAndRecords
  refine ⟨queueOk_insertMsg, mem_insertMsg, filter_insertMsg,
    fun source kind cls arg s => State.length_queue_raise_le source kind cls arg, ?full, fun r s => State.areasOk_storeRec r,
    fun r s => s.crystal_prefix_storeRec r, ?opened, ?closed, fun r s => State.crystalOpen_storeRec_last r⟩
  case full =>
    intro source kind cls arg s full powered
    refine ⟨State.queue_raise_full source kind cls arg full powered, ?_, fun i j other => ?_⟩
    · rw [State.val_raise_full source kind cls arg full powered]
      exact State.val_setVal_self ..
    · rw [State.val_raise_full source kind cls arg full powered]
      exact State.val_setVal_of_ne _ _ other
  case opened =>
    intro r s opened
    rw [State.crystal_storeRec_open r opened]
    exact List.mem_append_right _ (List.mem_singleton.2 rfl)
  case closed =>
    exact fun r s closed =>
      ⟨State.mem_brine_storeRec r closed, by rw [State.storeRec_closed r closed, State.putBrine_crystal]⟩

/-! ### Clearing and recovery (R435, R437, R439) -/

section Clear

variable {s : State}

/-- A master of this hub clears in the hub's own name (R435). -/
theorem crystalClearFx_idle (m : MasterId) (idle : s.rcd.clearing = none) (own : s.isLocal m = true) :
    crystalClearFx m s = (State.noteUnstable { s with
      rcd := { s.rcd with crystal := [], clearing := some (s.ident.serial, m.num.val) } }).arm .crystalClear (msec 500) := by
  have serial : s.serialOf m = (s.ident.serial, s) := if_pos own
  unfold crystalClearFx
  rw [if_neg (by simp [idle]), serial]

theorem execCrystalClearDone_running {serial num : Nat} (running : s.rcd.clearing = some (serial, num)) :
    execCrystalClearDone s = .next
      (((State.noteUnstable { s with rcd := { s.rcd with clearing := none, crystal := [], norCrystal := [] } }).disarm
        .crystalClear).ownRecord 1 (65536 * (serial % 2 ^ 48) + num) true) := by
  unfold execCrystalClearDone
  rw [running]
  rfl

theorem execCrystalClearDone_idle (idle : s.rcd.clearing = none) : execCrystalClearDone s = .next s := by
  unfold execCrystalClearDone
  rw [idle]
  rfl

end Clear

/-- Settles O39: a record's area by whether CRYSTAL is open, the clear by whether one runs, and the other commands by definition. -/
theorem recorder : Obligations.Recorder := by
  unfold Obligations.Recorder
  refine ⟨?room, ?last, ?fullArea, fun r s => ⟨State.getLast?_brine_putBrine r, State.putBrine_crystal r, by rw [State.putBrine_rcd]⟩,
    fun n => rfl, fun m flags link s => ⟨rfl, rfl, rfl, rfl⟩, fun rq v s => rfl, fun m s => crystalClearFx_idle m,
    fun serial num s => execCrystalClearDone_running, fun s => execCrystalClearDone_idle,
    fun s due => congrArg done (s.onDue_of_due _ _ due), fun slot s => rfl, fun slot s => rfl⟩
  case room =>
    intro r s idle room
    exact State.storeRec_open r (State.crystalOpen_iff.2 ⟨idle, by omega⟩) (by omega)
  case last =>
    intro r s idle last
    have opened : s.crystalOpen = true := State.crystalOpen_iff.2 ⟨idle, by omega⟩
    refine ⟨by simp [State.crystal_storeRec_open r opened, last], ?_, ?_⟩
    · rw [State.storeRec_last r opened last, State.ownRecord_full, State.putBrine_headSeq]
      rfl
    · rw [State.storeRec_last r opened last, State.ownRecord_full, State.getLast?_brine_putBrine]
      rfl
  case fullArea =>
    intro r s full
    exact State.storeRec_closed r (by simp [State.crystalOpen, full])

end Sys2Proof.Machine
end

section
/-!
Workers (ch. 12): what an attempt at each instruction gives, and the step that completes it (R393 to R395).
-/

namespace Sys2Proof.Machine

/-! ### The registers of a worker -/

@[simp] theorem State.worker_setWorker_self (s : State) (n : Fin 32) (w : Worker) : (s.setWorker n w).worker n = w := by
  simp [State.worker, State.setWorker]

theorem State.worker_setWorker_of_ne (s : State) {n m : Fin 32} (other : n ≠ m) (w : Worker) :
    (s.setWorker n w).worker m = s.worker m := by
  simpa [State.worker, State.setWorker] using Vector.getElem_set_ne n.isLt m.isLt (Fin.val_ne_of_ne other)

@[simp] theorem State.setWorker_setWorker (s : State) (n : Fin 32) (w w' : Worker) :
    (s.setWorker n w).setWorker n w' = s.setWorker n w' := by
  simp [State.setWorker]

section Registers

variable (s : State) (n : Fin 32) (w : Worker)

@[simp] theorem State.val_setWorker (i j : Nat) : (s.setWorker n w).val i j = s.val i j := rfl
@[simp] theorem State.wcfg_setWorker (m : Fin 32) (j : Nat) : (s.setWorker n w).wcfg m j = s.wcfg m j := rfl
@[simp] theorem State.nowTick_setWorker : (s.setWorker n w).nowTick = s.nowTick := rfl
@[simp] theorem State.nowNs_setWorker : (s.setWorker n w).nowNs = s.nowNs := rfl
@[simp] theorem State.flipPending_setWorker (m : Fin 32) : (s.setWorker n w).flipPending m = s.flipPending m := rfl
@[simp] theorem State.worker_disarm (a : Alarm) : (s.disarm a).worker n = s.worker n := rfl
@[simp] theorem State.worker_bump (i j : Nat) : (s.bump i j).worker n = s.worker n := rfl

theorem State.rxRoom_setWorker : (s.setWorker n w).rxRoom n = 16 - s.wcfg n 0xD - w.rx.length := by
  simp [State.rxRoom]

end Registers

/-! ### Attempts at the instructions (R393) -/

section Attempts

variable {s : State} {n : Fin 32}

/-- Words that the FIFO gives or the bits that SR still holds: OUT goes on without a pull. -/
theorem State.tryOut_held (held : (s.instrAt n).testBit 11 = false ∨ shiftBits (s.instrAt n) ≤ (s.worker n).count) :
    s.tryOut n = State.tryOut.go n s (s.instrAt n) (shiftBits (s.instrAt n)) := by
  refine if_neg ?_
  rcases held with plain | enough
  · simp [plain]
  · simp [enough]

theorem State.tryOut_pulls {x : Nat} {l : List Nat} (auto : (s.instrAt n).testBit 11 = true)
    (short : (s.worker n).count < shiftBits (s.instrAt n)) (words : (s.worker n).txWords s.nowTick = x :: l) :
    s.tryOut n = State.tryOut.go n (s.setWorker n { s.worker n with tx := (s.worker n).tx.drop 1, sr := x, count := 32 }) (s.instrAt n)
      (shiftBits (s.instrAt n)) := by
  unfold State.tryOut
  dsimp only
  rw [if_pos (by simp [auto, short]), words]

theorem State.tryOut_empty (auto : (s.instrAt n).testBit 11 = true) (short : (s.worker n).count < shiftBits (s.instrAt n))
    (empty : (s.worker n).txWords s.nowTick = []) : s.tryOut n = .stall s 4 := by
  unfold State.tryOut
  dsimp only
  rw [if_pos (by simp [auto, short]), empty]

theorem State.tryOut_go_pins (i k : Nat) (pins : iField i 13 12 = 0) : State.tryOut.go n s i k = .did
    ((s.setWorker n { s.worker n with sr := (takeBits (s.wcfg n 6) (s.worker n).sr k).2, count := (s.worker n).count - k }).writePins n
      false (s.wcfg n 7) (takeBits (s.wcfg n 6) (s.worker n).sr k).1 k) none := by
  unfold State.tryOut.go
  rw [pins]
  rfl

theorem State.tryOut_go_nowhere (i k : Nat) (nowhere : iField i 13 12 = 3) : State.tryOut.go n s i k = .did
    (s.setWorker n { s.worker n with sr := (takeBits (s.wcfg n 6) (s.worker n).sr k).2, count := (s.worker n).count - k }) none := by
  unfold State.tryOut.go
  rw [nowhere]
  rfl

theorem State.tryDeliver_full (full : s.rxRoom n = 0) : s.tryDeliver n = .stall s 5 := if_pos full

theorem State.tryIn_pins (levels : Nat) (noDeliver : (s.instrAt n).testBit 11 = false) (pins : iField (s.instrAt n) 13 12 = 0) :
    s.tryIn n levels false = .did (s.setWorker n { s.worker n with
      sr := fillBits (s.wcfg n 6) (s.worker n).sr (shiftBits (s.instrAt n)) (gather (s.wcfg n 8) (s.readPins n levels))
      count := min 32 ((s.worker n).count + shiftBits (s.instrAt n)) }) none := by
  simp [State.tryIn, noDeliver, pins]

theorem State.tryIn_full (levels : Nat) (deliver : (s.instrAt n).testBit 11 = true) (zeros : iField (s.instrAt n) 13 12 = 2)
    (reached : s.wcfg n 0xA ≤ min 32 ((s.worker n).count + shiftBits (s.instrAt n))) (full : s.rxRoom n = 0) :
    s.tryIn n levels false = .stall (s.setWorker n { s.worker n with
      sr := fillBits (s.wcfg n 6) (s.worker n).sr (shiftBits (s.instrAt n)) 0
      count := min 32 ((s.worker n).count + shiftBits (s.instrAt n)) }) 5 := by
  unfold State.tryIn
  dsimp only
  rw [if_neg (by decide), if_pos (by simp [deliver, reached]), zeros]
  exact State.tryDeliver_full ((State.rxRoom_setWorker ..).trans full)

theorem State.tryPull_word {x : Nat} {l : List Nat} (words : (s.worker n).txWords s.nowTick = x :: l)
    (toSr : (s.instrAt n).testBit 1 = false) : s.tryPull n = .did (s.setWorker n { s.worker n with
      tx := (s.worker n).tx.drop 1, sr := x, count := 32, f := true }) none := by
  simp [State.tryPull, words, toSr]

theorem State.tryPull_blocks (empty : (s.worker n).txWords s.nowTick = []) (block : (s.instrAt n).testBit 0 = true) :
    s.tryPull n = .stall s 2 := by
  simp [State.tryPull, empty, block]

theorem State.tryPull_misses (empty : (s.worker n).txWords s.nowTick = []) (noBlock : (s.instrAt n).testBit 0 = false) :
    s.tryPull n = .did (s.setWorker n { s.worker n with f := false }) none := by
  simp [State.tryPull, empty, noBlock]

theorem State.tryPush_room (room : s.rxRoom n ≠ 0) : s.tryPush n = .did (s.setWorker n
    { (s.worker n).addRx s.nowTick ((s.worker n).sr, s.nowNs) with sr := 0, count := 0 }) none := by
  simp [State.tryPush, State.pushRx, room]

theorem State.tryPush_lost (full : s.rxRoom n = 0) (noBlock : (s.instrAt n).testBit 0 = false) : s.tryPush n = .did
    ((s.bump (0x5060 + n.val) 7).setWorker n { s.worker n with sr := 0, count := 0 }) none := by
  simp [State.tryPush, full, noBlock]

theorem State.tryWait_level (levels : Nat) (level : iField (s.instrAt n) 13 11 = 0) : s.tryWait n levels none false =
    if (s.readPins n levels).testBit (s.instrAt n % 32) = (s.instrAt n).testBit 5 then .did s none else .stall s 1 := by
  simp [State.tryWait, level]

/-- A WAIT on an edge or on a ring tick always begins with a stall. -/
theorem State.tryWait_event (levels : Nat) (event : iField (s.instrAt n) 13 11 = 1 ∨ iField (s.instrAt n) 13 11 = 6) :
    s.tryWait n levels none false = .stall s 1 := by
  rcases event with rising | tick
  · simp [State.tryWait, rising]
  · simp [State.tryWait, tick]

theorem State.tryWait_rising (levels ns : Nat) {r : Bool} (rising : iField (s.instrAt n) 13 11 = 1)
    (seen : r ≠ (s.wcfg n 0xC).testBit (s.instrAt n % 32)) :
    s.tryWait n levels (some (r, ns)) true = .did (s.setWorker n { s.worker n with stamp := some ns }) none := by
  simp [State.tryWait, rising, seen]

theorem State.tryCmp_equal (equal : iField (s.instrAt n) 13 11 = 0) (toF : (s.instrAt n).testBit 10 = false) :
    s.tryCmp n = .did (s.setWorker n { s.worker n with f := (s.worker n).sr == (s.worker n).cr }) none := by
  simp [State.tryCmp, equal, toF]

theorem State.tryCmp_count (count : iField (s.instrAt n) 13 11 = 4) (toF : (s.instrAt n).testBit 10 = false) :
    s.tryCmp n = .did (s.setWorker n { s.worker n with
      cr := ((s.worker n).cr + 0xFFFFFFFF) % 2 ^ 32
      f := ((s.worker n).cr + 0xFFFFFFFF) % 2 ^ 32 != 0 }) none := by
  unfold State.tryCmp
  dsimp only
  rw [if_neg (by simp [toF]), if_pos count, count, State.worker_setWorker_self, State.setWorker_setWorker]
  rfl

theorem State.tryJmp_always (levels : Nat) (always : iField (s.instrAt n) 13 11 = 0) :
    s.tryJmp n levels = .did s (some (s.instrAt n % 32)) := by
  simp [State.tryJmp, always]

theorem State.tryJmp_f (levels : Nat) (onF : iField (s.instrAt n) 13 11 = 1) :
    s.tryJmp n levels = .did s (if (s.worker n).f then some (s.instrAt n % 32) else none) := by
  simp [State.tryJmp, onF]

theorem State.tryFlag_set (set : iField (s.instrAt n) 13 12 = 0) (quiet : (s.instrAt n).testBit 11 = false) :
    s.tryFlag n = .did (s.setFlagBit n (s.instrAt n % 8) true false) none := by
  simp [State.tryFlag, set, quiet]

theorem State.tryFlag_clearRaise (clear : iField (s.instrAt n) 13 12 = 1) (raises : (s.instrAt n).testBit 11 = true) :
    s.tryFlag n = .did ((s.setFlagBit n (s.instrAt n % 8) false false).raise (0x60 + n.val) 1 corrected
      (packArg [i16 n.val, i16 (s.instrAt n % 8)])) none := by
  simp [State.tryFlag, clear, raises]

theorem State.tryStamp_now (short : (s.instrAt n).testBit 0 = false) (now : (s.instrAt n).testBit 1 = false) (room : s.rxRoom n ≠ 0) :
    s.tryStamp n = .did (s.setWorker n ((s.worker n).addRx s.nowTick (s.nowNs % 1000000000, s.nowNs))) none := by
  have noStall : ¬ s.rxRoom n < 1 := by omega
  simp [State.tryStamp, State.pushRx, short, now, noStall]

end Attempts

/-! ### Completion (R394, R402) -/

section Completion

variable {s : State} {n : Fin 32}

/-- Without a flow entry the words that a worker pushes stay in its FIFO. -/
theorem State.rxFlow_unrouted (k : Nat) (unrouted : s.val (0x5040 + n.val) 2 = 0xFFFF) : State.rxFlow k n s = s := by
  cases k with
  | zero => rfl
  | succ k => exact if_pos (by simp [unrouted])

theorem State.nextAddress_jump (a : Nat) : s.nextAddress n (some a) = s.setWorker n { s.worker n with pc := a } := rfl

theorem State.nextAddress_on (inside : (s.worker n).pc ≠ s.wcfg n 4) :
    s.nextAddress n none = s.setWorker n { s.worker n with pc := ((s.worker n).pc + 1) % 32 } := if_neg inside

theorem State.nextAddress_wrap (last : (s.worker n).pc = s.wcfg n 4) (noFlip : s.flipPending n = false) :
    s.nextAddress n none = s.setWorker n { s.worker n with pc := s.wcfg n 3 } := by
  refine (if_pos last).trans ?_
  rw [if_neg (by simp [noFlip])]

/-- Where the next address is known, completion is one write of the worker. -/
theorem State.complete_of_nextAddress {delay pc : Nat} {jump : Option Nat} {w : Worker}
    (at_ : w = { s.worker n with st := 1, reason := 0, edge := (s.worker n).edge + delay + 1 })
    (next : (s.setWorker n w).nextAddress n jump = (s.setWorker n w).setWorker n { w with pc := pc }) :
    s.complete n delay jump false = (s.setWorker n { w with pc := pc }).disarm (.workerStall n) := by
  subst at_
  unfold State.complete
  dsimp only
  rw [if_neg (by decide), next, State.setWorker_setWorker]

/-- An instruction that is done in a worker without a flow leaves the worker as completion does. -/
theorem State.run_did_unrouted {pc : Nat} {jump : Option Nat} {w : Worker} (unrouted : s.val (0x5040 + n.val) 2 = 0xFFFF)
    (at_ : w = { s.worker n with st := 1, reason := 0, edge := (s.worker n).edge + iField (s.instrAt n) 19 14 + 1 })
    (next : (s.setWorker n w).nextAddress n jump = (s.setWorker n w).setWorker n { w with pc := pc }) :
    (s.run n false (.did s jump)).worker n = { w with pc := pc } := by
  have completed := State.complete_of_nextAddress at_ next
  unfold State.run
  dsimp only
  rw [completed, State.rxFlow_unrouted _ (by simpa using unrouted), State.worker_disarm, State.worker_setWorker_self]

end Completion

/-! ### The commands of the instructions -/

section Commands

variable {s : State} {n : Fin 32}

theorem State.ready_eq_false (wrong : (s.worker n).st ≠ 1 ∨ s.nowTick < (s.worker n).edgeTick (s.worker n).edge) (op : Nat) :
    s.ready n op = false := by
  rcases wrong with stopped | early
  · simp [State.ready, stopped]
  · simp [State.ready, early]

/-- An instruction whose edge has come runs to what its attempt gives. -/
theorem done_of_ready {op : Nat} {a r : Try} {t : State} (ready : s.ready n op = true) (attempt : a = r) (ran : t = s.run n false r) :
    done (if s.ready n op then s.run n false a else s) = .next t := by
  subst attempt ran
  exact congrArg done (if_pos ready)

theorem execWorkerWait_of_tryWait {levels : BitVec 32} {t : State} (ready : s.ready n 6 = true)
    (ran : t = s.run n false (s.tryWait n levels.toNat none false)) :
    execWorkerWait n levels s = .next (if s.wu.ringTicks[clusterOf n] = some s.nowTick then t.tickWorker n else t) := by
  subst ran
  exact congrArg done (if_pos ready)

theorem execStallEnd_running (levels : BitVec 32) (edge : Option (Bool × Nat)) (running : (s.worker n).st ≠ 2) :
    execStallEnd n levels edge s = .next s := congrArg done (if_pos (by simpa using running))

theorem execStallEnd_pull {x : Nat} {l : List Nat} (levels : BitVec 32) (edge : Option (Bool × Nat)) (stalled : (s.worker n).st = 2)
    (pull : iField (s.instrAt n) 23 20 = 3) (words : (s.worker n).txWords s.nowTick = x :: l)
    (toSr : (s.instrAt n).testBit 1 = false) : execStallEnd n levels edge s = .next (s.run n true (.did
      (s.setWorker n { s.worker n with tx := (s.worker n).tx.drop 1, sr := x, count := 32, f := true }) none)) := by
  unfold execStallEnd
  rw [if_neg (by simp [stalled]), pull, ← State.tryPull_word words toSr]
  rfl

theorem execStallEnd_rising {r : Bool} (levels : BitVec 32) (ns : Nat) (stalled : (s.worker n).st = 2)
    (wait : iField (s.instrAt n) 23 20 = 6) (rising : iField (s.instrAt n) 13 11 = 1)
    (seen : r ≠ (s.wcfg n 0xC).testBit (s.instrAt n % 32)) : execStallEnd n levels (some (r, ns)) s = .next
      (s.run n true (.did (s.setWorker n { s.worker n with stamp := some ns }) none)) := by
  unfold execStallEnd
  rw [if_neg (by simp [stalled]), wait, ← State.tryWait_rising levels.toNat ns rising seen]
  rfl

end Commands

/-- Settles O34: a command whose edge has come runs to what its attempt gives, and each attempt is the equation of its operands. -/
theorem workerInstructions : Obligations.WorkerInstructions := by
  unfold Obligations.WorkerInstructions
  refine ⟨fun n s ready => done_of_ready ready rfl rfl, ?outPins, ?outPulled, ?outStall, ?inPins, ?inFull,
    fun n x l s ready words toSr => done_of_ready ready (State.tryPull_word words toSr) rfl,
    fun n s ready empty block => done_of_ready ready (State.tryPull_blocks empty block) rfl,
    fun n s ready empty noBlock => done_of_ready ready (State.tryPull_misses empty noBlock) rfl,
    fun n s ready room => done_of_ready ready (State.tryPush_room room) rfl,
    fun n s ready full noBlock => done_of_ready ready (State.tryPush_lost full noBlock) rfl,
    fun n s ready => done_of_ready ready rfl rfl, ?waitLevel, ?waitEvent, ?cmpEqual, ?cmpCount, ?jmp, ?jmpF, ?flagSet, ?flagClear,
    ?stamp, fun n levels edge x l s => execStallEnd_pull levels edge, fun n levels r ns s => execStallEnd_rising levels ns,
    fun n levels edge s => execStallEnd_running levels edge, ?early, ?next, ?wrap⟩
  case outPins =>
    rintro n _ _ _ s ready rfl rfl rfl held pins
    exact done_of_ready ready ((State.tryOut_held held).trans (State.tryOut_go_pins _ _ pins)) rfl
  case outPulled =>
    rintro n _ _ _ x l s ready rfl rfl rfl auto short words nowhere
    refine done_of_ready ready ((State.tryOut_pulls auto short words).trans (State.tryOut_go_nowhere _ _ nowhere)) ?_
    simp
  case outStall =>
    rintro n _ _ s ready rfl rfl auto short empty
    exact done_of_ready ready (State.tryOut_empty auto short empty) rfl
  case inPins =>
    rintro n levels _ _ _ s ready rfl rfl rfl noDeliver pins
    exact done_of_ready ready (State.tryIn_pins _ noDeliver pins) rfl
  case inFull =>
    rintro n levels _ _ _ s ready rfl rfl rfl deliver zeros reached full
    exact done_of_ready ready (State.tryIn_full _ deliver zeros reached full) rfl
  case waitLevel =>
    rintro n levels _ s ready rfl level
    refine execWorkerWait_of_tryWait ready ?_
    rw [State.tryWait_level _ level]
    split
    · rfl
    · rfl
  case waitEvent =>
    intro n levels s ready event
    exact execWorkerWait_of_tryWait ready (by rw [State.tryWait_event _ event]; rfl)
  case cmpEqual =>
    rintro n _ s ready rfl equal toF
    exact done_of_ready ready (State.tryCmp_equal equal toF) rfl
  case cmpCount =>
    rintro n _ s ready rfl count toF
    exact done_of_ready ready (State.tryCmp_count count toF) rfl
  case jmp =>
    rintro n levels _ s ready rfl always
    exact done_of_ready ready (State.tryJmp_always _ always) rfl
  case jmpF =>
    rintro n levels _ s ready rfl onF
    exact done_of_ready ready (State.tryJmp_f _ onF) rfl
  case flagSet =>
    rintro n _ s ready rfl set quiet
    exact done_of_ready ready (State.tryFlag_set set quiet) rfl
  case flagClear =>
    rintro n _ s ready rfl clear raises
    exact done_of_ready ready (State.tryFlag_clearRaise clear raises) rfl
  case stamp =>
    rintro n _ s ready rfl short now room
    exact done_of_ready ready (State.tryStamp_now short now room) rfl
  case early =>
    intro n s wrong
    exact congrArg done (if_neg (by simp [State.ready_eq_false wrong]))
  case next =>
    intro n jump s unrouted inside
    refine State.run_did_unrouted unrouted rfl ?_
    cases jump with
    | some a => exact (State.nextAddress_jump a).trans (by simp)
    | none => exact (State.nextAddress_on (by simpa using inside)).trans (by simp)
  case wrap =>
    intro n s unrouted last noFlip
    rw [State.run_did_unrouted unrouted rfl (pc := s.wcfg n 3)
      ((State.nextAddress_wrap (by simpa using last) (by simpa using noFlip)).trans (by simp))]

end Sys2Proof.Machine
end

section
/-!
Control of the workers: starts, restarts, stops, ring ticks and the stall limit (R396 to R398, R404).
-/

namespace Sys2Proof.Machine

variable {s : State} {n : Fin 32}

/-! ### Starts and stops (R397) -/

theorem State.startWorker_held (held : s.isolated (34 + (clusterOf n).val) = true ∨ s.startedNow n = true) : s.startWorker n = s :=
  if_pos (by simpa using held)

/-- A start without a waiting set sets the worker up at this tick, and counts. -/
theorem State.startWorker_free (free : s.isolated (34 + (clusterOf n).val) = false) (first : s.startedNow n = false)
    (noFlip : s.flipPending n = false) : s.startWorker n = ((((s.startAt n).setWorker n { (s.startAt n).worker n with
      startTick := some s.nowTick, ran := (s.worker n).st == 1 || (s.worker n).st == 2 }).bump (0x5060 + n.val) 0xA).disarm
        (.workerStall n)) := by
  refine (if_neg (by simp [free, first])).trans ?_
  dsimp only
  rw [if_neg (by simp [noFlip])]

theorem State.worker_startAt_of_ne {m : Fin 32} (other : n ≠ m) : (s.startAt n).worker m = s.worker m :=
  State.worker_setWorker_of_ne _ other _

theorem State.worker_startWorker_of_ne {m : Fin 32} (other : n ≠ m) (noFlip : s.flipPending n = false) :
    (s.startWorker n).worker m = s.worker m := by
  by_cases held : s.isolated (34 + (clusterOf n).val) = true ∨ s.startedNow n = true
  · rw [State.startWorker_held held]
  · obtain ⟨free, first⟩ : s.isolated (34 + (clusterOf n).val) = false ∧ s.startedNow n = false := by simpa using held
    rw [State.startWorker_free free first noFlip, State.worker_disarm, State.worker_bump, State.worker_setWorker_of_ne _ other,
      State.worker_startAt_of_ne other]

theorem State.restartWorker_stopped (stopped : (s.worker n).st = 0) : s.restartWorker n = s := if_neg (by simp [stopped])

theorem State.stopWorker_stalled (noFlip : s.flipPending n = false) (first : s.startedNow n = false) (stalled : (s.worker n).st = 2) :
    s.stopWorker n = (s.setWorker n { s.worker n with st := 0, reason := 0 }).disarm (.workerStall n) := by
  have halts : (decide ((s.worker n).st = 1) || decide ((s.worker n).st = 2)) = true := by simp [stalled]
  refine (if_neg (by simp [first])).trans ?_
  dsimp only
  rw [if_pos halts]
  exact if_neg fun flips => Bool.eq_false_iff.1 noFlip (Bool.and_eq_true_iff.1 flips).1

/-! ### Stalls and ring ticks (R396, R398) -/

theorem execWorkerStall_due (due : s.due (.workerStall n) = true) (stalled : (s.worker n).st = 2) : execWorkerStall n s = .next
    (((s.disarm (.workerStall n)).bump (0x5060 + n.val) 9).raise (0x60 + n.val) 3 corrected
      (packArg [i16 n.val, i16 (s.worker n).reason, i16 (s.worker n).pc])) := by
  unfold execWorkerStall
  rw [State.onDue_of_due _ _ _ due]
  exact congrArg done (if_pos stalled)

theorem State.beginStall_limited (reason : Nat) (limited : s.val (0x5040 + n.val) 4 ≠ 0) : s.beginStall n reason =
    (s.setWorker n { s.worker n with st := 2, reason := reason }).arm (.workerStall n) (nsec (s.val (0x5040 + n.val) 4)) :=
  if_neg limited

theorem State.tickWorker_waiting (stalled : (s.worker n).st = 2) (wait : iField (s.instrAt n) 23 20 = 6)
    (onTick : iField (s.instrAt n) 13 11 = 6) : s.tickWorker n =
      (s.setWorker n { (s.worker n).restart s.nowTick with edge := 0 }).complete n (iField (s.instrAt n) 19 14) none true :=
  if_pos (by simp [stalled, wait, onTick])

/-- Settles O35: the words of the window by definition, a start and a stop by what holds them back, and the ring tick by who waits. -/
theorem workerControl : Obligations.WorkerControl := by
  unfold Obligations.WorkerControl
  refine ⟨fun rq m s => rfl, fun rq m s => rfl, fun rq m s => rfl, ?starts, fun n s => State.startWorker_held,
    fun n m s other noFlip => State.worker_startWorker_of_ne other noFlip, fun n s => State.restartWorker_stopped, ?stops,
    fun n s => execWorkerStall_due, fun n s notDue => congrArg done (s.onDue_of_not_due _ _ notDue),
    fun n reason s => State.beginStall_limited reason, fun c s now => congrArg done (if_pos now), fun n s => State.tickWorker_waiting⟩
  case starts =>
    intro n s free first noFlip
    rw [State.startWorker_free free first noFlip, State.worker_disarm, State.worker_bump, State.worker_setWorker_self]
    unfold State.startAt
    rw [State.worker_setWorker_self]
  case stops =>
    intro n s noFlip first stalled
    rw [State.stopWorker_stalled noFlip first stalled, State.worker_disarm, State.worker_setWorker_self]

end Sys2Proof.Machine
end

section
/-!
Worker ports (R399, R401 to R403, R407): what the words of the worker window mean, the FIFOs, and the quadrature helpers.
-/

namespace Sys2Proof.Machine

/-! ### Words of the window as bytes (R8) -/

theorem wordsOf_append {word bytes : List Byte} (four : word.length = 4) : wordsOf (word ++ bytes) = leNat word :: wordsOf bytes := by
  have count : (word ++ bytes).length / 4 = bytes.length / 4 + 1 := by
    rw [List.length_append, four]
    omega
  have later (i : Nat) : leAt (word ++ bytes) (4 * (i + 1)) 4 = leAt bytes (4 * i) 4 := by
    unfold leAt
    refine congrArg leNat (List.map_congr_left fun k _ => ?_)
    rw [List.getD_append_right _ _ _ _ (by omega), four, show 4 * (i + 1) + k - 4 = 4 * i + k by omega]
  have first : leAt (word ++ bytes) (4 * 0) 4 = leNat word := by
    refine congrArg leNat (List.ext_getElem (by simp [four]) fun k _ inside => ?_)
    simp [List.getElem?_append_left inside, inside]
  simp only [wordsOf, count, List.range_succ_eq_map, List.map_cons, List.map_map, Function.comp_def, first, later]

theorem wordsOf_flatten (words : List (BitVec 32)) :
    wordsOf (words.map fun w => leBytes 4 w.toNat).flatten = words.map BitVec.toNat := by
  induction words with
  | nil => rfl
  | cons w words ih =>
    rw [List.map_cons, List.flatten_cons, wordsOf_append (leBytes_length 4 w.toNat), ih, leNat_leBytes, List.map_cons,
      Nat.mod_eq_of_lt (show w.toNat < 256 ^ 4 from w.isLt)]

theorem length_flatten_leBytes (words : List (BitVec 32)) :
    (words.map fun w => leBytes 4 w.toNat).flatten.length = 4 * words.length := by
  simpa using flatten_leBytes_words_length ⟨words.toArray, rfl⟩

section Window

variable (s : State) (n : Fin 32) (words : List (BitVec 32))

/-- Words at an address of a bank (R399). -/
theorem State.workerWrite_bank (bank : Fin 2) (addr : Fin 32) (some_ : 0 < words.length) (inside : addr.val + words.length ≤ 32) :
    s.workerWrite (0x20000000 + 0x1000 * n.val + 0x80 * bank.val + 4 * addr.val) (words.map fun w => leBytes 4 w.toNat).flatten =
      s.bankWrite n bank.val addr.val (words.map BitVec.toNat) := by
  have hn := n.isLt
  have hb := bank.isLt
  have ha := addr.isLt
  obtain ⟨rel, at_⟩ : ∃ rel, rel = 0x1000 * n.val + 0x80 * bank.val + 4 * addr.val := ⟨_, rfl⟩
  have offset : (0x20000000 + 0x1000 * n.val + 0x80 * bank.val + 4 * addr.val) % 0x10000000 = rel := by omega
  have worker : Fin.ofNat 32 (rel / 0x1000) = n := Fin.ext (by simp only [Fin.ofNat]; omega)
  have place : rel % 0x1000 = 0x80 * bank.val + 4 * addr.val := by omega
  have bankNo : (0x80 * bank.val + 4 * addr.val) / 0x80 = bank.val := by omega
  have addrNo : (0x80 * bank.val + 4 * addr.val) % 0x80 / 4 = addr.val := by omega
  unfold State.workerWrite
  dsimp only
  rw [offset, place, worker, wordsOf_flatten, length_flatten_leBytes, bankNo, addrNo, if_neg (by omega), if_pos (by omega),
    if_pos (by omega), if_pos]
  simp only [Bool.and_eq_true, decide_eq_true_eq, bne_iff_ne, ne_eq]
  omega

/-- Words for the TX FIFO (R401). -/
theorem State.workerWrite_tx (some_ : 0 < words.length) (fits : words.length ≤ 16) :
    s.workerWrite (0x20000100 + 0x1000 * n.val) (words.map fun w => leBytes 4 w.toNat).flatten =
      s.txWrite n (words.map BitVec.toNat) := by
  have hn := n.isLt
  have offset : (0x20000100 + 0x1000 * n.val) % 0x10000000 = 0x1000 * n.val + 0x100 := by omega
  have worker : Fin.ofNat 32 ((0x1000 * n.val + 0x100) / 0x1000) = n := Fin.ext (by simp only [Fin.ofNat]; omega)
  have place : (0x1000 * n.val + 0x100) % 0x1000 = 0x100 := by omega
  unfold State.workerWrite
  dsimp only
  rw [offset, place, worker, wordsOf_flatten, length_flatten_leBytes, if_neg (by omega), if_pos (by omega), if_neg (by decide),
    if_pos rfl, if_pos]
  simp only [Bool.and_eq_true, decide_eq_true_eq, bne_iff_ne, ne_eq]
  omega

end Window

/-! ### Banks (R399) -/

section Banks

variable {s : State} {n : Fin 32} {bank addr : Nat}

@[simp] theorem State.noteSave_wu (s : State) : s.noteSave.wu = s.wu := by
  unfold State.noteSave
  dsimp only
  split <;> split <;> rfl

theorem State.bankWrite_active (l : List Nat) (active : s.wcfg n 1 = bank) : s.bankWrite n bank addr l = (s, .inUse) := if_pos active

/-- A write of a bank that no set touches is stored where every instruction is allowed. -/
theorem State.bankWrite_free (l : List Nat) (other : s.wcfg n 1 ≠ bank) (noSet : (s.group (0x5020 + n.val)).pending = none) :
    s.bankWrite n bank addr l = if !l.all instrOk then (s, .range) else ((s.storeProg n bank addr l).noteSave, .ok) := by
  unfold State.bankWrite
  dsimp only
  rw [noSet, if_neg other]
  rfl

theorem State.progWord_storeProg (w : Nat) : (s.storeProg n bank addr [w]).progWord n bank addr = w := by
  unfold State.progWord State.storeProg
  by_cases zero : w = 0
  · simp [zero]
  · simp [zero]

end Banks

/-! ### FIFOs (R401, R402) -/

section Fifos

variable {s : State} {n : Fin 32}

theorem State.rxRead_flow (k : Nat) (routed : s.val (0x5040 + n.val) 2 ≠ 0xFFFF) : s.rxRead n k = (s, .inUse, []) :=
  if_pos (by simpa using routed)

theorem State.rxRead_own {k : Nat} (unrouted : s.val (0x5040 + n.val) 2 = 0xFFFF) (some_ : 0 < k) (fits : k ≤ 16) : s.rxRead n k =
    if ((s.worker n).rxWords s.nowTick).length < k then (s, .busyRetry, []) else
      (s.setWorker n { s.worker n with rx := (s.worker n).rx.drop k }, .ok,
        (((s.worker n).rx.take k).map fun x => leBytes 4 x.1).flatten) :=
  (if_neg (by simp [unrouted])).trans (if_neg (by simp; omega))

/-- A delivery is of whole words, at most 16, for which the FIFO has room; any other is discarded. -/
theorem execWorkerDeliver_taken {p : List Byte} (whole : p.length % 4 = 0) (some_ : p ≠ []) (fits : p.length ≤ 64)
    (room : p.length / 4 ≤ s.txRoom n) : execWorkerDeliver n p s = .next (s.setWorker n ((s.worker n).addTx s.nowTick
      ((List.range (p.length / 4)).map fun i => beAt p (4 * i) 4))) := by
  have length := List.length_pos_of_ne_nil some_
  refine congrArg done (if_neg ?_)
  simp [whole]
  omega

theorem execWorkerDeliver_discarded {p : List Byte}
    (bad : p.length % 4 ≠ 0 ∨ p = [] ∨ 64 < p.length ∨ s.txRoom n < p.length / 4) :
    execWorkerDeliver n p s = .next (s.bump (0x5060 + n.val) 8) := by
  refine congrArg done (if_pos ?_)
  rcases bad with part | rfl | long | noRoom
  · simp [part]
  · simp
  · simp
    omega
  · simp [noRoom]

end Fifos

/-! ### Quadrature helpers (R403) -/

section Helpers

variable {s : State} {h : Fin 16}

/-- ×1 counts the rising edges of A; A leads where B is low. -/
theorem execHelperTransition_risingA (b : Bool) (ns : Nat) (enabled : s.flag (0x5120 + h.val) 1 = true)
    (once : s.val (0x5120 + h.val) 2 = 0) (plain : s.flag (0x5120 + h.val) 3 = false) (first : (s.helper h).lastA = none) :
    execHelperTransition h true true b false ns s = .next
      (((s.setHelper h { s.helper h with lastA := some ns }).setVal (0x5120 + h.val) 6
        (ofSigned 32 (toSigned 32 (s.val (0x5120 + h.val) 6) + if b then -1 else 1))).setVal (0x5120 + h.val) 7 (time80 (nsec ns))) := by
  have step : quadStep true true b = if b then -1 else 1 := by cases b <;> rfl
  unfold execHelperTransition
  dsimp only
  rw [if_neg (by simp [enabled]), plain, once, if_pos rfl, first, step]
  rfl

theorem execHelperTransition_together (a b : Bool) (ns : Nat) (enabled : s.flag (0x5120 + h.val) 1 = true) :
    execHelperTransition h true a b true ns s = .next ((s.setHelper h { s.helper h with lastA := some ns }).encoderError h) :=
  congrArg done ((if_neg (by simp [enabled])).trans (if_pos rfl))

end Helpers

/-- Settles O36: a write of the window by the words its bytes spell, a bank by what uses it, a FIFO by its words and its room, and a
helper by its configuration. -/
theorem workerPorts : Obligations.WorkerPorts := by
  unfold Obligations.WorkerPorts
  refine ⟨?bank, fun n bank addr l s => State.bankWrite_active l, ?reserved, ?stored, ?tx, fun n l s => rfl, fun rq n k s => rfl,
    fun n k s => State.rxRead_flow k, fun n k s => State.rxRead_own, fun n p s => execWorkerDeliver_taken,
    fun n p s => execWorkerDeliver_discarded, fun rq v s => rfl, fun h b ns s => execHelperTransition_risingA b ns,
    fun h a b ns s => execHelperTransition_together a b ns, ?disabled, ?index, ?unlatched⟩
  case bank =>
    intro rq n bank addr words s some_ inside
    exact congrArg (fun k => done (s.hwWrite rq _ _ k)) (funext fun t => t.workerWrite_bank n words bank addr some_ inside)
  case reserved =>
    intro n bank addr l s other noSet reserved
    rw [State.bankWrite_free l other noSet, if_pos (by simp [reserved])]
  case stored =>
    intro n bank addr w s other noSet allowed _ _
    rw [State.bankWrite_free [w] other noSet, if_neg (by simp [allowed])]
    refine ⟨rfl, ?_⟩
    rw [State.progWord, State.noteSave_wu]
    exact State.progWord_storeProg w
  case tx =>
    intro rq n words s some_ fits
    exact congrArg (fun k => done (s.hwWrite rq _ _ k)) (funext fun t => t.workerWrite_tx n words some_ fits)
  case disabled => exact fun h onA a b together ns s disabled => congrArg done (if_pos (by simp [disabled]))
  case index => exact fun h ns s enabled latch => congrArg done (if_pos (by simp [enabled, latch]))
  case unlatched => exact fun h ns s off => congrArg done (if_neg (by simp [off]))

end Sys2Proof.Machine
end

section
/-!
The hardware safe state, FAULT_N and the scrub of the configuration (R425 to R430).
-/

namespace Sys2Proof.Machine

variable {s : State}

/-! ### Entry and exit (R425, R427) -/

/-- In the safe state a further cause is only noted. -/
theorem State.enterSafe_again (cause : Nat) (safe : s.safe = true) :
    s.enterSafe cause = s.setVal 0x6000 2 (s.val 0x6000 2 ||| 2 ^ cause) := if_pos safe

/-- Entry of a hub without a partner: its outputs, ports and workers go safe, then the record is written and the shadow opens. -/
theorem State.enterSafe_first (cause : Nat) {t : State} (free : s.safe = false)
    (outputs : t = (((((State.dioSafe ((s.setVal 0x6000 2 (s.val 0x6000 2 ||| 2 ^ cause)).wakeTo 0)).setFlag 0x6000 1
      true).cansSafe).sersSafe).sdcisSafe).workersSafe.driveFaultN)
    (alone : t.paired = false) : s.enterSafe cause =
      ((t.ownPlain 9 contained (packArg [i16 (s.val 0x6000 2 ||| 2 ^ cause)])).2).openShadow safeShadowCodes (msec 10)
        (t.ownPlain 9 contained (packArg [i16 (s.val 0x6000 2 ||| 2 ^ cause)])).1 0 := by
  unfold State.enterSafe
  dsimp only
  rw [if_neg (by simp [free]), ← outputs, if_neg (by simp [alone])]

theorem safeExitFx_free (free : s.safe = false) : safeExitFx s = s := if_pos (by simp [free])

theorem safeExitFx_alone (safe : s.safe = true) (alone : s.paired = false) : safeExitFx s = s.exitSafe := by
  refine (if_neg (by simp [safe])).trans ?_
  dsimp only
  rw [if_neg (by simp [alone])]

theorem State.exitSafe_free (free : s.safe = false) : s.exitSafe = s := if_pos (by simp [free])

theorem State.exitSafe_safe {t : State} (safe : s.safe = true)
    (resumed : t = ((((s.setVal 0x6000 2 0).setFlag 0x6000 1 false).driveFaultN.cansUnsafe).sersRole).sdcisSafe) :
    s.exitSafe = (State.ownEvent t 10 corrected (packArg [i16 (s.val 0x6000 2)])).2 := by
  unfold State.exitSafe
  dsimp only
  rw [if_neg (by simp [safe]), ← resumed]

/-- Settles O37: an entry and an exit by whether the safe state holds, and each edge, key and scrub result by definition. -/
theorem safeState : Obligations.SafeState := by
  unfold Obligations.SafeState
  refine ⟨fun cause s => State.enterSafe_again cause, fun cause t s free _ => State.enterSafe_first cause free, fun s => rfl,
    fun s => rfl, ?held, fun rq v s => rfl, fun s => safeExitFx_free, fun s => safeExitFx_alone, fun s => State.exitSafe_free,
    fun t s => State.exitSafe_safe, fun rq v s => rfl, fun s => rfl, fun copy word s => rfl, fun copy word s => rfl, fun word s => rfl⟩
  case held =>
    rintro _ s rfl
    rfl

end Sys2Proof.Machine
end

section
/-!
Messages of the collector and their reactions (R417, R419 to R423, R431 to R433, R436).
-/

namespace Sys2Proof.Machine

variable {s : State}

/-! ### The head of the queue (R417, R446) -/

theorem execCollectorMessage_waits (waits : s.rcd.starting = true) : execCollectorMessage s = .next s := congrArg done (if_pos waits)

theorem execCollectorMessage_none (restored : s.rcd.starting = false) (empty : s.coll.queue = []) :
    execCollectorMessage s = .next s := by
  refine congrArg done ((if_neg (by simp [restored])).trans ?_)
  rw [empty]

/-- The message at the head is taken, and MESSAGE_OVERRUN follows it where messages were lost. -/
theorem execCollectorMessage_taken {m : Msg} {l : List Msg} {t : State} (restored : s.rcd.starting = false)
    (head : s.coll.queue = m :: l)
    (taken : t = State.takeMessage { s with coll := { s.coll with queue := l, overrunRun := 0 } } m) :
    execCollectorMessage s = .next (if s.coll.overrunRun = 0 then { t with rcd := { t.rcd with early := t.rcd.early - 1 } }
      else (State.ownFull { t with rcd := { t.rcd with early := t.rcd.early - 1 } } 4 corrected (packArg [i32 s.coll.overrunRun])).2) := by
  refine congrArg done ((if_neg (by simp [restored])).trans ?_)
  rw [head]
  dsimp only
  rw [← taken]

/-! ### The reactions to a message (R421, R431) -/

section Reactions

variable {m : Msg} {mask : Nat}

/-- A shadowed message is recorded as consequential, and nothing else. -/
theorem State.takeMessage_shadowed {x : Shadow} (covered : (s.noteTaken m).shadowOf (eventCode m.source m.kind) = some x) :
    s.takeMessage m = (((s.noteTaken m).bump 0x6000 0xA).recordMsg m 1 4 x.link).2 := by
  unfold State.takeMessage
  dsimp only
  rw [covered]

/-- A message of no block has the safe state, FAULT_N, its record and its interrupts. -/
theorem State.takeMessage_noBlock {u : State} (noted : u = s.noteTaken m) (masked : mask = u.maskOf m)
    (plain : u.shadowOf (eventCode m.source m.kind) = none) (noBlock : blockOf m.source = none) (noReset : mask.testBit 6 = false) :
    s.takeMessage m = (((if mask.testBit 8 then u.enterSafe 0 else u).latchFaultN mask).recordMsg m mask
      (if u.escalates m mask then 8 else 0) 0).2 := by
  unfold State.takeMessage
  dsimp only
  rw [← noted, plain, ← masked, noBlock]
  exact if_neg (by simp [noReset])

/-- One that orders an isolation isolates its block after the record. -/
theorem State.takeMessage_isolates {b : Nat} {u : State} {w : Nat × State} (noted : u = s.noteTaken m) (masked : mask = u.maskOf m)
    (plain : u.shadowOf (eventCode m.source m.kind) = none) (block : blockOf m.source = some b) (noSafe : mask.testBit 8 = false)
    (noReset : mask.testBit 6 = false) (isolates : mask.testBit 5 = true)
    (recorded : w = (u.latchFaultN mask).recordMsg m mask (if u.escalates m mask then 8 else 0) 0) :
    s.takeMessage m = (w.2.wakeTo 0).isolateFor b (eventCode m.source m.kind) w.1 := by
  unfold State.takeMessage
  dsimp only
  rw [← noted, plain, ← masked, block, if_neg (by simp [noReset]), if_neg (c := mask.testBit 8 = true) (by simp [noSafe])]
  dsimp only
  rw [← recorded, if_pos isolates]

/-! ### The record of a message (R436) -/

theorem State.recordMsg_admitted {w : State} (flags link : Nat)
    (admitted : s.admitRecord (eventCode m.source m.kind) m.cls = (true, w)) (records : mask.testBit 0 = true) :
    s.recordMsg m mask flags link = ((State.writeRecord w m flags link).1.seq,
      ((w.writeRecord m flags link).2.resolveShadows (eventCode m.source m.kind) (w.writeRecord m flags link).1.seq).interrupts
        mask (w.writeRecord m flags link).1) := by
  unfold State.recordMsg
  dsimp only
  rw [admitted]
  exact (if_neg (by simp)).trans (if_pos records)

theorem State.recordMsg_suppressed {w : State} (flags link : Nat)
    (refused : s.admitRecord (eventCode m.source m.kind) m.cls = (false, w)) : s.recordMsg m mask flags link =
      (0, (State.suppress w (eventCode m.source m.kind)).resolveShadows (eventCode m.source m.kind) 0) := by
  unfold State.recordMsg
  dsimp only
  rw [refused]
  exact if_pos rfl

/-- The rate limit lets every FATAL message pass. -/
theorem State.admitRecord_fatal (s : State) (code : Nat) : (s.admitRecord code fatal).1 = true := Bool.or_true _

end Reactions

/-! ### Isolation, reset and release of a block (R422, R431 to R433) -/

section Blocks

variable {b : Nat} (code seq : Nat)

theorem State.isolateFor_isolated (isolated : s.isolated b = true) : s.isolateFor b code seq = s := if_pos isolated

theorem State.isolateFor_free {w : Nat × State} (free : s.isolated b = false)
    (event : w = s.ownFull 7 contained (packArg [i16 b, i16 code, i32 seq])) :
    s.isolateFor b code seq = (State.isolate w.2 b).openShadow (blockCodes b) (settleTime b) w.1 0 := by
  subst event
  exact if_neg (by simp [free])

/-- The resets that still count, with the one now ordered (R432). -/
def State.noteReset (s : State) (b : Nat) : State :=
  { s with coll := { s.coll with
    resets := (s.coll.resets.filter fun (r : Nat × Nat) => s.uptime ≤ r.2 + secs 10) ++ [(b, s.uptime)] } }

theorem State.resetFor_few {w : Nat × State} (few : (s.recentResets b).length < 2)
    (event : w = (s.noteReset b).ownFull 6 corrected (packArg [i16 b, i16 code, i32 seq])) :
    s.resetFor b code seq = ((w.2.bump 0x6001 3).resetBlock b).openShadow (blockCodes b) (settleTime b) w.1 0 := by
  subst event
  exact if_neg (by omega)

theorem State.resetFor_third (third : 2 ≤ (s.recentResets b).length) (notMgmt : b ≠ 7) : s.resetFor b code seq =
    ((((s.noteReset b).ownFull 5 fatal (packArg [i16 b, i16 code])).2).bump 0x6000 0xB).isolateFor b code seq :=
  (if_pos third).trans (if_neg notMgmt)

end Blocks

/-! ### The end of a shadow (R431) -/

section Shadows

/-- What an earlier shadow inherits from an ended one bears its own number. -/
theorem id_of_mem_inheritShadow {x y z : Shadow} (mem : z ∈ inheritShadow x y) : z.id = y.id := by
  unfold inheritShadow at mem
  split at mem
  · rcases List.mem_pair.1 mem with rfl | rfl
    · rfl
    · rfl
  · rw [List.mem_singleton.1 mem]

theorem ids_of_foldl_inheritShadow {id : Nat} (ended l : List Shadow) (others : ∀ y ∈ l, y.id ≠ id) :
    ∀ y ∈ ended.foldl (fun l x => l.flatMap (inheritShadow x)) l, y.id ≠ id := by
  induction ended generalizing l with
  | nil => exact others
  | cons x ended ih =>
    refine ih _ fun z mem => ?_
    obtain ⟨y, held, inherited⟩ := List.mem_flatMap.1 mem
    rw [id_of_mem_inheritShadow inherited]
    exact others y held

theorem State.id_ne_of_mem_endShadow (s : State) (id : Nat) : ∀ y ∈ (s.endShadow id).coll.shadows, y.id ≠ id :=
  ids_of_foldl_inheritShadow _ _ fun y mem => by simpa using (List.mem_filter.1 mem).2

/-- A shadow over detectors of its own ends alone. -/
theorem State.shadows_endShadow_disjoint {x : Shadow} {l : List Shadow} (held : s.coll.shadows = l ++ [x])
    (apart : ∀ y ∈ l, y.id ≠ x.id ∧ y.codes.any x.codes.contains = false) : (s.endShadow x.id).coll.shadows = l := by
  have ended : (s.coll.shadows.filter fun y => y.id == x.id) = [x] := by
    rw [held, List.filter_append, List.filter_eq_nil_iff.2 fun y mem => by simpa using (apart y mem).1]
    simp
  have rest : (s.coll.shadows.filter fun y => y.id != x.id) = l := by
    rw [held, List.filter_append, List.filter_eq_self.2 fun y mem => by simpa using (apart y mem).1]
    simp
  have kept : l.flatMap (inheritShadow x) = l.flatMap fun y => [y] :=
    List.flatMap_congr fun y mem => if_neg (by simp only [(apart y mem).2, Bool.and_false]; decide)
  unfold State.endShadow
  dsimp only
  rw [ended, rest, List.foldl_cons, List.foldl_nil, kept, List.flatMap_singleton' l]

end Shadows

/-- Settles O38: a message by its shadow, its block and its mask, a record by the rate limit, a reset by how many came before it, and the
end of a shadow by what the others cover. -/
theorem messagesTaken : Obligations.MessagesTaken := by
  unfold Obligations.MessagesTaken
  refine ⟨fun s => execCollectorMessage_none, fun s => execCollectorMessage_waits, ?alone, ?afterOverrun,
    fun m x s => State.takeMessage_shadowed, fun m u mask s => State.takeMessage_noBlock,
    fun m b u mask w s => State.takeMessage_isolates, fun m mask flags link w s => State.recordMsg_admitted flags link,
    fun m mask flags link w s => State.recordMsg_suppressed flags link, fun code s => s.admitRecord_fatal code,
    fun b code seq s => State.isolateFor_isolated code seq, fun b code seq w s => State.isolateFor_free code seq, ?few, ?third,
    fun id settled s due => congrArg done (if_pos (by simp [due])), fun id s settled => congrArg done (if_pos (by simp [settled])),
    ?early, fun id s => s.id_ne_of_mem_endShadow id, fun x l s => State.shadows_endShadow_disjoint, fun rq v s => rfl, ?release⟩
  case alone =>
    intro m l t s restored head noneLost taken
    exact (execCollectorMessage_taken restored head taken).trans (congrArg done (if_pos noneLost))
  case afterOverrun =>
    intro m l t s restored head lost taken
    exact (execCollectorMessage_taken restored head taken).trans (congrArg done (if_neg lost))
  case few =>
    rintro b code seq _ w s few rfl event
    exact State.resetFor_few code seq few event
  case third =>
    rintro b code seq _ s third notMgmt rfl
    exact State.resetFor_third code seq third notMgmt
  case early =>
    intro id settled s notDue unsettled
    refine congrArg done (if_neg ?_)
    rcases unsettled with notSaid | notMet
    · simp [notDue, notSaid]
    · simp [notDue, notMet]
  case release =>
    rintro b _ s rfl
    rfl

end Sys2Proof.Machine
end

section
/-!
Discovery, joins and the settings push (R448 to R454); commissioning and the ring map (R450, R452, R453, R456, R457).
-/

namespace Sys2Proof.Machine

/-! ### Discovery (R448) -/

section Discovery

variable {s : State}

theorem execDiscoveryWait_due (due : s.due .discovery = true) (noKeeper : s.rs.keeperSerial = 0) (noElection : s.rs.election = none) :
    execDiscoveryWait s = .next (s.disarm .discovery).startElection :=
  congrArg done ((s.onDue_of_due _ _ due).trans (if_pos (by simp [noKeeper, noElection])))

theorem execKeeperQuerySend_due (due : s.due .keeperQuery = true) (notKeeper : s.isKeeper = false) (noKeeper : s.rs.keeperSerial = 0) :
    execKeeperQuerySend s = .next (((s.disarm .keeperQuery).sendRingMsg s.ring 8191 (beBytes 2 0x1000 ++ beBytes 8 s.ident.serial ++
      beBytes 2 s.rs.stored ++ beBytes 4 0)).arm .keeperQuery (secs 1)) := by
  have alone : (s.disarm .keeperQuery).isKeeper = false := notKeeper
  exact congrArg done ((s.onDue_of_due _ _ due).trans (if_neg (by simp [State.hasKeeper, alone, noKeeper])))

end Discovery

/-! ### Messages of a join (R450 to R454) -/

section Join

variable {s : State} {p : RingPort} {f : TakenFrame}

theorem execKeeperQuery_keeper (hears : s.hears p = true) (message : isMsg f 0x10 16 = true) (foreign : senderOf f ≠ s.ident.serial)
    (keeper : s.isKeeper = true) : execKeeperQuery p f s = .next s.announce :=
  congrArg done ((State.takeMsg_taken hears message _).trans (if_pos (by simp [keeper, foreign])))

theorem execJoinReq_notKeeper (hears : s.hears p = true) (message : isMsg f 0x11 48 = true) (notKeeper : s.isKeeper = false) :
    execJoinReq p f s = .next s :=
  congrArg done ((State.takeMsg_taken hears message _).trans (if_pos (by simp [notKeeper])))

/-- A request that comes in EAST has passed as many hops as its position counts from the keeper (R451). -/
theorem execJoinReq_decides (hears : s.hears .east = true) (message : isMsg f 0x11 48 = true) (keeper : s.isKeeper = true)
    (running : s.mgmt.restarting = false) (foreign : senderOf f ≠ s.ident.serial) : execJoinReq .east f s = .next (s.decideJoin
      { serial := senderOf f, stored := beAt f.payload 10 2, position := beAt f.payload 12 2 - f.hdr.hops.toNat,
        westNode := beAt f.payload 14 2, eastNode := beAt f.payload 16 2, westSerial := beAt f.payload 18 8,
        eastSerial := beAt f.payload 26 8, mapVersion := beAt f.payload 34 4, saveSeq := beAt f.payload 38 4,
        flags := beAt f.payload 42 1, variant := beAt f.payload 43 1 }) := by
  refine congrArg done ((State.takeMsg_taken hears message _).trans ((if_neg (by simp [keeper])).trans ?_))
  dsimp only
  rw [if_neg (by simp [running]), if_neg foreign, if_pos rfl]

theorem execJoinRetry_due (due : s.due .joinRetry = true) (asking : s.val 0x2420 5 = 1) :
    execJoinRetry s = .next (s.disarm .joinRetry).sendJoinReq :=
  congrArg done ((s.onDue_of_due _ _ due).trans (if_pos (by simp [asking])))

section Grant

variable (hears : s.hears p = true) (message : isMsg f 0x12 32 = true) (mine : beAt f.payload 10 8 = s.ident.serial)
  (asking : s.val 0x2420 5 = 1)
include hears message mine asking

/-- A grant for this hub is taken while it asks to join. -/
theorem State.takeMsg_grant (k : List Byte → State) : s.takeMsg p f 0x12 32
    (fun _ b => if beAt b 10 8 != s.ident.serial || s.val 0x2420 5 != 1 then s else k b) = k f.payload :=
  (State.takeMsg_taken hears message _).trans (if_neg (by simp [mine, asking]))

theorem execJoinGrant_push (granted : beAt f.payload 21 1 = 0) (push : (beAt f.payload 22 1).testBit 0 = true) :
    execJoinGrant p f s = .next (((({ s with rs := { s.rs with image := [] } }.setVal 0x1001 2 (beAt f.payload 18 2)).setVal 0x1001 1
      (beAt f.payload 20 1)).setVal 0x2420 5 2).disarm .joinRetry) := by
  refine congrArg done ((State.takeMsg_grant hears message mine asking _).trans ?_)
  rw [granted]
  exact if_pos push

theorem execJoinGrant_cycle (granted : beAt f.payload 21 1 = 0) (noPush : (beAt f.payload 22 1).testBit 0 = false) :
    execJoinGrant p f s = .next (({ s with
      rs := { s.rs with grant := some ⟨beAt f.payload 18 2, beAt f.payload 20 1, beAt f.payload 24 4, true⟩ } }.setVal
        0x2420 5 3).disarm .joinRetry) := by
  refine congrArg done ((State.takeMsg_grant hears message mine asking _).trans ?_)
  rw [granted]
  exact if_neg (by simp [noPush])

theorem execJoinGrant_passThrough (passes : beAt f.payload 21 1 = 1) :
    execJoinGrant p f s = .next (((s.setVal 0x1001 4 3).setVal 0x2420 5 5).disarm .joinRetry) := by
  refine congrArg done ((State.takeMsg_grant hears message mine asking _).trans ?_)
  rw [passes]
  rfl

end Grant

theorem execSettingsPushDone_pushed {set : SavedSet} {u v : State} (pushed : s.val 0x2420 5 = 2)
    (cleared : u = { s with rs := { s.rs with image := [], defaultsLoaded := false } })
    (stored : v = ((u.storeSave (u.adoptSet set)).setVal 0x2420 0xB set.seq).raise 7 5 corrected (packArg [i32 set.seq])) :
    execSettingsPushDone set s = .next (((v.loadSettings.setVal 0x1001 1 s.ring).reconfigure v).sendJoinReq) := by
  subst cleared stored
  exact congrArg done (if_neg (by simp [pushed]))

end Join

/-- Settles O11: an alarm that is due acts where no keeper is known, and each message by what the hub is and has asked for. -/
theorem discoveryAndJoining : Obligations.DiscoveryAndJoining := by
  unfold Obligations.DiscoveryAndJoining
  exact ⟨fun s => execDiscoveryWait_due, fun s => execKeeperQuerySend_due, fun p f s => execKeeperQuery_keeper,
    fun p f s => execJoinReq_notKeeper, fun f s => execJoinReq_decides, fun s => execJoinRetry_due, fun p f s => execJoinGrant_push,
    fun p f s => execJoinGrant_cycle, fun p f s => execJoinGrant_passThrough,
    fun set s pushed => execSettingsPushDone_pushed pushed rfl rfl⟩

/-! ### The ring map (R450, R452, R456, R457) -/

section Map

variable {s : State}

theorem execMapWrite_keeper {rq : Requester} {value : List Byte} (permitted : s.checkObject rq (objKey 0x2410 6) .write = .ok)
    (keeper : s.isKeeper = true) (valid : s.mapCheck value = .ok) :
    execMapWrite rq value s = .next ((s.writeMap value).answerWrite rq 6 (objKey 0x2410 6) .ok []) := by
  unfold execMapWrite
  dsimp only
  rw [permitted]
  refine congrArg done ((if_neg (by simp [keeper])).trans ?_)
  rw [valid]

theorem execMapWrite_notKeeper {rq : Requester} (value : List Byte) (permitted : s.checkObject rq (objKey 0x2410 6) .write = .ok)
    (notKeeper : s.isKeeper = false) :
    execMapWrite rq value s = .next (s.answerWrite rq 6 (objKey 0x2410 6) .readOnly []) := by
  unfold execMapWrite
  dsimp only
  rw [permitted]
  exact congrArg done (if_pos (by simp [notKeeper]))

section Update

variable {p : RingPort} {f : TakenFrame} (hears : s.hears p = true) (message : isMsg f 0x13 24 = true)
  (foreign : senderOf f ≠ s.ident.serial) (newer : s.rs.map.version < beAt f.payload 10 4)
include hears message foreign newer

theorem execMapUpdate_renumbers (numbers : beAt f.payload 16 4 ≠ 0) : execMapUpdate p f s = .next (State.arm
    { s with rs := { s.rs with
      renumber := some (beAt f.payload 10 4, beAt f.payload 16 4)
      unmirrored := if s.isBackup then some (s.rs.unmirrored.getD s.uptime) else none } } .mapRead 0) :=
  congrArg done ((State.takeMsg_taken hears message _).trans ((if_neg (by simp [foreign, newer])).trans (if_neg numbers)))

theorem execMapUpdate_plain (plain : beAt f.payload 16 4 = 0) : execMapUpdate p f s = .next (
    let d := State.draw { s with rs := { s.rs with
      renumber := some (beAt f.payload 10 4, 0)
      unmirrored := if s.isBackup then some (s.rs.unmirrored.getD s.uptime) else none } } (secs 10 + 1)
    d.2.arm .mapRead d.1) := by
  refine congrArg done ((State.takeMsg_taken hears message _).trans ((if_neg (by simp [foreign, newer])).trans ?_))
  rw [plain]
  exact if_pos rfl

end Update

/-- A map read for no new numbers is only adopted. -/
theorem execMapReadDelay_plain {u : State} (map : RingMap) (due : s.due .mapRead = true) (plain : s.rs.renumber = none)
    (adopted : u = (s.disarm .mapRead).adoptMap map) :
    execMapReadDelay map s = .next { u with rs := { u.rs with unmirrored := none } } := by
  have noNumbers : (s.disarm .mapRead).rs.renumber = none := plain
  refine congrArg done ((s.onDue_of_due _ _ due).trans ?_)
  dsimp only
  rw [noNumbers, ← adopted]
  cases (s.disarm .mapRead).ownPlace with
  | none => rfl
  | some q => rfl

theorem execMapUpdateTimer_keeper (due : s.due .mapUpdate = true) (keeper : s.isKeeper = true) (some_ : s.rs.map.version ≠ 0) :
    execMapUpdateTimer s = .next ((s.disarm .mapUpdate).sendMapUpdate 0) := by
  have still : (s.disarm .mapUpdate).isKeeper = true := keeper
  exact congrArg done ((s.onDue_of_due _ _ due).trans (if_pos (by simp [still, some_])))

theorem execPositionDrop_keeper {w e : Nat} (running : s.mgmt.restarting = false) (due : s.due .positionDrop = true)
    (dropping : s.rs.dropping = some (w, e)) (keeper : s.isKeeper = true) : execPositionDrop s = .next
      ((State.adoptMap { s.disarm .positionDrop with rs := { s.rs with dropping := none } }
        { s.rs.map with version := s.rs.map.version + 1, positions := splice s.rs.map.positions w e [] }).sendMapUpdate 0) := by
  have named : (s.disarm .positionDrop).rs.dropping = some (w, e) := dropping
  refine congrArg done ((if_neg (by simp [running])).trans ((s.onDue_of_due _ _ due).trans ?_))
  rw [named]
  exact if_pos keeper

end Map

/-- Settles O12: a write of the map by who keeps it, an announced map by its numbers, and the timers by what the keeper holds. -/
theorem ringMapCommands : Obligations.RingMapCommands := by
  unfold Obligations.RingMapCommands
  exact ⟨fun rq value s accepted powered => congrArg done (s.objectWrite_accepted _ _ _ _ accepted powered (.inl rfl)),
    fun rq value s => execMapWrite_keeper, fun rq value s => execMapWrite_notKeeper value, fun p f s => execMapUpdate_renumbers,
    fun p f s => execMapUpdate_plain, fun map s due plain => execMapReadDelay_plain map due plain rfl,
    fun s => execMapUpdateTimer_keeper, fun w e s => execPositionDrop_keeper⟩

end Sys2Proof.Machine
end

section
/-!
Start-up (R443, R444): what a power-on makes of the settings copies in NOR while one of them is being written (R40).
-/

namespace Sys2Proof.Machine

/-! ### The pads go off and nothing else changes (R444) -/

/-- Steps that each only send something, one after the other. -/
theorem State.foldl_out_eq {α : Type} (s : State) (f : State → α → State) (l : List α)
    (sends : ∀ t a, ∃ out, f t a = { t with out := out }) : ∃ out, l.foldl f s = { s with out := out } :=
  List.foldlRecOn (motive := fun t : State => ∃ out, t = { s with out := out }) l _ ⟨_, rfl⟩ fun t only a _ => by
    obtain ⟨out, rfl⟩ := only
    exact sends _ a

theorem State.drive_if_eq (s : State) (on : Bool) (e : Emission) :
    ∃ out, (if on then s.drive e else s) = { s with out := out } := by
  cases on
  · exact ⟨_, rfl⟩
  · exact s.drive_eq e

theorem State.padsOff_eq (s : State) : ∃ out, s.padsOff = { s with out := out } := by
  have low (t : State) (n base level : Nat) : ∃ out, (List.range n).foldl
      (fun (u : State) i => if level.testBit i then u.drive (.pad (base + i) false) else u) t = { t with out := out } :=
    State.foldl_out_eq t _ _ fun u i => u.drive_if_eq (level.testBit i) _
  have sdci (t : State) : ∃ out, (List.finRange 8).foldl (fun (u : State) n =>
      let u1 := if (u.sdciPort n).cq then u.drive (.pad (70 + n.val) false) else u
      if (u.sdciPort n).driven then u1.drive (.pad (78 + n.val) false) else u1) t = { t with out := out } := by
    refine State.foldl_out_eq t _ _ fun u n => ?_
    obtain ⟨out, released⟩ := u.drive_if_eq (u.sdciPort n).cq (.pad (70 + n.val) false)
    dsimp only
    rw [released]
    exact State.drive_if_eq { u with out := out } (u.sdciPort n).driven _
  have workers (t : State) (dir : Nat) : ∃ out, (List.range 32).foldl
      (fun (u : State) i => if dir.testBit i then u.drive (.padOff (32 + i)) else u) t = { t with out := out } :=
    State.foldl_out_eq t _ _ fun u i => u.drive_if_eq (dir.testBit i) _
  obtain ⟨out1, dio⟩ := low s 32 0 s.dio.driven
  obtain ⟨out2, supplies⟩ := low { s with out := out1 } 4 64 s.dio.supplyDriven
  obtain ⟨out3, ports⟩ := sdci { s with out := out2 }
  obtain ⟨out4, pins⟩ := workers { s with out := out3 } s.wu.padDir
  unfold State.padsOff
  dsimp only
  rw [dio, supplies, ports, pins]
  exact State.drive_if_eq { s with out := out4 } s.tu.pps _

/-! ### What a start keeps of the settings (R40, R443) -/

@[simp] theorem State.noteUnstable_settings (s : State) : s.noteUnstable.settings = s.settings := by
  unfold State.noteUnstable
  split <;> rfl

@[simp] theorem State.driveFaultN_settings (s : State) : s.driveFaultN.settings = s.settings := by
  unfold State.driveFaultN
  split
  · rfl
  · obtain ⟨out, driven⟩ := (s.setFlag 0x6000 4 s.faultN).drive_eq (.pad 68 (!s.faultN))
    rw [driven]
    rfl

/-- A start keeps the settings copies as an interruption leaves them. -/
theorem State.settings_startFrom (s : State) (cause : Nat) : (s.startFrom cause).settings = s.cutSave := by
  obtain ⟨out, off⟩ := s.padsOff_eq
  unfold State.startFrom
  dsimp only
  rw [State.driveFaultN_settings, State.noteUnstable_settings, off]
  rfl

theorem validSet_sealSet (x : SavedSet) : validSet (some (sealSet x)) = some (sealSet x) := by
  have valid : ((sealSet x).crc == crc32c (setBytes (sealSet x))) = true := beq_self_eq_true _
  simp [validSet, Option.filter, valid]

/-- The set of a hub with nothing but its number of saves. -/
def bareSet (seq : Nat) : SavedSet where
  seq := seq
  release := 0
  objs := []
  flow := []
  waggles := []
  banks := []
  node := 0
  ringMap := {}
  storage := []
  crc := 0

/-- Copies A and B hold the saves 2 and 1, and save 3 is being written over the older one, B. -/
def savingState : State :=
  { State.reset with settings := {
      copyA := some (sealSet (bareSet 2)), copyB := some (sealSet (bareSet 1)), writing := some (sealSet (bareSet 3)) } }

theorem saveToB_savingState : savingState.saveToB = true := by
  have validA : validSet savingState.settings.copyA = some (sealSet (bareSet 2)) := validSet_sealSet _
  have validB : validSet savingState.settings.copyB = some (sealSet (bareSet 1)) := validSet_sealSet _
  have newestA : savingState.settings.newestB = false := by
    unfold Settings.newestB
    rw [validA, validB]
    dsimp only [sealSet, bareSet]
    decide
  have noTrial : savingState.onTrial = false := rfl
  unfold State.saveToB
  rw [noTrial, validA, newestA]
  rfl

/-- An interruption loses the copy B that is being written. -/
theorem State.cutSave_copyB_lost {s : State} (writing : s.settings.writing.isSome = true) (toB : s.saveToB = true) :
    s.cutSave.copyB = none := if_pos (by simp [writing, toB])

theorem copyB_startFrom_savingState (cause : Nat) : (savingState.startFrom cause).settings.copyB = none := by
  rw [State.settings_startFrom, State.cutSave_copyB_lost rfl saveToB_savingState]

/-- Refutes O1: a power-on does not keep both settings copies. Where a save is running, the copy that it writes is lost (R40), as
`savingState` shows with copy B. -/
theorem not_startUpSteps : ¬ Obligations.StartUpSteps := by
  unfold Obligations.StartUpSteps
  rintro ⟨powerOn, _⟩
  obtain ⟨t, ran, kept⟩ := powerOn savingState
  obtain ⟨_, _, _, _, _, _, _, _, _, _, _, _, _, _, copyB, _⟩ := kept
  have started : savingState.startFrom 1 = t := Host.Outcome.next.inj ran
  rw [← started, copyB_startFrom_savingState] at copyB
  exact absurd copyB (Option.some_ne_none _).symm

end Sys2Proof.Machine
end

section
/-!
Power states, the JTAG port, margin plans and health events (R463 to R474, R500, R502).
-/

namespace Sys2Proof.Machine

/-! ### The JTAG port (R502) -/

section Jtag

variable {s : State}

theorem State.drivePads_eq (s : State) (level : Nat → Option Bool) : ∃ out, s.drivePads level = { s with out := out } := by
  refine s.foldl_out_eq _ _ fun t i => ?_
  cases level i with
  | some on => exact ⟨_, rfl⟩
  | none => exact ⟨_, rfl⟩

/-- An instruction stands in the port, and pads that JTAG gives back take the hub's levels; nothing else changes. -/
theorem State.jtagTake_eq (s : State) (i : JtagInstr) :
    ∃ out, s.jtagTake i = { s with out := out, jtag := { s.jtag with instruction := i } } := by
  unfold State.jtagTake
  dsimp only
  split
  · exact State.drivePads_eq { s with jtag := { s.jtag with instruction := i } } s.padLevel
  · exact ⟨_, rfl⟩

theorem State.idcode_jtagTake (s : State) (i : JtagInstr) : (s.jtagTake i).idcode = s.idcode := by
  obtain ⟨out, taken⟩ := s.jtagTake_eq i
  rw [taken]
  rfl

theorem State.boundary_jtagTake (s : State) (i : JtagInstr) : (s.jtagTake i).jtag.boundary = s.jtag.boundary := by
  obtain ⟨out, taken⟩ := s.jtagTake_eq i
  rw [taken]

theorem State.idcode_parts (s : State) : s.idcode % 2 ^ 28 = 0x055486B5 ∧ s.idcode / 2 ^ 28 = s.ident.siliconRev / 256 % 16 := by
  unfold State.idcode
  omega

end Jtag

/-! ### Which state is allowed and kept (R472, R473) -/

section Power

variable {s : State}

/-- S0 has no condition. -/
theorem State.holdsTo_zero (s : State) : s.holdsTo 0 = true := rfl

theorem State.powerCheck_holdUp (holdUp : s.val 0x7000 3 = 4) : s.powerCheck = s := if_pos (by rw [holdUp])

/-- Below hold-up the deepest state is kept that the tolerance and the conditions allow. -/
theorem State.powerCheck_powered {n : Nat} (present : s.val 0x7000 3 = n) (powered : n < 4) : s.powerCheck =
    s.wakeTo (((List.range (n + 1)).filter fun k => k ≤ s.allowedState && s.holdsTo k).foldl max 0) := by
  unfold State.powerCheck
  dsimp only
  rw [present, if_neg (by omega)]

theorem State.powerCheck_s1_kept (present : s.val 0x7000 3 = 1) (allowed : s.allowedState = 1) (holds : s.holdsTo 1 = true) :
    s.powerCheck = s.wakeTo 1 := by
  rw [State.powerCheck_powered present (by decide), allowed]
  simp [List.range_succ, State.holdsTo_zero, holds]

theorem State.powerCheck_s3_left (present : s.val 0x7000 3 = 3) (allowed : s.allowedState = 0) : s.powerCheck = s.wakeTo 0 := by
  rw [State.powerCheck_powered present (by decide), allowed]
  simp [List.range_succ, State.holdsTo_zero]

/-! ### Entry and exit (R472 to R474) -/

theorem State.powerEnter_s1 (present : s.val 0x7000 3 = 0) (awake : s.pw.wakeAt = none) (allowed : s.allowedState = 1)
    (ripe : s.ripe 0 = true) : s.powerEnter = s.setPower 1 := by
  simp [State.powerEnter, present, awake, allowed, ripe]

theorem State.powerEnter_s3 (present : s.val 0x7000 3 = 2) (awake : s.pw.wakeAt = none) (allowed : s.allowedState = 3)
    (ripe0 : s.ripe 0 = true) (ripe1 : s.ripe 1 = true) (ripe2 : s.ripe 2 = true) : s.powerEnter = s.enterS3 := by
  simp [State.powerEnter, present, awake, allowed, ripe0, ripe1, ripe2]

/-- A tolerance that allows S0 alone lets the hub enter nothing. -/
theorem State.powerEnter_s0 (allowed : s.allowedState = 0) : s.powerEnter = s := by
  simp [State.powerEnter, allowed]

theorem State.powerWake_early {t n : Nat} (wakes : s.pw.wakeAt = some (t, n)) (early : s.uptime < t) : s.powerWake = s := by
  unfold State.powerWake
  rw [wakes]
  exact if_pos early

end Power

/-- Settles O45: an evaluation by whether the hub is in hold-up, each JTAG instruction by definition, and the power state by the
tolerance and the conditions. -/
theorem powerStates : Obligations.PowerStates := by
  unfold Obligations.PowerStates
  refine ⟨?powered, ?holdUp, fun rq v s => rfl, fun b s => rfl, fun b s => rfl, ?idcode, fun b s => rfl, fun b s => rfl, ?clamp,
    fun b s => rfl, fun s => s.idcode_parts, ?taken, fun b s => rfl, fun s => rfl, fun s => State.powerCheck_holdUp,
    fun s => State.powerCheck_s1_kept, fun s => State.powerCheck_s3_left, fun s => State.powerEnter_s1, fun s => State.powerEnter_s3,
    fun s => State.powerEnter_s0, fun t n s => State.powerWake_early⟩
  case powered =>
    rintro m _ s rfl powered
    exact congrArg done (if_neg powered)
  case holdUp =>
    rintro m _ s rfl holdUp
    exact congrArg done (if_pos holdUp)
  case idcode =>
    intro b s
    exact congrArg (fun code => done ((s.jtagTake .idcode).emit (.tdo 32 code))) (s.idcode_jtagTake .idcode)
  case clamp =>
    intro b s
    exact congrArg (fun bits => done (((s.jtagTake .clamp).emit (.tdo 1 0)).drivePads (padBits bits))) (s.boundary_jtagTake .clamp)
  case taken =>
    intro i s
    obtain ⟨out, taken⟩ := s.jtagTake_eq i
    rw [taken]
    exact ⟨rfl, rfl, rfl⟩

/-! ### Margin plans and health events (R463 to R469) -/

section Health

variable {s : State}

@[simp] theorem State.raise_hm (s : State) (source kind cls arg : Nat) : (s.raise source kind cls arg).hm = s.hm := by
  obtain ⟨_, _, _, _, raised⟩ := s.raise_eq source kind cls arg
  rw [raised]

theorem State.planDue_formPlan (s : State) (m : PlanMeasure) (daily : Bool) : (s.formPlan m daily).hm.planDue = false := by
  unfold State.formPlan
  dsimp only
  rw [State.raise_hm]

theorem execMarginPlan_daily {d : Deadline} (m : PlanMeasure) (running : s.mgmt.restarting = false) (powered : s.combOff = false)
    (due : s.due .plan = true) (deadline : s.deadline .plan = some d) :
    execMarginPlan m s = .next ((s.armRing .plan (d.at_ + secs 86400)).formPlan m true) := by
  refine congrArg done ((if_neg (by simp [running, powered])).trans ((if_pos due).trans ?_))
  rw [deadline]

theorem execMarginPlan_triggered (m : PlanMeasure) (running : s.mgmt.restarting = false) (powered : s.combOff = false)
    (notDue : s.due .plan = false) (trigger : s.hm.planDue = true) : execMarginPlan m s = .next (s.formPlan m false) :=
  congrArg done ((if_neg (by simp [running, powered])).trans ((if_neg (by simp [notDue])).trans (if_pos trigger)))

theorem execSlackEvent_below (d : Fin 16) {slack : Int} {t : State} (below : slack < (s.val 0x6201 2 : Int))
    (planned : t = planNowFx ((s.setVal 0x6220 (0x21 + d.val) (ofSigned 16 slack)).bump 0x6200 6)) :
    execSlackEvent d slack s = .next (if 900 ≤ s.val 0x6200 3 then t.marginLowEvent 1 0 (s.val 0x6200 3)
      else t.setVal 0x6200 3 (min 900 (s.val 0x6200 3 + 10))) := by
  subst planned
  exact congrArg done (if_neg (by omega))

end Health

/-- Settles O46: a plan by what lets it form, and each monitor's event by its limit and by whether it has been raised. -/
theorem marginPlans : Obligations.MarginPlans := by
  unfold Obligations.MarginPlans
  refine ⟨fun m d s => execMarginPlan_daily m, fun m s => execMarginPlan_triggered m, ?held, fun m daily s => s.planDue_formPlan m daily,
    fun rq v s => rfl, fun rq p v s => rfl, fun d slack s above => congrArg done (if_pos above), ?slackStep, ?slackTop,
    ?hot, ?hotAgain, ?limit, ?cool, ?ripple, ?rippleAgain⟩
  case held =>
    intro m s held
    exact congrArg done (if_pos (by simpa using held))
  case slackStep =>
    intro d slack s below low
    exact (execSlackEvent_below d below rfl).trans (congrArg done (if_neg (by omega)))
  case slackTop =>
    intro d slack s below top
    exact (execSlackEvent_below d below rfl).trans (congrArg done (if_pos top))
  case hot => exact fun i temp s fresh above => congrArg done (if_neg (by simp [fresh, above]))
  case hotAgain => exact fun i temp s raised => congrArg done (if_pos (by simp [raised]))
  case limit => exact fun i temp s fresh above => congrArg done (if_neg (by simp [fresh, above]))
  case cool => exact fun i temp s below => congrArg done (if_pos (by simp [below]))
  case ripple => exact fun mv s fresh above => congrArg done (if_neg (by simp [fresh, above]))
  case rippleAgain => exact fun mv s raised => congrArg done (if_pos (by simp [raised]))

end Sys2Proof.Machine
end

section
/-!
The write that asks for a management restart (R475): its checks, its answer and the restart behind it.
-/

namespace Sys2Proof.Machine

section MgmtRestart

variable {s : State} {rq : Requester}

/-- The row of MGMT_RESTART: a write-only word of which no change can be taken back (R475). -/
def mgmtRestartRow : ObjRow := ⟨6, 6, .u32, .wo, 0, false, .any⟩

theorem objRow_mgmtRestart : objRow? (objKey 0x7000 6 / 256) (objKey 0x7000 6 % 256) = some mgmtRestartRow := by decide

theorem State.roleCheck_mgmtRestart (powered : s.bench = false) : s.roleCheck rq (objKey 0x7000 6) = .ok := by
  simp [State.roleCheck, powered, objKey]

theorem State.valueCheck_mgmtRestart (v : Nat) :
    s.valueCheck (objKey 0x7000 6) v = if v == 0x72657374 then .ok else .range := by
  simp [State.valueCheck, objKey, inSpan]

/-- A word that reaches the value check passes it as the key of R475, and only so. -/
theorem State.checkWrite_mgmtRestart {v : Nat} (word : v < 2 ^ 32) (powered : s.bench = false)
    (found : s.checkObject rq (objKey 0x7000 6) (writeRight (objKey 0x7000 6)) = .ok) :
    s.checkWrite rq (objKey 0x7000 6) (leBytes 4 v) = if v = 0x72657374 then .ok else .range := by
  have spelled : valueOf mgmtRestartRow.ty (leBytes 4 v) = v := (leNat_leBytes 4 v).trans (Nat.mod_eq_of_lt word)
  have noGroup : groupOf (objKey 0x7000 6 / 256) = none := by decide
  unfold State.checkWrite
  rw [found, objRow_mgmtRestart, State.roleCheck_mgmtRestart powered, noGroup]
  dsimp only
  rw [spelled, State.valueCheck_mgmtRestart]
  by_cases key : v = 0x72657374
  · simp [key, mgmtRestartRow, lengthOk, typeOk, ValRange.holds, OType.size]
  · simp [key, mgmtRestartRow, lengthOk, typeOk, ValRange.holds, OType.size]

/-- An accepted write changes nothing by itself. -/
theorem State.writeCore_mgmtRestart {bytes : List Byte} (powered : s.bench = false)
    (accepted : s.checkWrite rq (objKey 0x7000 6) bytes = .ok) :
    s.writeCore rq (objKey 0x7000 6) bytes (fun _ t => t) = (s, .ok) := by
  have noGroup : groupOf (objKey 0x7000 6 / 256) = none := by decide
  have volatile : keyPersistent (objKey 0x7000 6) = false := by decide
  have unchanged : s.noteChange (objKey 0x7000 6) = s := if_neg (by simp [volatile])
  unfold State.writeCore
  rw [accepted, objRow_mgmtRestart, noGroup, powered]
  exact congrArg (·, Result.ok) unchanged

theorem State.writeCore_refused {key : Nat} {bytes : List Byte} {e : Result} (fx : Nat → State → State)
    (refused : s.checkWrite rq key bytes = e) (bad : e ≠ .ok) :
    s.writeCore rq key bytes fx = (s.noteRefusal rq key (writeRight key), e) := by
  unfold State.writeCore
  rw [refused]
  cases e with
  | ok => exact absurd rfl bad
  | _ => rfl

/-- What waits behind a write-only object has no value that could be taken back (R31). -/
theorem State.noteOld_writeOnly (s before : State) {key : Nat} (writeOnly : (objRow? (key / 256) (key % 256)).map (·.acc) = some .wo) :
    s.noteOld before key = s := by
  unfold State.noteOld
  rw [writeOnly]
  split
  case isTrue => rfl
  case isFalse longer =>
    obtain ⟨l, w, held⟩ : ∃ l w, s.dx.mirrorWait = l ++ [w] := by
      refine ⟨_, _, (List.dropLast_append_getLast (l := s.dx.mirrorWait) ?_).symm⟩
      rintro empty
      exact longer (by simp [empty])
    refine congrArg (fun l => { s with dx := { s.dx with mirrorWait := l } }) (?_ : _ = s.dx.mirrorWait)
    rw [held]
    simp

end MgmtRestart

/-- Settles O52: the key passes the value check and the restart begins behind the answer; any other word is turned away by it. -/
theorem restartByWrite : Obligations.RestartByWrite := by
  unfold Obligations.RestartByWrite
  refine ⟨?key, fun cause s => ⟨by simp, by simp⟩, ?other⟩
  case key =>
    intro rq s powered found
    have accepted := (State.checkWrite_mgmtRestart (by decide) powered found).trans (if_pos rfl)
    exact execMgmtRestart_accepted (r := (s, .ok)) (State.writeCore_mgmtRestart powered accepted).symm rfl
  case other =>
    intro rq v s powered found other
    have refused := (State.checkWrite_mgmtRestart v.isLt powered found).trans (if_neg fun key => other (BitVec.eq_of_toNat_eq key))
    have bad : Result.range ≠ .ok := by decide
    refine (execMgmtRestart_refused (State.writeCore_refused _ refused bad).symm bad).trans ?_
    rw [State.turnedAway, State.noteOld_writeOnly _ _ (by rw [objRow_mgmtRestart]; rfl)]

end Sys2Proof.Machine
end

section
/-!
The update engine (ch. 16): verification, distribution and channel images (R484 to R493), activation and trial (R494 to R498), and the
recorder over USB (R500).
-/

namespace Sys2Proof.Machine

/-! ### Verification (R488) -/

section Verification

variable {s t : State} {k : Fin 2}

/-- The slot being verified leaves verification and goes where the outcome says. -/
theorem execVerificationDone_verifying (o : SignatureResult) (verifying : s.up.verifying = some k)
    (left : t = { s with up := { s.up with verifying := none } }) : execVerificationDone o s = .next (match o with
      | .good => ((t.setSlot k 1 3).setVal 0x7010 2 3).raise 5 2 corrected
          (packArg [i16 k.val, i16 (t.slotVal k 2), i32 (t.slotVal k 3)])
      | .bad => t.refuseImage (some k) 11 (t.slotVal k 2)
      | .revoked => t.refuseImage (some k) 12 (t.slotVal k 2)) := by
  subst left
  unfold execVerificationDone
  rw [verifying]
  cases o <;> rfl

theorem execVerificationDone_none (o : SignatureResult) (none_ : s.up.verifying = none) : execVerificationDone o s = .next s := by
  unfold execVerificationDone
  rw [none_]
  rfl

end Verification

/-! ### Distribution (R490, R491) -/

section Distribution

variable {s : State} {repair : Bool} {p : List Byte} {n : Nat}

/-- What the table of R490 allows as a segment: whole, at a multiple of 1,024, and as long as the image has bytes there. -/
def segmentFits (p : List Byte) : Bool :=
  p.length == 16 + beAt p 12 2 && beAt p 4 4 % 1024 == 0 && (beAt p 12 2 == min 1024 (beAt p 8 4 - beAt p 4 4)) &&
    decide (beAt p 4 4 < beAt p 8 4)

theorem execDistributionFrame_off (off : s.val 0x7014 (if repair then 2 else 1) = 0xFFFF) :
    execDistributionFrame repair p s = .next s := congrArg done (if_pos off)

theorem State.dropImage_none (idle : s.up.rx = none) : s.dropImage = s := by
  unfold State.dropImage
  rw [idle]

section Enabled

variable (on : s.val 0x7014 (if repair then 2 else 1) ≠ 0xFFFF)
include on

theorem execDistributionFrame_misfit (misfit : segmentFits p = false) :
    execDistributionFrame repair p s = .next (s.bump 0x7014 5) :=
  congrArg done ((if_neg on).trans (if_pos (by rw [← segmentFits, misfit]; rfl)))

/-- A segment of the image that is arriving is stored. -/
theorem execDistributionFrame_next (fits : segmentFits p = true) (same : s.up.dist = some (beAt p 0 4)) :
    execDistributionFrame repair p s = .next (s.storeSegment (beAt p 4 4) ((p.drop 16).take (beAt p 12 2))) :=
  congrArg done ((if_neg on).trans ((if_neg (by rw [← segmentFits, fits]; decide)).trans (if_pos same)))

/-- The first segment of another image begins its reception where nothing arrives. -/
theorem execDistributionFrame_begins {t : State} (fits : segmentFits p = true) (first : beAt p 4 4 = 0)
    (other : s.up.dist ≠ some (beAt p 0 4)) (idle : s.up.rx = none) (begun : t = s.beginImage (some (beAt p 0 4)) (beAt p 8 4)) :
    execDistributionFrame repair p s = .next (State.storeSegment { t.setVal 0x7014 3 (beAt p 0 4) with
      up := { t.up with dist := some (beAt p 0 4) } } 0 ((p.drop 16).take (beAt p 12 2))) := by
  refine congrArg done ((if_neg on).trans ((if_neg (by rw [← segmentFits, fits]; decide)).trans
    ((if_neg other).trans ((if_neg (by simp [first, idle])).trans ?_))))
  dsimp only
  rw [State.dropImage_none idle, ← begun]

end Enabled

theorem State.storeSegment_busy {r : Reception} (pos : Nat) (data : List Byte) (arriving : s.up.rx = some r)
    (busy : s.uptime < r.busyUntil) : s.storeSegment pos data = s.bump 0x7014 6 := by
  unfold State.storeSegment
  rw [arriving]
  exact if_pos busy

theorem State.storeSegment_again {r : Reception} (pos : Nat) (data : List Byte) (arriving : s.up.rx = some r)
    (free : r.busyUntil ≤ s.uptime) (held : (r.pieces.any fun x => x.1 == pos) = true) : s.storeSegment pos data = s := by
  unfold State.storeSegment
  rw [arriving]
  exact (if_neg (by omega)).trans (if_pos held)

end Distribution

/-! ### Channel images (R493) -/

section Channels

variable {s : State} {typ n v : Nat} {l : List (Nat × Nat × Nat)}

theorem loadChannelsFx_only (mask : Nat) {c : ChanImage} (only : s.up.channels = [c]) (kind : c.typ = s.val 0x7010 0xA) :
    loadChannelsFx mask s = { s with
      up := { s.up with loads := s.up.loads ++ ((List.range 8).filter mask.testBit).map fun n => (c.typ, n, c.version) } } := by
  unfold loadChannelsFx
  dsimp only
  rw [only, ← kind, List.filter_cons_of_pos (by simp)]
  rfl

theorem execChannelLoaded_none (b : Bool) (noLoad : s.up.loads = []) : execChannelLoaded b s = .next s := by
  unfold execChannelLoaded
  rw [noLoad]
  rfl

theorem execChannelLoaded_waits (b : Bool) (next : s.up.loads = (typ, n, v) :: l) (running : s.channelFree typ n = false) :
    execChannelLoaded b s = .next s := by
  unfold execChannelLoaded
  rw [next]
  exact congrArg done (if_pos (by simp [running]))

/-- At its boundary a channel runs the new image, or keeps its own where the read back differs. -/
theorem execChannelLoaded_free {t : State} (b : Bool) (next : s.up.loads = (typ, n, v) :: l) (free : s.channelFree typ n = true)
    (taken : t = { s with up := { s.up with loads := l } }) : execChannelLoaded b s = .next (if b then
      (t.setVal 0x7013 (channelSub typ n) v).raise 5 4 corrected (packArg [i16 typ, i16 n, i32 v])
      else t.raise 5 6 contained (packArg [i16 typ, i16 n])) := by
  subst taken
  unfold execChannelLoaded
  rw [next]
  exact congrArg done (if_neg (by simp [free]))

end Channels

/-- Settles O48: a verification by its outcome, a segment by what the table allows and what is arriving, and a load by its channel. -/
theorem imageReception : Obligations.ImageReception := by
  unfold Obligations.ImageReception
  refine ⟨fun k s verifying => execVerificationDone_verifying .good verifying rfl,
    fun k s verifying => execVerificationDone_verifying .bad verifying rfl,
    fun k s verifying => execVerificationDone_verifying .revoked verifying rfl, fun o s => execVerificationDone_none o,
    fun k c t s => rfl, fun repair p s => execDistributionFrame_off, ?misfit, ?next, ?begins,
    fun pos d r s => State.storeSegment_busy pos d, fun pos d r s => State.storeSegment_again pos d, fun rq v s => rfl,
    fun mask c s => loadChannelsFx_only mask, fun b s => execChannelLoaded_none b, fun b typ n v l s => execChannelLoaded_waits b,
    fun typ n v l s next free => execChannelLoaded_free true next free rfl,
    fun typ n v l s next free => execChannelLoaded_free false next free rfl⟩
  case misfit =>
    intro repair p s on length
    exact execDistributionFrame_misfit on (by simp [segmentFits, length])
  case next =>
    rintro repair p _ s on rfl length aligned size inside same
    exact execDistributionFrame_next on (by simp [segmentFits, length, aligned, ← size, inside]) same
  case begins =>
    rintro repair p _ s on rfl length size first some_ other idle
    exact execDistributionFrame_begins on (by simp [segmentFits, length, first, ← size, some_]) first other idle rfl

/-! ### Activation (R494 to R498) -/

section Activation

variable {s : State} {k : Fin 2}

theorem execActivatePair_differs (rq : Requester) (accepted : s.checkWrite rq (objKey 0x7010 4) (leBytes 1 (0x20 + k.val)) = .ok) :
    execActivatePair rq k false s = .next (s.answerWrite rq 2 (objKey 0x7010 4) .imageRefused (leBytes 1 (0x20 + k.val))) :=
  congrArg done (if_neg (by simp [accepted]))

theorem activateFx_later (v : Nat) (later : s.ringTime < ofTime80 (s.val 0x7010 5)) : activateFx v s =
    State.armRing { s with up := { s.up with waiting := some v } } .activation (ofTime80 (s.val 0x7010 5)) := if_pos later

theorem activateFx_now (v : Nat) (now : ofTime80 (s.val 0x7010 5) ≤ s.ringTime) : activateFx v s = s.activate v :=
  if_neg (by omega)

theorem execActivationTime_due {v : Nat} (due : s.due .activation = true) (waiting : s.up.waiting = some v) :
    execActivationTime s = .next (State.activate { s.disarm .activation with up := { s.up with waiting := none } } v) := by
  have named : (s.disarm .activation).up.waiting = some v := waiting
  refine congrArg done ((s.onDue_of_due _ _ due).trans ?_)
  rw [named]
  rfl

theorem State.activateSlot_unverified (unverified : s.slotVal k 1 ≠ 3) : s.activateSlot k = s := if_pos (by simp [unverified])

/-- A VERIFIED slot starts by the kind of its image. -/
theorem State.activateSlot_verified (verified : s.slotVal k 1 = 3) : s.activateSlot k =
    if s.slotVal k 2 = 0x11 then s.startPhy k s.ringTime
    else if s.slotVal k 2 = 0x12 then { s.setSlot k 1 4 with up := { s.up with loader := some k } }
    else State.beginRestart { s.setSlot k 1 4 with up := { s.up with starts := some k } } 4 := if_neg (by simp [verified])

theorem execPhyWestRetrain_first (due : s.due .phyWest = true) (notRun : s.up.phyRuns.2 = none) :
    execPhyWestRetrain s = .next ((s.disarm .phyWest).phyRetrain .west) :=
  congrArg done ((s.onDue_of_due _ _ due).trans (if_pos (by simp [notRun])))

theorem execPhyWestRetrain_again {v : Nat} (due : s.due .phyWest = true) (run : s.up.phyRuns.2 = some v) :
    execPhyWestRetrain s = .next (s.disarm .phyWest) :=
  congrArg done ((s.onDue_of_due _ _ due).trans (if_neg (by simp [run])))

theorem State.confirm_trial (trial : s.trialSlot = some k) (noLoader : s.up.loaderTrial = none) :
    s.confirm = (s.setSlot k 1 5).disarm .confirm := by
  have still : (s.setSlot k 1 5).up.loaderTrial = none := noLoader
  unfold State.confirm
  dsimp only
  rw [trial]
  dsimp only
  rw [still]

end Activation

/-! ### The recorder over USB (R500) -/

section Usb

variable {s : State} (tag : Fin 65536) {target : BitVec 64} (seq : BitVec 32) {k : Fin 256}

/-- A response of KIND 3 and the code that 0x1020:9 keeps of it. -/
def State.usbRecorderReply (s : State) (tag : Fin 65536) (res : Result) (body : List Byte) : State :=
  (s.emit (.usb 0x81 (beBytes 1 0x83 ++ beBytes 1 res.code ++ beBytes 2 tag.val ++ beBytes 8 (Config.usbTarget tag.val).toNat ++
    body))).setVal 0x1020 9 res.code

theorem execUsbRecorderRead_detached (detached : s.flag 0x7020 1 = false) : execUsbRecorderRead tag target seq k s = .next s :=
  congrArg done (if_pos (by simp [detached]))

theorem execUsbRecorderRead_elsewhere (attached : s.flag 0x7020 1 = true) (named : bitField target.toNat 59 47 ≠ 0)
    (other : bitField target.toNat 59 47 ≠ s.node ∨ bitField target.toNat 63 60 ≠ s.ring) :
    execUsbRecorderRead tag target seq k s = .next ((s.bump 0x7020 3).usbRecorderReply tag .noTarget []) := by
  refine congrArg done ((if_neg (by simp [attached])).trans (if_pos ?_))
  rcases other with node | ring
  · simp [named, node]
  · simp [named, ring]

section Here

variable (attached : s.flag 0x7020 1 = true) (here : bitField target.toNat 59 47 = 0)
include attached here

theorem execUsbRecorderRead_range (none_ : k.val = 0) :
    execUsbRecorderRead tag target seq k s = .next ((s.bump 0x7020 3).usbRecorderReply tag .range []) :=
  congrArg done ((if_neg (by simp [attached])).trans ((if_neg (by simp [here])).trans (if_pos (by simp [none_]))))

theorem execUsbRecorderRead_stable (some_ : 0 < k.val) (fits : k.val ≤ 63) (stable : s.rcd.unstable = false) :
    execUsbRecorderRead tag target seq k s = .next
      ((s.bump 0x7020 3).usbRecorderReply tag .ok ((s.bump 0x7020 3).cursorBytes seq.toNat k.val)) := by
  have counted : (k.val = 0 || 63 < k.val : Bool) = false := by
    simp only [Bool.or_eq_false_iff, decide_eq_false_iff_not]
    omega
  refine congrArg done ((if_neg (by simp [attached])).trans ((if_neg (by simp [here])).trans
    ((if_neg (by rw [counted]; decide)).trans (if_neg (by simp [stable])))))

end Here

end Usb

/-- Settles O49: a write of ACTIVATE by its time and its slot, the retrains by their alarms and their port, a trial by what is on it, and
KIND 3 by where it is sent and what it asks for. -/
theorem activation : Obligations.Activation := by
  unfold Obligations.Activation
  refine ⟨fun rq k s => rfl, fun rq k s => congrArg done (if_pos rfl), fun rq k s => execActivatePair_differs rq,
    fun v s => activateFx_later v, ?now, fun v s => execActivationTime_due, fun s notDue => congrArg done (s.onDue_of_not_due _ _ notDue),
    fun k s => State.activateSlot_unverified, ?management, ?phy, ?loader, fun p s up => if_pos up, ?notUp,
    fun s due => congrArg done (s.onDue_of_due _ _ due), fun s notDue => congrArg done (s.onDue_of_not_due _ _ notDue),
    fun s => execPhyWestRetrain_first, fun s notDue => congrArg done (s.onDue_of_not_due _ _ notDue),
    fun v s => execPhyWestRetrain_again, fun rq v s => rfl, fun s due => congrArg done (s.onDue_of_due _ _ due),
    fun k s => State.confirm_trial, fun tag target seq k s => execUsbRecorderRead_detached tag seq,
    fun tag target seq k s => execUsbRecorderRead_range tag seq, fun tag target seq k s => execUsbRecorderRead_stable tag seq,
    fun tag target seq k s => execUsbRecorderRead_elsewhere tag seq⟩
  case now =>
    intro s now
    simp only [activateFx_now _ now]
    exact ⟨rfl, rfl, rfl, rfl⟩
  case management =>
    intro k s verified kind
    rw [State.activateSlot_verified verified, if_neg (by simp [kind]), if_neg (by simp [kind])]
  case phy =>
    intro k s verified kind
    rw [State.activateSlot_verified verified, if_pos kind]
    rfl
  case loader =>
    intro k s verified kind
    rw [State.activateSlot_verified verified, if_neg (by simp [kind]), if_pos kind]
  case notUp => exact fun p s down => if_neg (by simp [down])

end Sys2Proof.Machine
end
